-- ==== Sys2Proof/Word.lean ====
section
/-! DEFINITION. The plain containers of the model: bytes, tine masks, and the small fixed families of
like things (four heads, five channels, four track axes, sixteen axes, three clamps). -/

namespace Sys2Proof

/-- One byte of the work link or of the measuring line. -/
abbrev Byte := BitVec 8

/-- A set of the sixteen tine arms, arm 0 in the least significant bit (00 "Heads and arms"). -/
abbrev TineMask := BitVec 16

/-- Four like things: the heads H1 to H4, the arms FO, FI, RO, RI of a head, or the pages 0 to 3. -/
structure Quad (α : Type) where
  a : α
  b : α
  c : α
  d : α
deriving DecidableEq, Repr

def Quad.get {α : Type} (q : Quad α) : Fin 4 → α
  | 0 => q.a
  | 1 => q.b
  | 2 => q.c
  | 3 => q.d

def Quad.set {α : Type} (q : Quad α) (i : Fin 4) (x : α) : Quad α :=
  match i with
  | 0 => { q with a := x }
  | 1 => { q with b := x }
  | 2 => { q with c := x }
  | 3 => { q with d := x }

def Quad.all4 {α : Type} (x : α) : Quad α := ⟨x, x, x, x⟩

def Quad.ofFn {α : Type} (f : Fin 4 → α) : Quad α := ⟨f 0, f 1, f 2, f 3⟩

def Quad.map {α β : Type} (f : α → β) (q : Quad α) : Quad β := ⟨f q.a, f q.b, f q.c, f q.d⟩

def Quad.toList {α : Type} (q : Quad α) : List α := [q.a, q.b, q.c, q.d]

def Quad.allTrue (q : Quad Bool) : Bool := q.a && q.b && q.c && q.d

def Quad.anyTrue (q : Quad Bool) : Bool := q.a || q.b || q.c || q.d

/-- One value for each measuring channel, in channel order (00 "Measuring channels"). -/
structure Channels (α : Type) where
  line : α
  levelL : α
  levelR : α
  cross : α
  levelB : α
deriving DecidableEq, Repr

def Channels.all5 {α : Type} (x : α) : Channels α := ⟨x, x, x, x, x⟩

def Channels.toList {α : Type} (c : Channels α) : List α :=
  [c.line, c.levelL, c.levelR, c.cross, c.levelB]

def Channels.map {α β : Type} (f : α → β) (c : Channels α) : Channels β :=
  ⟨f c.line, f c.levelL, f c.levelR, f c.cross, f c.levelB⟩

def Channels.zip {α β γ : Type} (f : α → β → γ) (c : Channels α) (e : Channels β) : Channels γ :=
  ⟨f c.line e.line, f c.levelL e.levelL, f c.levelR e.levelR, f c.cross e.cross,
    f c.levelB e.levelB⟩

/-- One value for each track axis, in axis order (09 "The supervised axes"). -/
structure Track (α : Type) where
  liftL : α
  liftR : α
  liftB : α
  line : α
deriving DecidableEq, Repr

def Track.all4 {α : Type} (x : α) : Track α := ⟨x, x, x, x⟩

def Track.toList {α : Type} (t : Track α) : List α := [t.liftL, t.liftR, t.liftB, t.line]

def Track.map {α β : Type} (f : α → β) (t : Track α) : Track β :=
  ⟨f t.liftL, f t.liftR, f t.liftB, f t.line⟩

def Track.zip {α β γ : Type} (f : α → β → γ) (t : Track α) (u : Track β) : Track γ :=
  ⟨f t.liftL u.liftL, f t.liftR u.liftR, f t.liftB u.liftB, f t.line u.line⟩

/-- One value for each of the sixteen supervised axes (00 "Axes"). -/
structure Axes (α : Type) where
  headV : Quad α
  sqz : Quad α
  trav : Quad α
  track : Track α
deriving DecidableEq, Repr

def Axes.all16 {α : Type} (x : α) : Axes α := ⟨.all4 x, .all4 x, .all4 x, .all4 x⟩

/-- The axes in their order: HEAD_V1 as axis 0 through to LINE as axis 15 (09 R153). -/
def Axes.toList {α : Type} (x : Axes α) : List α :=
  x.headV.toList ++ x.sqz.toList ++ x.trav.toList ++ x.track.toList

/-- One value for the left clamp, the right clamp and the branch hook (08 R138). -/
structure Clamps (α : Type) where
  left : α
  right : α
  hook : α
deriving DecidableEq, Repr

end Sys2Proof
end

