-- ==== Sys2Proof/Syntax.lean ====
section
/-! DEFINITION. The commands: one constructor for each row of spec/opcode_table.json, with the operands
the row's rule gives it. A field that travels on the work link has its width on the wire (11 Formats), so
that values outside a range can be sent and refused. -/

namespace Sys2Proof

/-- A sleeper record as a LOAD_RECORDS body carries it, before validation (11 "Sleeper record"). An
optional value is `some` exactly when its presence bit is set; `spare` holds presence bits 7 to 5, which
name no member. -/
structure WireRecord where
  chainage : BitVec 32
  kind : Byte
  rails : Byte
  refRail : Byte
  obstacles : TineMask
  vd : BitVec 16
  vvd : BitVec 16
  cd : BitVec 16
  skip : Byte
  confirm : Byte
  runOut : Byte
  noDetect : Byte
  eF : Option (BitVec 16)
  eFv : Option (BitVec 16)
  liftOverride : Option (BitVec 16)
  shiftOverride : Option (BitVec 16)
  branchLift : Option (BitVec 16)
  spare : BitVec 3
  heads : List (Byte × BitVec 16)
deriving DecidableEq, Repr

/-- A zone rule as a WRITE_RULE body carries it (11 "Zone rule"). -/
structure WireRule where
  enabled : Byte
  keyType : Byte
  lo : BitVec 32
  hi : BitVec 32
  kind : Byte
  forbid : TineMask
  maxLiftPresent : Byte
  maxLift : BitVec 16
  shiftInhibit : Byte
  reduction : Byte
  insertions : Byte
  confirm : Byte
  skip : Byte
deriving DecidableEq, Repr

/-- A received byte of the work link, with whether its stop bit was good (11 R177). -/
structure RxByte where
  byte : Byte
  stopGood : Bool
deriving DecidableEq, Repr

/-- An axis frame: the sensed position of the sixteen axes in mm and the sensed squeeze pressure of the
four heads in bar (00 "Field lines"; log entry 20). -/
structure AxisFrame where
  sensed : Axes Int
  pressure : Quad Nat
deriving DecidableEq, Repr

/-- What a tilt-confirm sensor reports (07 R123). -/
inductive TiltReport
  | tiltIn
  | tiltOut
  | between
deriving DecidableEq, Repr

/-- The operator inputs whose change to active is activity (09 R162). -/
inductive OperatorInput
  | pedal
  | joystick
  | ackButton
deriving DecidableEq, Repr

/-- The clamps, each with a clamp-closed sensor (08 R138). -/
inductive Clamp
  | left
  | right
  | hook
deriving DecidableEq, Repr

/-- A request after the link's first two checks (11 R179): its owner's arguments, or the reason the link
answers it itself. -/
inductive Call
  | setParam (id : Byte) (value : BitVec 32)
  | getParam (id : Byte)
  | restart
  | openPage (page : Byte)
  | loadRecords (page first : Byte) (records : List WireRecord)
  | closePage (page count endByte : Byte)
  | discardPage (page : Byte)
  | readRecord (page index : Byte)
  | writeRule (slot : Byte) (rule : WireRule)
  | readRule (slot : Byte)
  | clearRules
  | setManualMask (mask : TineMask)
  | setChainage (value : BitVec 32)
  | startRun (page index : Byte)
  | pause
  | resume
  | confirm
  | skipSleeper
  | abortSleeper
  | retamp
  | stopRun
  | clearStop
  | readResults (n : Byte)
  | releaseResults (n : Byte)
  | getStatus
  | getCounters (clear : Byte)
  | clearEvents (mask : Byte)
  | badLength (code : Byte)
  | unknownCode (code : Byte)
deriving DecidableEq, Repr

/-- A request of the request queue: the TAG chosen by the host and what it asks (11 R178). -/
structure Request where
  tag : Byte
  call : Call
deriving DecidableEq, Repr

/-- The commands of the part, one for each row of spec/opcode_table.json. -/
inductive Instr
  /-- SET_PARAM (11 R183) -/
  | setParam (tag id : Byte) (value : BitVec 32)
  /-- GET_PARAM (11 R184) -/
  | getParam (tag id : Byte)
  /-- RESTART (11 R185) -/
  | restart (tag : Byte)
  /-- OPEN_PAGE (01 R4) -/
  | openPage (tag page : Byte)
  /-- LOAD_RECORDS (01 R5) -/
  | loadRecords (tag page first : Byte) (records : List WireRecord)
  /-- CLOSE_PAGE (01 R7) -/
  | closePage (tag page count endByte : Byte)
  /-- DISCARD_PAGE (01 R8) -/
  | discardPage (tag page : Byte)
  /-- READ_RECORD (01 R9) -/
  | readRecord (tag page index : Byte)
  /-- WRITE_RULE (02 R27) -/
  | writeRule (tag slot : Byte) (rule : WireRule)
  /-- READ_RULE (02 R29) -/
  | readRule (tag slot : Byte)
  /-- CLEAR_RULES (02 R30) -/
  | clearRules (tag : Byte)
  /-- SET_MANUAL_MASK (02 R41) -/
  | setManualMask (tag : Byte) (mask : TineMask)
  /-- SET_CHAINAGE (03 R45) -/
  | setChainage (tag : Byte) (value : BitVec 32)
  /-- START_RUN (06 R97) -/
  | startRun (tag page index : Byte)
  /-- PAUSE (06 R110) -/
  | pause (tag : Byte)
  /-- RESUME (06 R111) -/
  | resume (tag : Byte)
  /-- CONFIRM (06 R112) -/
  | confirm (tag : Byte)
  /-- SKIP_SLEEPER (06 R113) -/
  | skipSleeper (tag : Byte)
  /-- ABORT_SLEEPER (06 R114) -/
  | abortSleeper (tag : Byte)
  /-- RETAMP (06 R115) -/
  | retamp (tag : Byte)
  /-- STOP_RUN (06 R116) -/
  | stopRun (tag : Byte)
  /-- CLEAR_STOP (09 R160) -/
  | clearStop (tag : Byte)
  /-- READ_RESULTS (10 R168) -/
  | readResults (tag n : Byte)
  /-- RELEASE_RESULTS (10 R169) -/
  | releaseResults (tag n : Byte)
  /-- GET_STATUS (10 R174) -/
  | getStatus (tag : Byte)
  /-- GET_COUNTERS (10 R176) -/
  | getCounters (tag clear : Byte)
  /-- CLEAR_EVENTS (10 R171) -/
  | clearEvents (tag mask : Byte)
  /-- FRAME_RECEIVED (11 R177): the bytes of a frame, taken one after another -/
  | frameReceived (bytes : List RxByte)
  /-- GAP_LIMIT_EXPIRY (11 R177) -/
  | gapLimitExpiry
  /-- FRAME_SENT (11 R182) -/
  | frameSent
  /-- POWER_ON_RESET (11 R186) -/
  | powerOnReset
  /-- MEASURING_FRAME (04 R64): the bytes as received, and whether the line saw no framing fault -/
  | measuringFrame (bytes : List Byte) (intact : Bool)
  /-- SILENCE_LIMIT_EXPIRY (04 R70) -/
  | silenceLimitExpiry
  /-- AXIS_FRAME (09 R154) -/
  | axisFrame (frame : AxisFrame)
  /-- AXIS_LINE_SILENCE_EXPIRY (09 R156) -/
  | axisLineSilenceExpiry
  /-- SAFETY_CHAIN_CHANGE (09 R157): the new level -/
  | safetyChainChange (closed : Bool)
  /-- OPERATOR_INPUT_ACTIVE (09 R162) -/
  | operatorInputActive (input : OperatorInput)
  /-- ODOMETER_COUNT (03 R44): one count, in the working direction or against it -/
  | odometerCount (forward : Bool)
  /-- DETECTION (03 R56) -/
  | detection
  /-- HALTED (03 R50) -/
  | halted
  /-- INDEX_TIMER_EXPIRY (03 R52) -/
  | indexTimerExpiry
  /-- CLAMP_SENSOR_REPORT (08 R141) -/
  | clampSensorReport (clamp : Clamp) (closed : Bool)
  /-- CLAMP_TIMER_EXPIRY (08 R141) -/
  | clampTimerExpiry
  /-- CORRECTION_TIMER_EXPIRY (08 R145) -/
  | correctionTimerExpiry
  /-- TILT_SENSOR_REPORT (07 R123) -/
  | tiltSensorReport (head arm : Fin 4) (report : TiltReport)
  /-- HEAD_RAISED_SENSOR_REPORT (07 R134) -/
  | headRaisedSensorReport (head : Fin 4) (raised : Bool)
  /-- TRAVERSE_TIMER_EXPIRY (07 R126) -/
  | traverseTimerExpiry (head : Fin 4)
  /-- TILT_TIMER_EXPIRY (07 R126) -/
  | tiltTimerExpiry (head : Fin 4)
  /-- PENETRATION_TIMER_EXPIRY (07 R130) -/
  | penetrationTimerExpiry (head : Fin 4)
  /-- SQUEEZE_TIMER_EXPIRY (07 R131) -/
  | squeezeTimerExpiry (head : Fin 4)
  /-- ATTENTION_TIMER_EXPIRY (09 R163) -/
  | attentionTimerExpiry
  /-- RECEIVED_BYTE (11 R177) -/
  | receivedByte (byte : RxByte)
  /-- RESET_LINE_LOW (11 R186) -/
  | resetLineLow
deriving DecidableEq, Repr

end Sys2Proof
end

