-- ==== Sys2Proof/Decode.lean ====
section
/-! DEFINITION. The command that a word of the opcode table spells. No row of spec/opcode_table.json gives
bits (spec/98_reader.md: no row with "fixed" and none with "fields"), so no word spells a command. The
frames of the work link, which do carry the 27 requests as bytes, are read in Sys2Proof/Machine/Operands.lean. -/

namespace Sys2Proof

/-- The command a word of `nbits` bits spells by the table: none, since the table gives no row any bits
(log entry 29). -/
def decodeTableWord (_nbits _w : Nat) : Option Instr := none

end Sys2Proof
end

