-- ==== Sys2Proof/Machine/Params.lean ====
section
/-! DEFINITION. The parameter store: the 31 parameters of the table of 11 R184, with their ranges and
defaults. -/

namespace Sys2Proof.Machine

/-- The parameters, in the order of their ids 1 to 31 (11 R184). -/
inductive ParamId
  | chordLineRear
  | chordLevelRear
  | chordFront
  | baseLift
  | maxLift
  | shiftLimit
  | slopeLimit
  | settleFrames
  | deadband
  | correctionTime
  | clampTime
  | squeezePressure
  | squeezeTime
  | penetrationTime
  | penetrationDepth
  | insertions
  | detectorLead
  | driftTolerance
  | stopTolerance
  | indexTime
  | followCount
  | followTolHead
  | followTolSqueeze
  | followTolTraverse
  | followTolTrack
  | attentionPeriod
  | attentionSources
  | reportEnable
  | resultsThreshold
  | traverseTime
  | tiltTime
deriving DecidableEq, Repr

/-- The stored value of each parameter, in the parameter's own unit (11 R183). -/
structure Params where
  chordLineRear : Int
  chordLevelRear : Int
  chordFront : Int
  baseLift : Int
  maxLift : Int
  shiftLimit : Int
  slopeLimit : Int
  settleFrames : Int
  deadband : Int
  correctionTime : Int
  clampTime : Int
  squeezePressure : Int
  squeezeTime : Int
  penetrationTime : Int
  penetrationDepth : Int
  insertions : Int
  detectorLead : Int
  driftTolerance : Int
  stopTolerance : Int
  indexTime : Int
  followCount : Int
  followTolHead : Int
  followTolSqueeze : Int
  followTolTraverse : Int
  followTolTrack : Int
  attentionPeriod : Int
  attentionSources : Int
  reportEnable : Int
  resultsThreshold : Int
  traverseTime : Int
  tiltTime : Int
deriving DecidableEq, Repr

/-- The parameters by id: id 1 first (11 R184). -/
def ParamId.table : List ParamId :=
  [.chordLineRear, .chordLevelRear, .chordFront, .baseLift, .maxLift,
   .shiftLimit, .slopeLimit, .settleFrames, .deadband, .correctionTime,
   .clampTime, .squeezePressure, .squeezeTime, .penetrationTime, .penetrationDepth,
   .insertions, .detectorLead, .driftTolerance, .stopTolerance, .indexTime,
   .followCount, .followTolHead, .followTolSqueeze, .followTolTraverse, .followTolTrack,
   .attentionPeriod, .attentionSources, .reportEnable, .resultsThreshold, .traverseTime,
   .tiltTime]

/-- The parameter an id names; none outside 1 to 31 (11 R183). -/
def ParamId.ofByte? (id : Byte) : Option ParamId :=
  if id.toNat = 0 then none else ParamId.table[id.toNat - 1]?

/-- The range and the default of a parameter: least, greatest, default (11 R184). -/
def ParamId.range : ParamId → Int × Int × Int
  | .chordLineRear => (3000, 10000, 6000)
  | .chordLevelRear => (3000, 10000, 5000)
  | .chordFront => (8000, 20000, 14000)
  | .baseLift => (0, 500, 100)
  | .maxLift => (0, 1500, 500)
  | .shiftLimit => (0, 1500, 600)
  | .slopeLimit => (10, 200, 60)
  | .settleFrames => (4, 32, 8)
  | .deadband => (2, 20, 5)
  | .correctionTime => (2000, 20000, 8000)
  | .clampTime => (500, 5000, 2000)
  | .squeezePressure => (40, 140, 110)
  | .squeezeTime => (400, 2500, 1000)
  | .penetrationTime => (300, 2000, 800)
  | .penetrationDepth => (300, 600, 480)
  | .insertions => (1, 2, 1)
  | .detectorLead => (100, 600, 300)
  | .driftTolerance => (20, 150, 60)
  | .stopTolerance => (5, 30, 10)
  | .indexTime => (2000, 15000, 6000)
  | .followCount => (2, 20, 5)
  | .followTolHead => (5, 50, 25)
  | .followTolSqueeze => (5, 30, 15)
  | .followTolTraverse => (3, 20, 10)
  | .followTolTrack => (1, 10, 4)
  | .attentionPeriod => (5, 120, 30)
  | .attentionSources => (0, 63, 63)
  | .reportEnable => (0, 255, 0)
  | .resultsThreshold => (1, 32, 8)
  | .traverseTime => (500, 5000, 3000)
  | .tiltTime => (200, 2000, 1000)

def ParamId.least (p : ParamId) : Int := p.range.1
def ParamId.greatest (p : ParamId) : Int := p.range.2.1
def ParamId.default (p : ParamId) : Int := p.range.2.2

/-- Whether a parameter is one of the three chord parameters, ids 1 to 3 (11 R183). -/
def ParamId.isChord : ParamId → Bool
  | .chordLineRear => true
  | .chordLevelRear => true
  | .chordFront => true
  | _ => false

def Params.get (s : Params) : ParamId → Int
  | .chordLineRear => s.chordLineRear
  | .chordLevelRear => s.chordLevelRear
  | .chordFront => s.chordFront
  | .baseLift => s.baseLift
  | .maxLift => s.maxLift
  | .shiftLimit => s.shiftLimit
  | .slopeLimit => s.slopeLimit
  | .settleFrames => s.settleFrames
  | .deadband => s.deadband
  | .correctionTime => s.correctionTime
  | .clampTime => s.clampTime
  | .squeezePressure => s.squeezePressure
  | .squeezeTime => s.squeezeTime
  | .penetrationTime => s.penetrationTime
  | .penetrationDepth => s.penetrationDepth
  | .insertions => s.insertions
  | .detectorLead => s.detectorLead
  | .driftTolerance => s.driftTolerance
  | .stopTolerance => s.stopTolerance
  | .indexTime => s.indexTime
  | .followCount => s.followCount
  | .followTolHead => s.followTolHead
  | .followTolSqueeze => s.followTolSqueeze
  | .followTolTraverse => s.followTolTraverse
  | .followTolTrack => s.followTolTrack
  | .attentionPeriod => s.attentionPeriod
  | .attentionSources => s.attentionSources
  | .reportEnable => s.reportEnable
  | .resultsThreshold => s.resultsThreshold
  | .traverseTime => s.traverseTime
  | .tiltTime => s.tiltTime

def Params.set (s : Params) (p : ParamId) (v : Int) : Params :=
  match p with
  | .chordLineRear => { s with chordLineRear := v }
  | .chordLevelRear => { s with chordLevelRear := v }
  | .chordFront => { s with chordFront := v }
  | .baseLift => { s with baseLift := v }
  | .maxLift => { s with maxLift := v }
  | .shiftLimit => { s with shiftLimit := v }
  | .slopeLimit => { s with slopeLimit := v }
  | .settleFrames => { s with settleFrames := v }
  | .deadband => { s with deadband := v }
  | .correctionTime => { s with correctionTime := v }
  | .clampTime => { s with clampTime := v }
  | .squeezePressure => { s with squeezePressure := v }
  | .squeezeTime => { s with squeezeTime := v }
  | .penetrationTime => { s with penetrationTime := v }
  | .penetrationDepth => { s with penetrationDepth := v }
  | .insertions => { s with insertions := v }
  | .detectorLead => { s with detectorLead := v }
  | .driftTolerance => { s with driftTolerance := v }
  | .stopTolerance => { s with stopTolerance := v }
  | .indexTime => { s with indexTime := v }
  | .followCount => { s with followCount := v }
  | .followTolHead => { s with followTolHead := v }
  | .followTolSqueeze => { s with followTolSqueeze := v }
  | .followTolTraverse => { s with followTolTraverse := v }
  | .followTolTrack => { s with followTolTrack := v }
  | .attentionPeriod => { s with attentionPeriod := v }
  | .attentionSources => { s with attentionSources := v }
  | .reportEnable => { s with reportEnable := v }
  | .resultsThreshold => { s with resultsThreshold := v }
  | .traverseTime => { s with traverseTime := v }
  | .tiltTime => { s with tiltTime := v }

/-- Every parameter at its default: power-on reset (11 R186). -/
def Params.defaults : Params where
  chordLineRear := ParamId.default .chordLineRear
  chordLevelRear := ParamId.default .chordLevelRear
  chordFront := ParamId.default .chordFront
  baseLift := ParamId.default .baseLift
  maxLift := ParamId.default .maxLift
  shiftLimit := ParamId.default .shiftLimit
  slopeLimit := ParamId.default .slopeLimit
  settleFrames := ParamId.default .settleFrames
  deadband := ParamId.default .deadband
  correctionTime := ParamId.default .correctionTime
  clampTime := ParamId.default .clampTime
  squeezePressure := ParamId.default .squeezePressure
  squeezeTime := ParamId.default .squeezeTime
  penetrationTime := ParamId.default .penetrationTime
  penetrationDepth := ParamId.default .penetrationDepth
  insertions := ParamId.default .insertions
  detectorLead := ParamId.default .detectorLead
  driftTolerance := ParamId.default .driftTolerance
  stopTolerance := ParamId.default .stopTolerance
  indexTime := ParamId.default .indexTime
  followCount := ParamId.default .followCount
  followTolHead := ParamId.default .followTolHead
  followTolSqueeze := ParamId.default .followTolSqueeze
  followTolTraverse := ParamId.default .followTolTraverse
  followTolTrack := ParamId.default .followTolTrack
  attentionPeriod := ParamId.default .attentionPeriod
  attentionSources := ParamId.default .attentionSources
  reportEnable := ParamId.default .reportEnable
  resultsThreshold := ParamId.default .resultsThreshold
  traverseTime := ParamId.default .traverseTime
  tiltTime := ParamId.default .tiltTime

end Sys2Proof.Machine
end

