-- ==== Sys2Proof/Machine/State.lean ====
section
/-! DEFINITION. The state of the part as plain data, block by block, and the state after power-on reset.
Where a register has no reset value in the spec, the docstring of its record names the log entry. -/

namespace Sys2Proof.Machine

/-! ## The plan store (01) -/

/-- The sleeper kinds (01 R10), in code order. -/
inductive SleeperKind
  | plain
  | bearer
  | joint
  | crossing
  | checkRail
  | drive
deriving DecidableEq, Repr

/-- The two rails a record may name as reference rail (01 R10). -/
inductive MainRail
  | left
  | right
deriving DecidableEq, Repr

/-- A stored sleeper record (01 R10 to R12). LEFT and RIGHT are always present; `branch` says whether
BRANCH is. The head list is kept as loaded, heads numbered from 0. -/
structure SleeperRecord where
  chainage : Int
  kind : SleeperKind
  branch : Bool
  refRail : MainRail
  obstacles : TineMask
  vd : Int
  vvd : Int
  cd : Int
  skip : Bool
  confirm : Bool
  runOut : Bool
  noDetect : Bool
  eF : Option Int
  eFv : Option Int
  liftOverride : Option Int
  shiftOverride : Option Int
  branchLift : Option Int
  heads : List (Fin 4 × Int)
deriving DecidableEq, Repr

inductive PageState
  | empty
  | loading
  | ready
  | active
deriving DecidableEq, Repr

/-- A page (01 R1). Its record count is the length of `records`; a place holds a record exactly when its
written mark would be set (01 R6). -/
structure Page where
  state : PageState
  endFlag : Bool
  orderFault : Bool
  records : List (Option SleeperRecord)
deriving DecidableEq, Repr

/-- A position in the plan store, (page, index). -/
structure Pos where
  page : Fin 4
  index : Nat
deriving DecidableEq, Repr

structure PlanStore where
  pages : Quad Page
  workhead : Option Pos
  front : Option Pos
deriving DecidableEq, Repr

/-- An EMPTY page: no records, count 0, both flags clear (01 R1). -/
def Page.cleared : Page := ⟨.empty, false, false, []⟩

/-- The plan store after either reset (01 R1). -/
def PlanStore.cleared : PlanStore := ⟨.all4 Page.cleared, none, none⟩

/-! ## Zone rules and the sleeper context (02) -/

/-- The key of a zone rule: an inclusive range of nominal chainage, or a kind (02 R26). -/
inductive RuleKey
  | chainage (lo hi : Int)
  | kind (k : SleeperKind)
deriving DecidableEq, Repr

structure ZoneRule where
  enabled : Bool
  key : RuleKey
  forbid : TineMask
  maxLift : Option Int
  shiftInhibit : Bool
  reduction : Int
  insertions : Option Nat
  confirm : Bool
  skip : Bool
deriving DecidableEq, Repr

/-- The cleared rule (02 R26). -/
def ZoneRule.cleared : ZoneRule :=
  ⟨false, .chainage 0 0, 0, none, false, 0, none, false, false⟩

/-- What the rule scan hands to the context: the slots of the two matches and the combined settings
(02 R31 to R33). -/
structure RuleResult where
  chainageSlot : Option Nat
  kindSlot : Option Nat
  forbid : TineMask
  maxLift : Option Int
  shiftInhibit : Bool
  reduction : Int
  insertions : Option Nat
  confirm : Bool
  skip : Bool
deriving DecidableEq, Repr

inductive FrontOutcome
  | bracketed
  | held
  | beyondEnd
deriving DecidableEq, Repr

inductive AdmissionKind
  | normal
  | readmission
  | retamp
deriving DecidableEq, Repr

inductive DetectionOutcome
  | matched
  | missed
  | exempt
deriving DecidableEq, Repr

/-- The cycle parameters frozen in a context (02 R35). -/
structure CycleParams where
  settleFrames : Nat
  deadband : Int
  correctionTime : Int
  clampTime : Int
  squeezeTime : Int
  penetrationTime : Int
  penetrationDepth : Int
  traverseTime : Int
  tiltTime : Int
  baseLift : Int
  slopeLimit : Int
deriving DecidableEq, Repr

/-- The output of the correction computer (05 R79): commanded lifts and shift, targets, driven axes. -/
structure Correction where
  lL : Int
  lR : Int
  lB : Option Int
  s : Int
  targets : Channels (Option Int)
  driven : Track Bool
deriving DecidableEq, Repr

/-- The sleeper context (02 R34): the frozen part, then what the sleeper's own steps add beside it. The
correction flags are a mask numbered as 11 "Codes" numbers them (05 R93). -/
structure Context where
  record : SleeperRecord
  pos : Pos
  kind : AdmissionKind
  frontOutcome : FrontOutcome
  eF : Int
  eFv : Int
  rule : RuleResult
  maxLift : Int
  shiftLimit : Int
  squeezePressure : Int
  insertions : Nat
  confirm : Bool
  skip : Bool
  enabled : TineMask
  lateral : Quad Int
  cycle : CycleParams
  detection : Option DetectionOutcome
  drift : Option Int
  flags : BitVec 16
  settled : Option (Channels (Option Int))
  correction : Option Correction
  achieved : Option (Channels (Option Int))
  residual : Option (Channels (Option Int))
deriving DecidableEq, Repr

/-! ## The chainage unit (03) -/

inductive MoveState
  | noMove
  | firstMove
  | correctionMove
  | positioned
  | faulted
  | cancelled
deriving DecidableEq, Repr

/-- A demand on the travel line (03 R47). -/
inductive TravelDemand
  | move (d : Int)
  | revise (d : Int)
  | cancel
deriving DecidableEq, Repr

/-- The index move record (03 R48). The matched mark is `drift.isSome`: the drift is present only when
matched is yes. The index timer is stopped (`none`) or running with the INDEX_TIME loaded. -/
structure IndexMove where
  state : MoveState
  target : Int
  drift : Option Int
  outcome : Option DetectionOutcome
  stopTolerance : Int
  timer : Option Int
deriving DecidableEq, Repr

structure ChainageUnit where
  running : Int
  offset : Int
  move : IndexMove
  line : Option TravelDemand
deriving DecidableEq, Repr

/-- The chainage unit after power-on reset (03 R44, R46, R48): a cancel has been sent (R47). DESIGN CHOICE
(log entry 7): target and stop tolerance 0; no rule reads either before a MOVE forms it. -/
def ChainageUnit.atPowerOn : ChainageUnit :=
  ⟨0, 0, ⟨.noMove, 0, none, none, 0, none⟩, some .cancel⟩

/-! ## The measuring unit (04) -/

inductive WindowKind
  | pre
  | final
deriving DecidableEq, Repr

/-- Valid samples taken of a channel, and their sum (04 R66). -/
structure Tally where
  count : Nat
  sum : Int
deriving DecidableEq, Repr

/-- The window record (04 R66). -/
structure Window where
  kind : WindowKind
  inUse : Channels Bool
  length : Nat
  frames : Nat
  tally : Channels Tally
deriving DecidableEq, Repr

/-- The live record of a channel (04 R66). -/
structure LiveChannel where
  last : Option Int
  invalid : Nat
  lost : Bool
deriving DecidableEq, Repr

/-- The live record (04 R66). -/
structure Live where
  inUse : Channels Bool
  channel : Channels LiveChannel
deriving DecidableEq, Repr

/-- The state of the measuring unit with its window record or live record (04 R66). -/
inductive Measuring
  | noWindow
  | window (w : Window)
  | live (l : Live)
deriving DecidableEq, Repr

/-! ## The correction computer (05) -/

/-- The carry and the held front values (05 R78). -/
structure CorrectionComputer where
  cL : Int
  cR : Int
  cB : Int
  cS : Int
  eF : Int
  eFv : Int
deriving DecidableEq, Repr

def CorrectionComputer.zero : CorrectionComputer := ⟨0, 0, 0, 0, 0, 0⟩

/-! ## The sleeper sequencer (06) -/

inductive SeqState
  | idle
  | indexing
  | measuring
  | correcting
  | tamping
  | releasing
  | hold
  | paused
  | faultStop
  | ended
deriving DecidableEq, Repr

inductive HoldReason
  | planExhausted
  | resultFull
  | attentionLapse
  | detectionLost
  | measureLost
  | confirmWait
  | positionFault
  | clampFault
  | aborted
  | stopCleared
deriving DecidableEq, Repr

inductive ResumeAction
  | readmit
  | retryRelease
  | advance
deriving DecidableEq, Repr

/-- The sequencer's state (06 R95). -/
structure Sequencer where
  state : SeqState
  hold : Option HoldReason
  context : Option Context
  kind : AdmissionKind
  pausePending : Bool
  skipPending : Bool
  retained : Option SleeperRecord
  advanceOwed : Bool
  resumeAction : Option ResumeAction
  missCount : Nat
  degradedCount : Nat
  reservation : Nat
deriving DecidableEq, Repr

/-- The sequencer after either reset (06 R95). DESIGN CHOICE (log entry 7): admission kind NORMAL. -/
def Sequencer.atReset : Sequencer :=
  ⟨.idle, none, none, .normal, false, false, none, false, none, 0, 0, 0⟩

/-! ## Workheads (07) -/

inductive RiseForm
  | full
  | partway
deriving DecidableEq, Repr

/-- The state of a head, with the rise form in RISING (07 R120). -/
inductive HeadState
  | parked
  | preparing
  | ready
  | penetrating
  | squeezing
  | opening
  | rising (form : RiseForm)
deriving DecidableEq, Repr

inductive HeadOutcome
  | notEngaged
  | complete
  | timeLimited
  | struck
  | tiltFault
  | traverseFault
  | aborted
deriving DecidableEq, Repr

inductive SqueezeResult
  | complete
  | timeLimited
deriving DecidableEq, Repr

inductive TiltCommand
  | tiltIn
  | tiltOut
deriving DecidableEq, Repr

/-- The head record (07 R120). A timer is stopped (`none`) or running with the time loaded. `tilt` holds
the commands given to the tilt drives (none where no command stands, R137) and `tiltDue` the commands
that are due and wait for the head-raised sensor (R123). -/
structure HeadRecord where
  state : HeadState
  outcome : Option HeadOutcome
  planned : Nat
  begun : Nat
  results : List SqueezeResult
  depth : Int
  peak : Nat
  verticalSet : Int
  squeezeSet : Int
  traverseSet : Int
  traverseTimer : Option Int
  tiltTimer : Option Int
  penetrationTimer : Option Int
  squeezeTimer : Option Int
  preparePending : Bool
  vibration : Bool
  tilt : Quad (Option TiltCommand)
  tiltDue : Quad TiltCommand
deriving DecidableEq, Repr

/-- A head after power-on reset, before the first axis frame (07 R137), by its head-raised sensor. DESIGN
CHOICE (log entry 7): setpoints 0 and one insertion planned. -/
def HeadRecord.atPowerOn (raised : Bool) : HeadRecord where
  state := if raised then .parked else .rising .full
  outcome := none
  planned := 1
  begun := 0
  results := []
  depth := 0
  peak := 0
  verticalSet := 0
  squeezeSet := 0
  traverseSet := 0
  traverseTimer := none
  tiltTimer := none
  penetrationTimer := none
  squeezeTimer := none
  preparePending := false
  vibration := false
  tilt := .all4 (if raised then some .tiltOut else none)
  tiltDue := .all4 .tiltOut

/-! ## The lifting and lining unit (08) -/

inductive UnitState
  | isOpen
  | clamping
  | clamped
  | approaching
  | holding
  | releasing
deriving DecidableEq, Repr

inductive AxisStatus
  | notDriven
  | waiting
  | moving
  | stopped
  | halted
deriving DecidableEq, Repr

/-- DEADBAND, CORRECTION_TIME and CLAMP_TIME as copied at the clamp order (08 R138, R140). -/
structure UnitSettings where
  deadband : Int
  correctionTime : Int
  clampTime : Int
deriving DecidableEq, Repr

/-- The approach result (08 R138): the achieved values once formed, and the two flags. -/
structure ApproachResult where
  achieved : Option (Channels (Option Int))
  targetNotReached : Bool
  overlift : Bool
deriving DecidableEq, Repr

def ApproachResult.discarded : ApproachResult := ⟨none, false, false⟩

/-- The unit record (08 R138). A clamp command is `true` for CLOSE. `hookConcerned` says whether the
branch hook is among the clamps concerned. `awaited` holds the heads whose report of PARKED a release
after heads waits for (log entry 13). -/
structure LiningUnit where
  state : UnitState
  command : Clamps Bool
  hookConcerned : Bool
  settings : UnitSettings
  clampTimer : Option Int
  correctionTimer : Option Int
  targets : Channels (Option Int)
  axis : Track AxisStatus
  lineRight : Bool
  setpoint : Track Int
  clampPending : Bool
  releaseAfterHeads : Bool
  awaited : Quad Bool
  frozen : Bool
  approach : ApproachResult
deriving DecidableEq, Repr

/-- The unit after power-on reset (08 R139), by whether every clamp is sensed open, with every parameter
at its default. DESIGN CHOICE (log entry 7): setpoints 0 until the first axis frame, the hook not
concerned, the direction of LINE left. -/
def LiningUnit.atPowerOn (allOpen : Bool) : LiningUnit where
  state := if allOpen then .isOpen else .releasing
  command := ⟨false, false, false⟩
  hookConcerned := false
  settings := ⟨Params.defaults.deadband, Params.defaults.correctionTime, Params.defaults.clampTime⟩
  clampTimer := if allOpen then none else some Params.defaults.clampTime
  correctionTimer := none
  targets := .all5 none
  axis := .all4 .notDriven
  lineRight := false
  setpoint := .all4 0
  clampPending := false
  releaseAfterHeads := false
  awaited := .all4 false
  frozen := false
  approach := .discarded

/-! ## Stops, axis supervision and the attention timer (09) -/

inductive TrackAxis
  | liftL
  | liftR
  | liftB
  | line
deriving DecidableEq, Repr

/-- The sixteen supervised axes (00 "Axes"). -/
inductive Axis
  | headV (h : Fin 4)
  | sqz (h : Fin 4)
  | trav (h : Fin 4)
  | track (t : TrackAxis)
deriving DecidableEq, Repr

/-- The axis supervisor (09 R153): the consecutive counts and the fault latches, axis 0 in bit 0, and
FOLLOW_TOL_TRAVERSE as sampled at the last axis frame, which the heads read between frames (07 R126,
11 R184). -/
structure Supervisor where
  count : Axes Nat
  latches : BitVec 16
  traverseTol : Int
deriving DecidableEq, Repr

/-- The supervisor after power-on reset (09 R153). DESIGN CHOICE (log entry 7): the tolerance sampled is the
default until the first axis frame. -/
def Supervisor.atPowerOn : Supervisor := ⟨.all16 0, 0, Params.defaults.followTolTraverse⟩

/-- Every count 0 and every fault latch clear (09 R160). -/
def Supervisor.cleared (v : Supervisor) : Supervisor := { v with count := .all16 0, latches := 0 }

/-- A stop cause (09 R158). -/
inductive StopCause
  | following (axis : Axis)
  | safetyChain
  | axisLine
  | attention
deriving DecidableEq, Repr

/-- The stop latch (09 R158): set exactly while the first cause is present. The further causes are a mask
numbered as 11 "Codes" numbers them. The axis line watch is `silent` or live (09 R156). -/
structure StopBlock where
  first : Option StopCause
  further : BitVec 4
  silent : Bool
deriving DecidableEq, Repr

inductive AttentionState
  | disarmed
  | running
  | lapsedOnce
deriving DecidableEq, Repr

/-- The attention timer with the ATTENTION_PERIOD last loaded (09 R161). -/
structure Attention where
  state : AttentionState
  period : Int
deriving DecidableEq, Repr

/-! ## Results, events and reports (10) -/

inductive SleeperOutcome
  | tamped
  | partly
  | notTamped
  | skipped
  | skippedNoArms
  | aborted
deriving DecidableEq, Repr

/-- A head's entry in a result record (10 R166). -/
structure HeadEntry where
  outcome : HeadOutcome
  insertions : Nat
  depth : Int
  peak : Nat
deriving DecidableEq, Repr

/-- The commanded group of a result record (10 R166). -/
structure Commanded where
  lL : Int
  lR : Int
  s : Int
  lB : Option Int
deriving DecidableEq, Repr

/-- A result record (10 R166). -/
structure ResultRecord where
  pos : Pos
  chainage : Int
  outcome : SleeperOutcome
  retamp : Bool
  enabled : TineMask
  heads : Quad HeadEntry
  drift : Option Int
  commanded : Option Commanded
  achieved : Option (Channels (Option Int))
  residual : Option (Channels (Option Int))
  flags : BitVec 16
deriving DecidableEq, Repr

/-- The seventeen counters (10 R175). -/
inductive Counter
  | framesAccepted
  | crcErrors
  | lengthErrors
  | gapErrors
  | framingErrors
  | queueFullRefusals
  | reportsSuppressed
  | sleepersTamped
  | sleepersNotTamped
  | sleepersSkipped
  | sleepersAborted
  | measureDegraded
  | detectionsMissed
  | detectionsSpurious
  | followingFaults
  | correctionsLimited
  | headsStruck
deriving DecidableEq, Repr

/-- The values of the counters, in the order of 10 R175. -/
structure Counters where
  framesAccepted : Nat
  crcErrors : Nat
  lengthErrors : Nat
  gapErrors : Nat
  framingErrors : Nat
  queueFullRefusals : Nat
  reportsSuppressed : Nat
  sleepersTamped : Nat
  sleepersNotTamped : Nat
  sleepersSkipped : Nat
  sleepersAborted : Nat
  measureDegraded : Nat
  detectionsMissed : Nat
  detectionsSpurious : Nat
  followingFaults : Nat
  correctionsLimited : Nat
  headsStruck : Nat
deriving DecidableEq, Repr

def Counters.zero : Counters := ⟨0, 0, 0, 0, 0, 0, 0, 0, 0, 0, 0, 0, 0, 0, 0, 0, 0⟩

/-! ## The work link (11) -/

inductive FrameKind
  | reply
  | report
deriving DecidableEq, Repr

/-- A frame of the transmit queue (11 R182): its KIND, TAG, CODE and BODY. START, LENGTH and CRC follow
from these (`TxFrame.bytes`). -/
structure TxFrame where
  kind : FrameKind
  tag : Byte
  code : Byte
  body : List Byte
deriving DecidableEq, Repr

/-- The receive frame assembler (11 R177). In COLLECTING it holds the bytes that followed START; the gap
limit runs exactly in COLLECTING. -/
inductive Assembler
  | hunt
  | collecting (bytes : List Byte)
deriving DecidableEq, Repr

/-- The work link (11). `restart` is present while the link is restarting and counts the frames still to
be sent up to and including the RESTART reply (11 R185, log entry 18). -/
structure Link where
  rx : Assembler
  requests : List Request
  tx : List TxFrame
  restart : Option Nat
deriving DecidableEq, Repr

/-- The link after power-on reset (11 R186). -/
def Link.atPowerOn : Link := ⟨.hunt, [], [], none⟩

/-! ## Input lines -/

/-- The levels the sensors and input lines last reported, and the axis frame last taken. -/
structure Inputs where
  chainClosed : Bool
  clampClosed : Clamps Bool
  tilt : Quad (Quad TiltReport)
  raised : Quad Bool
  axisFrame : AxisFrame
deriving DecidableEq, Repr

/-- The input lines of `State.reset`. DESIGN CHOICE (log entry 6): a machine at rest: chain closed, clamps
open, every arm tilted out, every head raised, every axis sensed at 0. -/
def Inputs.atRest : Inputs where
  chainClosed := true
  clampClosed := ⟨false, false, false⟩
  tilt := .all4 (.all4 .tiltOut)
  raised := .all4 true
  axisFrame := ⟨.all16 0, .all4 0⟩

/-! ## The whole part -/

/-- The state of the part, and the queue of the commands that wait. -/
structure State where
  pending : List Instr
  resetLow : Bool
  inputs : Inputs
  awaitFrame : Bool
  link : Link
  params : Params
  plan : PlanStore
  rules : List ZoneRule
  manualMask : Option TineMask
  chainage : ChainageUnit
  measuring : Measuring
  computer : CorrectionComputer
  seq : Sequencer
  heads : Quad HeadRecord
  lining : LiningUnit
  supervisor : Supervisor
  stop : StopBlock
  attention : Attention
  results : List ResultRecord
  latches : Byte
  counters : Counters
deriving DecidableEq, Repr

/-- Why a command stops the model. -/
inductive Fault
  /-- Raised by the meaning of LOAD_RECORDS for a body of more than 240 bytes, which no frame of the link
  can carry (11 R177, "Frame"). Safe: no such request can reach the part. Log entry 23. -/
  | commandTooLong
deriving DecidableEq, Repr

/-- Why a command has no meaning. -/
inductive Refusal
  /-- A row of the opcode table the model gives no meaning yet. Safe. No arm of `exec` uses it. -/
  | notModelled (mnemonic : String)
deriving DecidableEq, Repr

/-- The part right after power-on reset (11 R186 and the reset rule of each block), with the input lines
at rest and no command waiting. -/
def State.reset : State where
  pending := []
  resetLow := false
  inputs := .atRest
  awaitFrame := true
  link := .atPowerOn
  params := .defaults
  plan := .cleared
  rules := List.replicate 32 .cleared
  manualMask := none
  chainage := .atPowerOn
  measuring := .noWindow
  computer := .zero
  seq := .atReset
  heads := .all4 (.atPowerOn true)
  lining := .atPowerOn true
  supervisor := .atPowerOn
  stop := ⟨none, 0, false⟩
  attention := ⟨.disarmed, 0⟩
  results := []
  latches := 0
  counters := .zero

/-! ## Replacing one block -/

def State.setPending (s : State) (x : List Instr) : State := { s with pending := x }
def State.setResetLow (s : State) (x : Bool) : State := { s with resetLow := x }
def State.setInputs (s : State) (x : Inputs) : State := { s with inputs := x }
def State.setAwaitFrame (s : State) (x : Bool) : State := { s with awaitFrame := x }
def State.setLink (s : State) (x : Link) : State := { s with link := x }
def State.setParams (s : State) (x : Params) : State := { s with params := x }
def State.setPlan (s : State) (x : PlanStore) : State := { s with plan := x }
def State.setRules (s : State) (x : List ZoneRule) : State := { s with rules := x }
def State.setManualMask (s : State) (x : Option TineMask) : State := { s with manualMask := x }
def State.setChainage (s : State) (x : ChainageUnit) : State := { s with chainage := x }
def State.setMeasuring (s : State) (x : Measuring) : State := { s with measuring := x }
def State.setComputer (s : State) (x : CorrectionComputer) : State := { s with computer := x }
def State.setSeq (s : State) (x : Sequencer) : State := { s with seq := x }
def State.setHeads (s : State) (x : Quad HeadRecord) : State := { s with heads := x }
def State.setLining (s : State) (x : LiningUnit) : State := { s with lining := x }
def State.setSupervisor (s : State) (x : Supervisor) : State := { s with supervisor := x }
def State.setStop (s : State) (x : StopBlock) : State := { s with stop := x }
def State.setAttention (s : State) (x : Attention) : State := { s with attention := x }
def State.setResults (s : State) (x : List ResultRecord) : State := { s with results := x }
def State.setLatches (s : State) (x : Byte) : State := { s with latches := x }
def State.setCounters (s : State) (x : Counters) : State := { s with counters := x }

end Sys2Proof.Machine
end

