-- ==== Sys2Proof/Machine/Ops.lean ====
section
/-! DEFINITION. The named operations the meanings share: the part's fixed numbers, rounding and clamping,
counters, the axis table, stroke steps, and the small operations on one block of the state. -/

namespace Sys2Proof.Machine

/-! ## Fixed numbers of the manual -/

/-- Places of the request queue (11 R178). -/
def requestPlaces : Nat := 4
/-- Places of the transmit queue (11 R182). -/
def transmitPlaces : Nat := 8
/-- Free places a report needs (10 R172). -/
def reportPlaces : Nat := 5
/-- Slots of the result queue (10 R165). -/
def resultSlots : Nat := 32
/-- Where a counter saturates (10 R175). -/
def counterMax : Nat := 65535
/-- Greatest nominal chainage and range end, in mm (01 R10, 02 R26, 03 R45). -/
def chainageMax : Nat := 99999999
/-- Greatest distance of the starting record from the running chainage, in mm (06 R97). -/
def startDistance : Int := 3000
/-- Least lateral distance between neighbouring heads, in mm (01 R12, 07 R125). -/
def headClearance : Int := 260
/-- How far above PENETRATION_DEPTH a second insertion starts, in mm (07 R132). -/
def reentryRise : Int := 150
/-- The closed end of the squeeze stroke, in mm (07 R122). -/
def closedEnd : Int := 200
/-- Step of a squeeze return stroke per frame, in mm (07 R122). -/
def squeezeStep : Int := 2
/-- Step of a vertical return stroke per frame, in mm (07 R122). -/
def riseStep : Int := 3
/-- Consecutive invalid samples that lose a channel (04 R74). -/
def lossLimit : Nat := 10
/-- The least squeeze pressure of a context, in bar (02 R37). -/
def leastPressure : Int := 40

/-! ## Whole-number arithmetic (00 "Arithmetic") -/

/-- `a ÷ n` rounded to nearest, ties away from zero, for a positive `n`. -/
def roundDiv (a : Int) (n : Nat) : Int :=
  if 0 ≤ a then (((2 * a.natAbs + n) / (2 * n) : Nat) : Int)
  else -(((2 * a.natAbs + n) / (2 * n) : Nat) : Int)

/-- `v` brought into `lo` to `hi` by the nearer limit. -/
def clampTo (lo hi v : Int) : Int := if v < lo then lo else if hi < v then hi else v

/-- `sp` moved toward `goal` by at most `step`, stopping at `goal`: a return stroke (07 R122). -/
def stepToward (step goal sp : Int) : Int :=
  if goal < sp then max goal (sp - step) else min goal (sp + step)

def absInt (v : Int) : Int := if v < 0 then -v else v

/-! ## Counters (10 R175) -/

def Counters.get (c : Counters) : Counter → Nat
  | .framesAccepted => c.framesAccepted
  | .crcErrors => c.crcErrors
  | .lengthErrors => c.lengthErrors
  | .gapErrors => c.gapErrors
  | .framingErrors => c.framingErrors
  | .queueFullRefusals => c.queueFullRefusals
  | .reportsSuppressed => c.reportsSuppressed
  | .sleepersTamped => c.sleepersTamped
  | .sleepersNotTamped => c.sleepersNotTamped
  | .sleepersSkipped => c.sleepersSkipped
  | .sleepersAborted => c.sleepersAborted
  | .measureDegraded => c.measureDegraded
  | .detectionsMissed => c.detectionsMissed
  | .detectionsSpurious => c.detectionsSpurious
  | .followingFaults => c.followingFaults
  | .correctionsLimited => c.correctionsLimited
  | .headsStruck => c.headsStruck

def Counters.set (c : Counters) (k : Counter) (v : Nat) : Counters :=
  match k with
  | .framesAccepted => { c with framesAccepted := v }
  | .crcErrors => { c with crcErrors := v }
  | .lengthErrors => { c with lengthErrors := v }
  | .gapErrors => { c with gapErrors := v }
  | .framingErrors => { c with framingErrors := v }
  | .queueFullRefusals => { c with queueFullRefusals := v }
  | .reportsSuppressed => { c with reportsSuppressed := v }
  | .sleepersTamped => { c with sleepersTamped := v }
  | .sleepersNotTamped => { c with sleepersNotTamped := v }
  | .sleepersSkipped => { c with sleepersSkipped := v }
  | .sleepersAborted => { c with sleepersAborted := v }
  | .measureDegraded => { c with measureDegraded := v }
  | .detectionsMissed => { c with detectionsMissed := v }
  | .detectionsSpurious => { c with detectionsSpurious := v }
  | .followingFaults => { c with followingFaults := v }
  | .correctionsLimited => { c with correctionsLimited := v }
  | .headsStruck => { c with headsStruck := v }

/-- The counters in the order of R175. -/
def Counters.toList (c : Counters) : List Nat :=
  [c.framesAccepted,
   c.crcErrors,
   c.lengthErrors,
   c.gapErrors,
   c.framingErrors,
   c.queueFullRefusals,
   c.reportsSuppressed,
   c.sleepersTamped,
   c.sleepersNotTamped,
   c.sleepersSkipped,
   c.sleepersAborted,
   c.measureDegraded,
   c.detectionsMissed,
   c.detectionsSpurious,
   c.followingFaults,
   c.correctionsLimited,
   c.headsStruck]

/-- One counter raised by one, saturating at 65,535 (00 "Counters", 10 R175). -/
def Counters.bump (k : Counter) (c : Counters) : Counters :=
  c.set k (min counterMax (c.get k + 1))

def State.bump (k : Counter) (s : State) : State := s.setCounters (s.counters.bump k)

/-! ## Axes (09 R153) -/

def TrackAxis.number : TrackAxis → Nat
  | .liftL => 0
  | .liftR => 1
  | .liftB => 2
  | .line => 3

/-- The number of an axis: HEAD_V1 is 0, LINE is 15 (09 R153). -/
def Axis.number : Axis → Nat
  | .headV h => h.val
  | .sqz h => 4 + h.val
  | .trav h => 8 + h.val
  | .track t => 12 + t.number

/-- The sixteen axes in ascending number. -/
def Axis.all : List Axis :=
  [.headV 0, .headV 1, .headV 2, .headV 3, .sqz 0, .sqz 1, .sqz 2, .sqz 3,
   .trav 0, .trav 1, .trav 2, .trav 3, .track .liftL, .track .liftR, .track .liftB, .track .line]

def trackGet {α : Type} (t : Track α) : TrackAxis → α
  | .liftL => t.liftL
  | .liftR => t.liftR
  | .liftB => t.liftB
  | .line => t.line

def axesGet {α : Type} (x : Axes α) : Axis → α
  | .headV h => x.headV.get h
  | .sqz h => x.sqz.get h
  | .trav h => x.trav.get h
  | .track t => trackGet x.track t

/-- The four heads in order. -/
def headList : List (Fin 4) := [0, 1, 2, 3]

/-! ## Tine masks (00 "Heads and arms") -/

/-- Whether arm `arm` of head `head` is in a mask: arm number 4 × head + arm. -/
def armIn (m : TineMask) (head arm : Fin 4) : Bool := m.getLsbD (4 * head.val + arm.val)

/-- The four arms of a head in a mask. -/
def armsOf (m : TineMask) (head : Fin 4) : Quad Bool := .ofFn (armIn m head)

/-- A head is engaged when one of its arms is in the enabled mask (02 R40). -/
def engagedIn (m : TineMask) (head : Fin 4) : Bool :=
  armIn m head 0 || armIn m head 1 || armIn m head 2 || armIn m head 3

def Context.engaged (c : Context) (head : Fin 4) : Bool := engagedIn c.enabled head

/-! ## Small readings of the state -/

/-- A stop is latched (09 R158). -/
def State.stopLatched (s : State) : Bool := s.stop.first.isSome

/-- A travel demand is active exactly in FIRST_MOVE and CORRECTION_MOVE (03 R48). -/
def IndexMove.demandActive (m : IndexMove) : Bool :=
  decide (m.state = .firstMove ∨ m.state = .correctionMove)

/-- Every head is PARKED. -/
def State.allParked (s : State) : Bool :=
  (s.heads.map fun h => decide (h.state = .parked)).allTrue

/-- Every clamp is sensed open (08 R149). -/
def Inputs.clampsOpen (i : Inputs) : Bool :=
  !i.clampClosed.left && !i.clampClosed.right && !i.clampClosed.hook

/-- Every clamp concerned is sensed closed (08 R141). -/
def Inputs.clampsClosed (i : Inputs) (hook : Bool) : Bool :=
  i.clampClosed.left && i.clampClosed.right && (!hook || i.clampClosed.hook)

/-- The sequencer is in a run state (06 R118). -/
def SeqState.isRun : SeqState → Bool
  | .idle => false
  | .indexing => true
  | .measuring => true
  | .correcting => true
  | .tamping => true
  | .releasing => true
  | .hold => true
  | .paused => true
  | .faultStop => false
  | .ended => false

/-- The attention timer runs in this state of the sequencer (09 R161). -/
def SeqState.attentive : SeqState → Bool
  | .idle => false
  | .indexing => true
  | .measuring => true
  | .correcting => true
  | .tamping => true
  | .releasing => true
  | .hold => true
  | .paused => false
  | .faultStop => false
  | .ended => false

/-! ## Small changes of one block -/

def State.modSeq (f : Sequencer → Sequencer) (s : State) : State := s.setSeq (f s.seq)
def State.modLining (f : LiningUnit → LiningUnit) (s : State) : State := s.setLining (f s.lining)
def State.modChainage (f : ChainageUnit → ChainageUnit) (s : State) : State :=
  s.setChainage (f s.chainage)
def State.modMove (f : IndexMove → IndexMove) (s : State) : State :=
  s.setChainage { s.chainage with move := f s.chainage.move }
def State.modLink (f : Link → Link) (s : State) : State := s.setLink (f s.link)
def State.modContext (f : Context → Context) (s : State) : State :=
  s.setSeq { s.seq with context := s.seq.context.map f }

def State.setHead (i : Fin 4) (h : HeadRecord) (s : State) : State := s.setHeads (s.heads.set i h)

end Sys2Proof.Machine
end

