-- ==== Sys2Proof/Machine/Flags.lean ====
section
/-! DEFINITION. The flags of the part: the correction flags of a context (05 R93), the event latches and
the reports they send (10 R171 to R173), and the holds, which set a latch (06 R96). -/

namespace Sys2Proof.Machine

/-! ## Correction flags (05 R93, numbered as 11 "Codes" numbers them) -/

inductive CorrectionFlag
  | frontHeld
  | frontBeyondEnd
  | overrideUsed
  | shiftInhibited
  | runOut
  | liftFloor
  | liftClamped
  | shiftClamped
  | slopeLimited
  | measureDegraded
  | targetNotReached
  | overlift
  | detectionMissed
  | releaseFault
deriving DecidableEq, Repr

/-- The bit of a flag alone. -/
def CorrectionFlag.mask : CorrectionFlag → BitVec 16
  | .frontHeld => 0x0001
  | .frontBeyondEnd => 0x0002
  | .overrideUsed => 0x0004
  | .shiftInhibited => 0x0008
  | .runOut => 0x0010
  | .liftFloor => 0x0020
  | .liftClamped => 0x0040
  | .shiftClamped => 0x0080
  | .slopeLimited => 0x0100
  | .measureDegraded => 0x0200
  | .targetNotReached => 0x0400
  | .overlift => 0x0800
  | .detectionMissed => 0x1000
  | .releaseFault => 0x2000

/-- The mask of a flag when the condition holds, else the empty mask. -/
def CorrectionFlag.when (f : CorrectionFlag) (c : Bool) : BitVec 16 := if c then f.mask else 0

/-- Whether a flag set holds a flag. -/
def hasFlag (m : BitVec 16) (f : CorrectionFlag) : Bool := decide (m &&& f.mask ≠ 0)

/-- The flags that set CORRECTION_LIMITED at recording (05 R93, 10 R171). -/
def limitedFlags : BitVec 16 :=
  CorrectionFlag.liftClamped.mask ||| CorrectionFlag.shiftClamped.mask
    ||| CorrectionFlag.slopeLimited.mask ||| CorrectionFlag.targetNotReached.mask
    ||| CorrectionFlag.measureDegraded.mask

/-- Flags added to the context's set; a flag once raised stays raised (05 R93). -/
def State.raiseFlags (m : BitVec 16) (s : State) : State :=
  s.modContext fun c => { c with flags := c.flags ||| m }

/-! ## Event latches (10 R171) -/

inductive Latch
  | holdEntered
  | faultStop
  | runEnded
  | pageNeeded
  | resultsWaiting
  | attentionLapse
  | linkFault
  | correctionLimited
deriving DecidableEq, Repr

/-- The bit of a latch alone, by its number in R171. -/
def Latch.mask : Latch → Byte
  | .holdEntered => 0x01
  | .faultStop => 0x02
  | .runEnded => 0x04
  | .pageNeeded => 0x08
  | .resultsWaiting => 0x10
  | .attentionLapse => 0x20
  | .linkFault => 0x40
  | .correctionLimited => 0x80

/-- An event sets its latch, or leaves it set (10 R171). -/
def State.setLatch (l : Latch) (s : State) : State := s.setLatches (s.latches ||| l.mask)

/-- REPORT_ENABLE as a mask (10 R173). -/
def State.reportEnable (s : State) : Byte := BitVec.ofInt 8 s.params.reportEnable

/-! ## Holds (06 R96) -/

/-- Every entry into HOLD, with any reason, sets HOLD_ENTERED (06 R96). -/
def enterHold (r : HoldReason) (s : State) : State :=
  (s.modSeq fun q => { q with state := .hold, hold := some r }).setLatch .holdEntered

/-- The sequencer in a state other than HOLD has no hold reason (06 R95). -/
def enterState (st : SeqState) (s : State) : State :=
  s.modSeq fun q => { q with state := st, hold := none }

end Sys2Proof.Machine
end

