-- ==== Sys2Proof/Config.lean ====
section
/-! DEFINITION. What the manual leaves to the implementation: the free values of the model. -/

namespace Sys2Proof

/-- What a field of `bytes` bytes carries when the quantity `v` does not fit it. The formats section of
spec/11_the_work_link.md gives each field its width and states nothing for a quantity outside it, such as
a running chainage beyond 32 bits (03 R44 keeps it). DESIGN CHOICE (log entry 8): a free value, safe; no
proof can see what it is. -/
opaque Config.unrepresentable (bytes : Nat) (v : Int) : Nat

/-- The index byte of an absent pointer in the status body, for the workhead pointer (0) and the front
pointer (1). The formats section of spec/11_the_work_link.md gives such a pointer page 0xFF and states no
index. DESIGN CHOICE (log entry 8): a free value, safe. -/
opaque Config.absentIndex (pointer : Nat) : BitVec 8

end Sys2Proof
end

