-- ==== Sys2Proof/Machine/Operands.lean ====
section
/-! DEFINITION. The operand forms: bytes of the work link and what they carry (11 "Formats"). Reading and
writing of the frame check, of request bodies, of sleeper records and of zone rules, and the checks that
turn a record or a rule on the wire into a stored one (01 R10 to R13, 02 R27, 11 R180). -/

namespace Sys2Proof.Machine

/-! ## Fields of bytes, most significant byte first -/

/-- The `n` bytes of `v`, most significant first. -/
def beBytes : Nat → Nat → List Byte
  | 0, _ => []
  | n + 1, v => BitVec.ofNat 8 (v / 256 ^ n) :: beBytes n v

/-- An unsigned field of `n` bytes. A quantity outside the field gives a free value (log entry 8). -/
def unsignedField (n : Nat) (v : Int) : List Byte :=
  if 0 ≤ v ∧ v < 256 ^ n then beBytes n v.toNat else beBytes n (Config.unrepresentable n v)

/-- A signed field of `n` bytes, two's complement. A quantity outside the field gives a free value (log
entry 8). -/
def signedField (n : Nat) (v : Int) : List Byte :=
  if -(256 ^ n) ≤ 2 * v ∧ 2 * v < 256 ^ n then beBytes n (v % 256 ^ n).toNat
  else beBytes n (Config.unrepresentable n v)

def word2 (b1 b0 : Byte) : BitVec 16 := b1 ++ b0
def word4 (b3 b2 b1 b0 : Byte) : BitVec 32 := b3 ++ b2 ++ b1 ++ b0

def bytes2 (v : BitVec 16) : List Byte := beBytes 2 v.toNat
def bytes4 (v : BitVec 32) : List Byte := beBytes 4 v.toNat

/-! ## The frame check (11 "Frame", 04 R64) -/

/-- One step of the division by x^16 + x^12 + x^5 + 1. -/
def crcStep (c : BitVec 16) : BitVec 16 := if c.msb then (c <<< 1) ^^^ 0x1021 else c <<< 1

/-- One byte into the check, most significant bit first. -/
def crcByte (c : BitVec 16) (b : Byte) : BitVec 16 :=
  crcStep (crcStep (crcStep (crcStep (crcStep (crcStep (crcStep (crcStep
    (c ^^^ (b.zeroExtend 16 <<< 8)))))))))

/-- CRC-16 with initial value 0xFFFF, no reflection, no final XOR. -/
def crc16 (bytes : List Byte) : BitVec 16 := bytes.foldl crcByte 0xFFFF

/-! ## Codes (11 "Codes") -/

def SleeperKind.code : SleeperKind → Byte
  | .plain => 0
  | .bearer => 1
  | .joint => 2
  | .crossing => 3
  | .checkRail => 4
  | .drive => 5

def SleeperKind.ofByte? (b : Byte) : Option SleeperKind :=
  match b.toNat with
  | 0 => some .plain
  | 1 => some .bearer
  | 2 => some .joint
  | 3 => some .crossing
  | 4 => some .checkRail
  | 5 => some .drive
  | _ => none

def MainRail.code : MainRail → Byte
  | .left => 0
  | .right => 1

/-- A reference rail byte: LEFT or RIGHT (01 R10). -/
def MainRail.ofByte? (b : Byte) : Option MainRail :=
  match b.toNat with
  | 0 => some .left
  | 1 => some .right
  | _ => none

/-- A rails byte: both LEFT and RIGHT, with or without BRANCH, no other bit (01 R10, 11 R180). The answer
says whether BRANCH is present. -/
def railsOfByte? (b : Byte) : Option Bool :=
  match b.toNat with
  | 3 => some false
  | 7 => some true
  | _ => none

/-- A yes-or-no byte: 0 or 1 (11 R180). -/
def yesNo? (b : Byte) : Option Bool :=
  match b.toNat with
  | 0 => some false
  | 1 => some true
  | _ => none

def boolByte (b : Bool) : Byte := if b then 1 else 0

/-! ## Sleeper records (01 R10 to R13) -/

/-- A signed 2-byte value inside a range. -/
def signedIn? (lo hi : Int) (v : BitVec 16) : Option Int :=
  if lo ≤ v.toInt ∧ v.toInt ≤ hi then some v.toInt else none

/-- An optional value: absent, or present inside a range (01 R11). -/
def optionalIn? (lo hi : Int) : Option (BitVec 16) → Option (Option Int)
  | none => some none
  | some v => (signedIn? lo hi v).map some

/-- The default lateral positions of the heads (01 R12). -/
def defaultLateral : Quad Int := ⟨-900, -540, 540, 900⟩

/-- The four lateral positions of a head list: each listed head at its listed position, each other at its
default (01 R12, 02 R40). -/
def lateralTargets (heads : List (Fin 4 × Int)) : Quad Int :=
  .ofFn fun h => ((heads.find? fun e => decide (e.1 = h)).map Prod.snd).getD (defaultLateral.get h)

/-- H1 < H2 < H3 < H4 with at least 260 mm between neighbours (01 R12). -/
def lateralSpaced (q : Quad Int) : Bool :=
  decide (q.a + headClearance ≤ q.b ∧ q.b + headClearance ≤ q.c ∧ q.c + headClearance ≤ q.d)

/-- An entry of the head list: a head from 1 to 4, a position from −1200 to +1200 (01 R12). -/
def headEntry? (e : Byte × BitVec 16) : Option (Fin 4 × Int) :=
  (signedIn? (-1200) 1200 e.2).bind fun x =>
    match e.1.toNat with
    | 1 => some (0, x)
    | 2 => some (1, x)
    | 3 => some (2, x)
    | 4 => some (3, x)
    | _ => none

/-- Every element present. -/
def allSome {α : Type} : List (Option α) → Option (List α)
  | [] => some []
  | none :: _ => none
  | some x :: rest => (allSome rest).map (x :: ·)

/-- The head position list: at most four valid entries, no head twice, spaced (01 R12). -/
def headListOf? (heads : List (Byte × BitVec 16)) : Option (List (Fin 4 × Int)) :=
  (allSome (heads.map headEntry?)).bind fun l =>
    if l.length ≤ 4 ∧ (l.map Prod.fst).Nodup ∧ lateralSpaced (lateralTargets l) = true then some l
    else none

/-- The validation of one record (01 R10 to R13): the stored record, or none when a check fails. -/
def validateRecord? (r : WireRecord) : Option SleeperRecord := do
  let kind ← SleeperKind.ofByte? r.kind
  let branch ← railsOfByte? r.rails
  let refRail ← MainRail.ofByte? r.refRail
  let vd ← signedIn? (-3000) 3000 r.vd
  let vvd ← signedIn? (-1000) 1000 r.vvd
  let cd ← signedIn? (-1800) 1800 r.cd
  let skip ← yesNo? r.skip
  let confirm ← yesNo? r.confirm
  let runOut ← yesNo? r.runOut
  let noDetect ← yesNo? r.noDetect
  let eF ← optionalIn? (-1000) 1000 r.eF
  let eFv ← optionalIn? (-1000) 1000 r.eFv
  let liftOverride ← optionalIn? 0 1500 r.liftOverride
  let shiftOverride ← optionalIn? (-1500) 1500 r.shiftOverride
  let branchLift ← optionalIn? 0 1500 r.branchLift
  let heads ← headListOf? r.heads
  if r.chainage.toNat ≤ chainageMax ∧ r.spare = 0 ∧ (branchLift = none ∨ branch = true) then
    some ⟨r.chainage.toNat, kind, branch, refRail, r.obstacles, vd, vvd, cd, skip, confirm, runOut,
      noDetect, eF, eFv, liftOverride, shiftOverride, branchLift, heads⟩
  else none

/-- The optional values present, in presence-bit order. -/
def SleeperRecord.values (r : SleeperRecord) : List (Option Int) :=
  [r.eF, r.eFv, r.liftOverride, r.shiftOverride, r.branchLift]

/-- A mask byte with bit `i` set when the `i`-th element says so. -/
def maskByte : List Bool → Byte
  | [] => 0
  | b :: rest => boolByte b ||| (maskByte rest <<< 1)

/-- The bytes of a stored record, as loaded (01 R9, 11 "Sleeper record"). -/
def SleeperRecord.bytes (r : SleeperRecord) : List Byte :=
  unsignedField 4 r.chainage ++ [r.kind.code, if r.branch then 7 else 3, r.refRail.code]
    ++ bytes2 r.obstacles ++ signedField 2 r.vd ++ signedField 2 r.vvd ++ signedField 2 r.cd
    ++ [boolByte r.skip, boolByte r.confirm, boolByte r.runOut, boolByte r.noDetect,
        maskByte (r.values.map Option.isSome), BitVec.ofNat 8 r.heads.length]
    ++ (r.values.filterMap id).flatMap (signedField 2)
    ++ r.heads.flatMap fun e => BitVec.ofNat 8 (e.1.val + 1) :: signedField 2 e.2

/-! ## Zone rules (02 R27) -/

/-- The checks of WRITE_RULE on a rule (02 R27 steps 3 to 6, 11 R180): the rule to store, or none for a
refusal. A field that does not belong to the key type, and an absent max lift, is not checked and not kept. -/
def validateRule? (r : WireRule) : Option ZoneRule := do
  let enabled ← yesNo? r.enabled
  let key ← match r.keyType.toNat with
    | 0 =>
      if r.lo.toNat ≤ chainageMax ∧ r.hi.toNat ≤ chainageMax ∧ r.lo.toNat ≤ r.hi.toNat then
        some (RuleKey.chainage r.lo.toNat r.hi.toNat)
      else none
    | 1 => (SleeperKind.ofByte? r.kind).map RuleKey.kind
    | _ => none
  let present ← yesNo? r.maxLiftPresent
  let maxLift ← if present then
      (if r.maxLift.toNat ≤ 1500 then some (some (r.maxLift.toNat : Int)) else none)
    else some none
  let shiftInhibit ← yesNo? r.shiftInhibit
  let reduction ← if r.reduction.toNat ≤ 50 then some (r.reduction.toNat : Int) else none
  let insertions ← match r.insertions.toNat with
    | 0 => some none
    | 1 => some (some 1)
    | 2 => some (some 2)
    | _ => none
  let confirm ← yesNo? r.confirm
  let skip ← yesNo? r.skip
  some ⟨enabled, key, r.forbid, maxLift, shiftInhibit, reduction, insertions, confirm, skip⟩

/-- The 21 bytes of a stored rule; the field that does not belong to the key type reads 0 (02 R27, R29). -/
def ZoneRule.bytes (r : ZoneRule) : List Byte :=
  boolByte r.enabled
    :: (match r.key with
        | .chainage lo hi => (0 : Byte) :: (unsignedField 4 lo ++ unsignedField 4 hi ++ [0])
        | .kind k => (1 : Byte) :: (beBytes 8 0 ++ [k.code]))
    ++ bytes2 r.forbid
    ++ (boolByte r.maxLift.isSome :: unsignedField 2 (r.maxLift.getD 0))
    ++ [boolByte r.shiftInhibit] ++ unsignedField 1 r.reduction
    ++ [BitVec.ofNat 8 (r.insertions.getD 0), boolByte r.confirm, boolByte r.skip]

/-! ## Request bodies (11 "Requests") -/

/-- One optional value of a record body, read when its presence bit is set. -/
def readValue? (present : Bool) (bytes : List Byte) : Option (Option (BitVec 16) × List Byte) :=
  if present then
    match bytes with
    | h :: l :: rest => some (some (word2 h l), rest)
    | _ => none
  else some (none, bytes)

/-- The head list of a record body. -/
def readHeads? : Nat → List Byte → Option (List (Byte × BitVec 16) × List Byte)
  | 0, bytes => some ([], bytes)
  | n + 1, head :: h :: l :: rest =>
    (readHeads? n rest).map fun p => ((head, word2 h l) :: p.1, p.2)
  | _ + 1, _ => none

/-- The optional parts of a record body, after its 21 fixed bytes (11 "Sleeper record"). -/
def readOptional? (presence count : Byte) (bytes : List Byte) (r : WireRecord) :
    Option (WireRecord × List Byte) := do
  let (eF, b0) ← readValue? (presence.getLsbD 0) bytes
  let (eFv, b1) ← readValue? (presence.getLsbD 1) b0
  let (liftOverride, b2) ← readValue? (presence.getLsbD 2) b1
  let (shiftOverride, b3) ← readValue? (presence.getLsbD 3) b2
  let (branchLift, b4) ← readValue? (presence.getLsbD 4) b3
  let (heads, b5) ← readHeads? count.toNat b4
  some ({ r with eF, eFv, liftOverride, shiftOverride, branchLift, heads }, b5)

/-- A sleeper record at the front of a body, and what follows it. -/
def readRecord? : List Byte → Option (WireRecord × List Byte)
  | c3 :: c2 :: c1 :: c0 :: kind :: rails :: ref :: o1 :: o0 :: d1 :: d0 :: w1 :: w0 :: n1 :: n0 ::
      skip :: confirm :: runOut :: noDetect :: presence :: count :: rest =>
    readOptional? presence count rest
      { chainage := word4 c3 c2 c1 c0, kind := kind, rails := rails, refRail := ref,
        obstacles := word2 o1 o0, vd := word2 d1 d0, vvd := word2 w1 w0, cd := word2 n1 n0,
        skip := skip, confirm := confirm, runOut := runOut, noDetect := noDetect,
        eF := none, eFv := none, liftOverride := none, shiftOverride := none, branchLift := none,
        spare := presence.extractLsb' 5 3, heads := [] }
  | _ => none

/-- The announced records of a LOAD_RECORDS body, which must end exactly where the last one ends
(11 R179). -/
def readRecords? : Nat → List Byte → Option (List WireRecord)
  | 0, [] => some []
  | 0, _ :: _ => none
  | n + 1, bytes => (readRecord? bytes).bind fun p => (readRecords? n p.2).map (p.1 :: ·)

/-- The 21 bytes of a WRITE_RULE rule. -/
def readRule? : List Byte → Option WireRule
  | [en, key, f3, f2, f1, f0, t3, t2, t1, t0, kind, m1, m0, mp, x1, x0, si, red, ins, cf, sk] =>
    some ⟨en, key, word4 f3 f2 f1 f0, word4 t3 t2 t1 t0, kind, word2 m1 m0, mp, word2 x1 x0, si, red,
      ins, cf, sk⟩
  | _ => none

/-- A request with no body. -/
def bare (c : Call) (code : Byte) : List Byte → Call
  | [] => c
  | _ => .badLength code

/-- The link's first two checks (11 R179): an unknown CODE, then a body of the wrong length, then the
request's own arguments. -/
def readCall (code : Byte) (body : List Byte) : Call :=
  match code.toNat with
  | 0x01 =>
    match body with
    | [id, v3, v2, v1, v0] => .setParam id (word4 v3 v2 v1 v0)
    | _ => .badLength code
  | 0x02 =>
    match body with
    | [id] => .getParam id
    | _ => .badLength code
  | 0x03 => bare .restart code body
  | 0x10 =>
    match body with
    | [page] => .openPage page
    | _ => .badLength code
  | 0x11 =>
    match body with
    | page :: first :: n :: rest =>
      match readRecords? n.toNat rest with
      | some records => .loadRecords page first records
      | none => .badLength code
    | _ => .badLength code
  | 0x12 =>
    match body with
    | [page, count, endByte] => .closePage page count endByte
    | _ => .badLength code
  | 0x13 =>
    match body with
    | [page] => .discardPage page
    | _ => .badLength code
  | 0x14 =>
    match body with
    | [page, index] => .readRecord page index
    | _ => .badLength code
  | 0x20 =>
    match body with
    | slot :: rest =>
      match readRule? rest with
      | some rule => .writeRule slot rule
      | none => .badLength code
    | _ => .badLength code
  | 0x21 =>
    match body with
    | [slot] => .readRule slot
    | _ => .badLength code
  | 0x22 => bare .clearRules code body
  | 0x28 =>
    match body with
    | [m1, m0] => .setManualMask (word2 m1 m0)
    | _ => .badLength code
  | 0x29 =>
    match body with
    | [v3, v2, v1, v0] => .setChainage (word4 v3 v2 v1 v0)
    | _ => .badLength code
  | 0x30 =>
    match body with
    | [page, index] => .startRun page index
    | _ => .badLength code
  | 0x31 => bare .pause code body
  | 0x32 => bare .resume code body
  | 0x33 => bare .confirm code body
  | 0x34 => bare .skipSleeper code body
  | 0x35 => bare .abortSleeper code body
  | 0x36 => bare .retamp code body
  | 0x37 => bare .stopRun code body
  | 0x38 => bare .clearStop code body
  | 0x40 =>
    match body with
    | [n] => .readResults n
    | _ => .badLength code
  | 0x41 =>
    match body with
    | [n] => .releaseResults n
    | _ => .badLength code
  | 0x42 => bare .getStatus code body
  | 0x43 =>
    match body with
    | [clear] => .getCounters clear
    | _ => .badLength code
  | 0x44 =>
    match body with
    | [mask] => .clearEvents mask
    | _ => .badLength code
  | _ => .unknownCode code

/-- The request code of a call (11 "Requests"). -/
def callCode : Call → Byte
  | .setParam .. => 0x01
  | .getParam .. => 0x02
  | .restart => 0x03
  | .openPage .. => 0x10
  | .loadRecords .. => 0x11
  | .closePage .. => 0x12
  | .discardPage .. => 0x13
  | .readRecord .. => 0x14
  | .writeRule .. => 0x20
  | .readRule .. => 0x21
  | .clearRules => 0x22
  | .setManualMask .. => 0x28
  | .setChainage .. => 0x29
  | .startRun .. => 0x30
  | .pause => 0x31
  | .resume => 0x32
  | .confirm => 0x33
  | .skipSleeper => 0x34
  | .abortSleeper => 0x35
  | .retamp => 0x36
  | .stopRun => 0x37
  | .clearStop => 0x38
  | .readResults .. => 0x40
  | .releaseResults .. => 0x41
  | .getStatus => 0x42
  | .getCounters .. => 0x43
  | .clearEvents .. => 0x44
  | .badLength code => code
  | .unknownCode code => code

/-! ## Writing a request, from the same tables -/

/-- The presence byte of a record body: bits 0 to 4 for the values, bits 5 to 7 as given. -/
def recordPresence (r : WireRecord) : Byte :=
  maskByte [r.eF.isSome, r.eFv.isSome, r.liftOverride.isSome, r.shiftOverride.isSome,
    r.branchLift.isSome, r.spare.getLsbD 0, r.spare.getLsbD 1, r.spare.getLsbD 2]

def wireRecordBytes (r : WireRecord) : List Byte :=
  bytes4 r.chainage ++ [r.kind, r.rails, r.refRail] ++ bytes2 r.obstacles ++ bytes2 r.vd
    ++ bytes2 r.vvd ++ bytes2 r.cd ++ [r.skip, r.confirm, r.runOut, r.noDetect, recordPresence r,
      BitVec.ofNat 8 r.heads.length]
    ++ ([r.eF, r.eFv, r.liftOverride, r.shiftOverride, r.branchLift].filterMap id).flatMap bytes2
    ++ r.heads.flatMap fun e => e.1 :: bytes2 e.2

def wireRuleBytes (r : WireRule) : List Byte :=
  [r.enabled, r.keyType] ++ bytes4 r.lo ++ bytes4 r.hi ++ [r.kind] ++ bytes2 r.forbid
    ++ [r.maxLiftPresent] ++ bytes2 r.maxLift ++ [r.shiftInhibit, r.reduction, r.insertions, r.confirm,
      r.skip]

/-- The body that carries a call's arguments. A call the link answers itself has none of its own. -/
def callBody : Call → List Byte
  | .setParam id value => id :: bytes4 value
  | .getParam id => [id]
  | .openPage page => [page]
  | .loadRecords page first records =>
    [page, first, BitVec.ofNat 8 records.length] ++ records.flatMap wireRecordBytes
  | .closePage page count endByte => [page, count, endByte]
  | .discardPage page => [page]
  | .readRecord page index => [page, index]
  | .writeRule slot rule => slot :: wireRuleBytes rule
  | .readRule slot => [slot]
  | .setManualMask mask => bytes2 mask
  | .setChainage value => bytes4 value
  | .startRun page index => [page, index]
  | .readResults n => [n]
  | .releaseResults n => [n]
  | .getCounters clear => [clear]
  | .clearEvents mask => [mask]
  | _ => []

/-- A frame's bytes from LENGTH to its check (11 "Frame"). -/
def framedBytes (kind tag code : Byte) (body : List Byte) : List Byte :=
  let covered := BitVec.ofNat 8 (3 + body.length) :: kind :: tag :: code :: body
  covered ++ bytes2 (crc16 covered)

/-- The whole frame of a request: START, then the rest. -/
def requestFrame (r : Request) : List Byte :=
  0x5A :: framedBytes 1 r.tag (callCode r.call) (callBody r.call)

/-- The bytes a frame of the transmit queue sends (11 R182, "Frame"). -/
def TxFrame.bytes (f : TxFrame) : List Byte :=
  0x5A :: framedBytes (match f.kind with | .reply => 2 | .report => 3) f.tag f.code f.body

/-! ## Replies (11 R181) -/

inductive ResultCode
  | ok
  | adjusted
  | queueFull
  | badLength
  | unknownCode
  | badValue
  | wrongState
  | pageState
deriving DecidableEq, Repr

def ResultCode.byte : ResultCode → Byte
  | .ok => 0
  | .adjusted => 1
  | .queueFull => 2
  | .badLength => 3
  | .unknownCode => 4
  | .badValue => 5
  | .wrongState => 6
  | .pageState => 7

/-- What a request is answered: its result code and what the body carries after it. -/
structure Reply where
  code : ResultCode
  body : List Byte
deriving DecidableEq, Repr

/-- A reply with nothing after its code. -/
def Reply.plain (c : ResultCode) : Reply := ⟨c, []⟩

/-- The reply frame of a request: KIND REPLY, the request's TAG and CODE, the result code first
(11 R181). -/
def replyFrame (r : Request) (y : Reply) : TxFrame :=
  ⟨.reply, r.tag, callCode r.call, y.code.byte :: y.body⟩

end Sys2Proof.Machine
end

