-- ==== Sys2Proof/Machine/Plan.lean ====
section
/-! DEFINITION. The plan store (01): pages and their records, the two pointers, the front computation, the
crossing, and the plan requests as changes of the store. -/

namespace Sys2Proof.Machine

/-! ## Pages -/

/-- The record count of a page (01 R1). -/
def Page.count (p : Page) : Nat := p.records.length

/-- The record at an index, when the place holds one. -/
def Page.at? (p : Page) (i : Nat) : Option SleeperRecord := (p.records[i]?).join

/-- The last record of a page that is READY or ACTIVE. -/
def Page.last? (p : Page) : Option SleeperRecord := p.at? (p.count - 1)

/-- A page the run can work in: READY, or ACTIVE already. -/
def Page.workable (p : Page) : Bool := decide (p.state = .ready ∨ p.state = .active)

/-- The page of a page byte; none outside 0 to 3 (01 R3). -/
def pageOf? (b : Byte) : Option (Fin 4) :=
  match b.toNat with
  | 0 => some 0
  | 1 => some 1
  | 2 => some 2
  | 3 => some 3
  | _ => none

def PlanStore.page (p : PlanStore) (n : Fin 4) : Page := p.pages.get n

def PlanStore.setPage (p : PlanStore) (n : Fin 4) (x : Page) : PlanStore :=
  { p with pages := p.pages.set n x }

def PlanStore.at? (p : PlanStore) (pos : Pos) : Option SleeperRecord := (p.page pos.page).at? pos.index

/-- The record under the workhead pointer. -/
def PlanStore.workheadRecord (p : PlanStore) : Option SleeperRecord := p.workhead.bind p.at?

def PlanStore.setOrderFault (p : PlanStore) (n : Fin 4) (b : Bool) : PlanStore :=
  p.setPage n { p.page n with orderFault := b }

/-- A READY page that a pointer enters becomes ACTIVE (01 R2). -/
def Page.entered (p : Page) : Page := if p.state = .ready then { p with state := .active } else p

/-- An ACTIVE page that its last pointer leaves ahead of the workhead returns to READY with its records,
count and END flag (01 R2, R25). -/
def Page.returned (p : Page) : Page := if p.state = .active then { p with state := .ready } else p

/-- An ACTIVE page the work has passed through becomes EMPTY (01 R2, R25). -/
def Page.worked (p : Page) : Page := if p.state = .active then .cleared else p

/-- The order-fault flag cleared (01 R21). -/
def Page.faultCleared (p : Page) : Page := { p with orderFault := false }

/-! ## The front pointer (01 R17 to R23) -/

/-- A searched record and where it stands. -/
structure Searched where
  pos : Pos
  record : SleeperRecord
deriving DecidableEq, Repr

/-- The records of page `n` from index `first` on. -/
def searchedOf (n : Fin 4) (p : Page) (first : Nat) : List Searched :=
  p.records.zipIdx.filterMap fun e =>
    if first ≤ e.2 then e.1.map fun r => ⟨⟨n, e.2⟩, r⟩ else none

/-- The order check: record 0 of `next` lies beyond the last record of `prev` (01 R21). -/
def inOrder (prev next : Page) : Bool :=
  match prev.last?, next.at? 0 with
  | some a, some b => decide (a.chainage < b.chainage)
  | _, _ => false

/-- The search of the successor pages of `prev`, at most `k` of them: whole pages, stopping after an END
page and before a page that is neither READY nor ACTIVE or fails the order check, whose order-fault flag
each check sets or clears (01 R17, R21). -/
def searchOn : Nat → Fin 4 → PlanStore → List Searched → PlanStore × List Searched
  | 0, _, p, found => (p, found)
  | k + 1, prev, p, found =>
    if (p.page prev).endFlag then (p, found)
    else if (p.page (prev + 1)).workable then
      if inOrder (p.page prev) (p.page (prev + 1)) then
        searchOn k (prev + 1) (p.setOrderFault (prev + 1) false)
          (found ++ searchedOf (prev + 1) (p.page (prev + 1)) 0)
      else (p.setOrderFault (prev + 1) true, found)
    else (p, found)

/-- The outcome of a front computation, with the front values it gives: 0 and 0 unless bracketed
(01 R17, R18). -/
structure FrontResult where
  outcome : FrontOutcome
  eF : Int
  eFv : Int
deriving DecidableEq, Repr

/-- The front pointer moved to a position: the page it enters becomes ACTIVE, the page it leaves returns
to READY unless the workhead stands there (01 R2, R18). -/
def PlanStore.moveFront (p : PlanStore) (pos : Pos) : PlanStore :=
  let left :=
    match p.front with
    | some f =>
      if f.page ≠ pos.page ∧ p.workhead.map Pos.page ≠ some f.page then
        p.setPage f.page (p.page f.page).returned
      else p
    | none => p
  { left.setPage pos.page (left.page pos.page).entered with front := some pos }

/-- Where a held front pointer stands: where it last stood, or on the workhead record when that lies
behind it or when there is no earlier position (01 R19). -/
def PlanStore.heldFront (p : PlanStore) (workhead : Pos) (w : SleeperRecord) : Pos :=
  match p.front with
  | some f =>
    match p.at? f with
    | some r => if r.chainage < w.chainage then workhead else f
    | none => workhead
  | none => workhead

/-- The front computation (01 R17 to R22). -/
def PlanStore.computeFront (p : PlanStore) (chordFront : Int) : PlanStore × FrontResult :=
  match p.workhead with
  | none => (p, ⟨.held, 0, 0⟩)
  | some w =>
    match p.at? w with
    | none => (p, ⟨.held, 0, 0⟩)
    | some r =>
      let f := r.chainage + chordFront
      let (q, found) := searchOn 3 w.page p (searchedOf w.page (p.page w.page) w.index)
      match found.getLast? with
      | none => (q, ⟨.held, 0, 0⟩)
      | some last =>
        if f ≤ last.record.chainage then
          match (found.filter fun e => decide (e.record.chainage ≤ f)).getLast? with
          | some e => (q.moveFront e.pos, ⟨.bracketed, e.record.eF.getD 0, e.record.eFv.getD 0⟩)
          | none => (q, ⟨.held, 0, 0⟩)
        else if (q.page last.pos.page).endFlag then
          (q.moveFront last.pos, ⟨.beyondEnd, 0, 0⟩)
        else (q.moveFront (q.heldFront w r), ⟨.held, 0, 0⟩)

/-! ## The workhead pointer (01 R14 to R16, R20, R25) -/

/-- START_RUN accepted: order-fault flags cleared, the workhead set, the front computed (01 R14). -/
def PlanStore.startRun (p : PlanStore) (pos : Pos) (chordFront : Int) : PlanStore :=
  let cleared := { p with pages := p.pages.map Page.faultCleared }
  let placed :=
    { cleared.setPage pos.page (cleared.page pos.page).entered with workhead := some pos, front := none }
  (placed.computeFront chordFront).1

/-- A crossing from page `w.page` to index 0 of its successor: taken, or refused with the order-fault flag
set where the comparison failed (01 R20). The answer says whether the pointer moved. -/
def PlanStore.cross (p : PlanStore) (w : Pos) (chordFront : Int) : PlanStore × Bool :=
  let q := w.page + 1
  if (p.page q).workable then
    if inOrder (p.page w.page) (p.page q) then
      let moved := { p.setPage q (p.page q).entered with workhead := some ⟨q, 0⟩ }
      let front := (moved.computeFront chordFront).1
      ((front.setPage w.page .cleared).setOrderFault q false, true)
    else (p.setOrderFault q true, false)
  else (p, false)

/-- The advance of the workhead pointer: the next index of its page, or a crossing (01 R15). -/
def PlanStore.advance (p : PlanStore) (chordFront : Int) : PlanStore × Bool :=
  match p.workhead with
  | none => (p, false)
  | some w =>
    if w.index + 1 < (p.page w.page).count then
      (({ p with workhead := some ⟨w.page, w.index + 1⟩ }).computeFront chordFront |>.1, true)
    else p.cross w chordFront

/-- The record under the workhead pointer is the last of a page that carries END (06 R108). -/
def PlanStore.atEnd (p : PlanStore) : Bool :=
  match p.workhead with
  | none => false
  | some w => (p.page w.page).endFlag && decide (w.index + 1 = (p.page w.page).count)

/-- ENDED: both pointers cleared, every ACTIVE page EMPTY (01 R25). -/
def PlanStore.endRun (p : PlanStore) : PlanStore :=
  ⟨p.pages.map Page.worked, none, none⟩

/-- STOP_RUN: both pointers cleared, every ACTIVE page READY (01 R25). -/
def PlanStore.stopRun (p : PlanStore) : PlanStore :=
  ⟨p.pages.map Page.returned, none, none⟩

/-! ## The plan requests (01 R3 to R9) -/

/-- A refusal of a plan request with BAD_VALUE carries a position field (01 R3). -/
def badPosition (n : Nat) : Reply := ⟨.badValue, [BitVec.ofNat 8 n]⟩

/-- OPEN_PAGE (01 R4). -/
def PlanStore.openPage (p : PlanStore) (page : Byte) : PlanStore × Reply :=
  match pageOf? page with
  | none => (p, badPosition 0)
  | some n =>
    if (p.page n).state = .empty ∨ (p.page n).state = .ready then
      (p.setPage n ⟨.loading, false, false, []⟩, .plain .ok)
    else (p, .plain .pageState)

/-- A record written at an index, replacing one there, with the places between left unwritten (01 R6). -/
def placeAt (records : List (Option SleeperRecord)) (i : Nat) (r : SleeperRecord) :
    List (Option SleeperRecord) :=
  if i < records.length then records.set i (some r)
  else records ++ List.replicate (i - records.length) none ++ [some r]

/-- Records written at consecutive indexes from `i` (01 R6). -/
def placeAll : List (Option SleeperRecord) → Nat → List SleeperRecord → List (Option SleeperRecord)
  | records, _, [] => records
  | records, i, r :: rest => placeAll (placeAt records i r) (i + 1) rest

/-- The records of a message validated in order: all of them, or the position from 1 of the first that
fails (01 R5, R13). -/
def validateAll : Nat → List WireRecord → List SleeperRecord ⊕ Nat
  | _, [] => .inl []
  | pos, r :: rest =>
    match validateRecord? r with
    | none => .inr pos
    | some x =>
      match validateAll (pos + 1) rest with
      | .inl l => .inl (x :: l)
      | .inr k => .inr k

/-- LOAD_RECORDS (01 R5, R6). -/
def PlanStore.loadRecords (p : PlanStore) (page first : Byte) (records : List WireRecord) :
    PlanStore × Reply :=
  match pageOf? page with
  | none => (p, badPosition 0)
  | some n =>
    if (p.page n).state = .loading then
      if records.length < 1 ∨ 8 < records.length then (p, badPosition 0)
      else if 63 < first.toNat + records.length - 1 then (p, badPosition 0)
      else
        match validateAll 1 records with
        | .inr k => (p, badPosition k)
        | .inl l =>
          let loaded := placeAll (p.page n).records first.toNat l
          (p.setPage n { p.page n with records := loaded }, ⟨.ok, [BitVec.ofNat 8 loaded.length]⟩)
    else (p, .plain .pageState)

/-- The lowest index below `count` whose place was not written (01 R7). -/
def firstUnwritten (p : Page) (count : Nat) : Option Nat :=
  (List.range count).find? fun i => (p.at? i).isNone

/-- The lowest index from 1 below `count` whose nominal chainage does not exceed that of the index before
it (01 R7). -/
def firstDisorder (p : Page) (count : Nat) : Option Nat :=
  (List.range count).find? fun i =>
    match i with
    | 0 => false
    | j + 1 =>
      match p.at? j, p.at? (j + 1) with
      | some a, some b => decide (b.chainage ≤ a.chainage)
      | _, _ => false

/-- CLOSE_PAGE as a change of the store (01 R3, R7); the crossing it may let through is tried by the caller. DESIGN
CHOICE (log entry 34): the position field is 0 for a page outside 0 to 3, which the table of R3 does not name. -/
def PlanStore.closePage (p : PlanStore) (page count endByte : Byte) : PlanStore × Reply :=
  match pageOf? page with
  | none => (p, badPosition 0)
  | some n =>
    if (p.page n).state = .loading then
      match yesNo? endByte with
      | none => (p, badPosition 0)
      | some e =>
        if count.toNat < 1 ∨ 64 < count.toNat then (p, badPosition 0)
        else
          match firstUnwritten (p.page n) count.toNat with
          | some i => (p, badPosition i)
          | none =>
            match firstDisorder (p.page n) count.toNat with
            | some i => (p, badPosition i)
            | none =>
              (p.setPage n ⟨.ready, e, (p.page n).orderFault, (p.page n).records.take count.toNat⟩,
                .plain .ok)
    else (p, .plain .pageState)

/-- DISCARD_PAGE (01 R8). -/
def PlanStore.discardPage (p : PlanStore) (page : Byte) : PlanStore × Reply :=
  match pageOf? page with
  | none => (p, badPosition 0)
  | some n =>
    match (p.page n).state with
    | .active => (p, .plain .pageState)
    | .empty => (p, .plain .ok)
    | .loading => (p.setPage n .cleared, .plain .ok)
    | .ready => (p.setPage n .cleared, .plain .ok)

/-- READ_RECORD (01 R9): the reply. -/
def PlanStore.readRecord (p : PlanStore) (page index : Byte) : Reply :=
  match pageOf? page with
  | none => badPosition 0
  | some n =>
    if (p.page n).state = .empty then .plain .pageState
    else
      match (p.page n).at? index.toNat with
      | none => badPosition 0
      | some r => ⟨.ok, page :: index :: r.bytes⟩

end Sys2Proof.Machine
end

