-- ==== Sys2Proof/Machine/Rules.lean ====
section
/-! DEFINITION. The zone rule table, its scan, and the fields of the sleeper context found from it (02). -/

namespace Sys2Proof.Machine

/-! ## The table and its requests (02 R27 to R30) -/

/-- The rule in a slot; a slot of the table always holds one (02 R26). -/
def ruleAt (rules : List ZoneRule) (slot : Nat) : ZoneRule := rules.getD slot .cleared

/-- WRITE_RULE (02 R27): slot number, then the rule's own checks; a refusal changes nothing. -/
def writeRuleIn (rules : List ZoneRule) (slot : Byte) (rule : WireRule) : List ZoneRule × Reply :=
  if slot.toNat < 32 then
    match validateRule? rule with
    | some r => (rules.set slot.toNat r, .plain .ok)
    | none => (rules, .plain .badValue)
  else (rules, .plain .badValue)

/-- READ_RULE (02 R29). -/
def readRuleFrom (rules : List ZoneRule) (slot : Byte) : Reply :=
  if slot.toNat < 32 then ⟨.ok, slot :: (ruleAt rules slot.toNat).bytes⟩ else .plain .badValue

/-- CLEAR_RULES (02 R30). -/
def clearedRules : List ZoneRule := List.replicate 32 .cleared

/-! ## The scan (02 R31 to R33) -/

/-- An enabled CHAINAGE rule whose range contains the record's nominal chainage. -/
def ZoneRule.matchesChainage (r : ZoneRule) (x : SleeperRecord) : Bool :=
  match r.key with
  | .chainage lo hi => r.enabled && decide (lo ≤ x.chainage ∧ x.chainage ≤ hi)
  | .kind _ => false

/-- An enabled KIND rule whose kind is the record's. -/
def ZoneRule.matchesKind (r : ZoneRule) (x : SleeperRecord) : Bool :=
  match r.key with
  | .chainage _ _ => false
  | .kind k => r.enabled && decide (k = x.kind)

/-- The first slot, from slot `i` on, whose rule satisfies a test. -/
def firstSlot (test : ZoneRule → Bool) : Nat → List ZoneRule → Option (Nat × ZoneRule)
  | _, [] => none
  | i, r :: rest => if test r then some (i, r) else firstSlot test (i + 1) rest

/-- The smaller of the values that are present (02 R32). -/
def smallerPresent : Option Int → Option Int → Option Int
  | some a, some b => some (min a b)
  | some a, none => some a
  | none, b => b

/-- The result of no rule (02 R31). -/
def RuleResult.none : RuleResult :=
  ⟨.none, .none, 0, .none, false, 0, .none, false, false⟩

/-- The settings of one match alone (02 R32, R33). -/
def RuleResult.ofOne (chainageSlot kindSlot : Option Nat) (r : ZoneRule) : RuleResult :=
  ⟨chainageSlot, kindSlot, r.forbid, r.maxLift, r.shiftInhibit, r.reduction, r.insertions, r.confirm,
    r.skip⟩

/-- The settings of two matches combined: masks, limit and yes-or-no settings alike (02 R32), the scalars
from the higher-numbered slot, insertions falling back to the other (02 R33). -/
def RuleResult.ofTwo (c : Nat × ZoneRule) (k : Nat × ZoneRule) : RuleResult :=
  let high := if c.1 < k.1 then k.2 else c.2
  let low := if c.1 < k.1 then c.2 else k.2
  ⟨some c.1, some k.1, c.2.forbid ||| k.2.forbid, smallerPresent c.2.maxLift k.2.maxLift,
    c.2.shiftInhibit || k.2.shiftInhibit, high.reduction, high.insertions.or low.insertions,
    c.2.confirm || k.2.confirm, c.2.skip || k.2.skip⟩

/-- The scan of the table against the workhead record, through the slots in ascending order (02 R31). -/
def scanRules (rules : List ZoneRule) (x : SleeperRecord) : RuleResult :=
  match firstSlot (·.matchesChainage x) 0 rules, firstSlot (·.matchesKind x) 0 rules with
  | some c, some k => .ofTwo c k
  | some c, none => .ofOne (some c.1) .none c.2
  | none, some k => .ofOne .none (some k.1) k.2
  | none, none => .none

/-! ## The fields of a context (02 R34 to R40) -/

/-- The effective max lift (02 R36). -/
def effectiveMaxLift (maxLift : Int) (rule : RuleResult) : Int :=
  match rule.maxLift with
  | some m => min maxLift m
  | none => maxLift

/-- The effective shift limit (02 R36). -/
def effectiveShiftLimit (shiftLimit : Int) (rule : RuleResult) : Int :=
  if rule.shiftInhibit then 0 else shiftLimit

/-- The squeeze pressure, never below 40 bar (02 R37). -/
def squeezePressureOf (pressure reduction : Int) : Int :=
  max leastPressure (pressure * (100 - reduction) / 100)

/-- The enabled arm mask: a manual mask, or all arms less the forbidden ones; never an obstacle arm
(02 R39). -/
def enabledMask (manual : Option TineMask) (obstacles forbid : TineMask) : TineMask :=
  match manual with
  | some m => m &&& ~~~obstacles
  | none => ~~~(obstacles ||| forbid)

/-- The cycle parameters as a context samples them (02 R35). -/
def sampleCycle (p : Params) : CycleParams where
  settleFrames := p.settleFrames.toNat
  deadband := p.deadband
  correctionTime := p.correctionTime
  clampTime := p.clampTime
  squeezeTime := p.squeezeTime
  penetrationTime := p.penetrationTime
  penetrationDepth := p.penetrationDepth
  traverseTime := p.traverseTime
  tiltTime := p.tiltTime
  baseLift := p.baseLift
  slopeLimit := p.slopeLimit

/-- The flags a context takes at formation (05 R93). -/
def formationFlags (front : FrontOutcome) (detection : Option DetectionOutcome) : BitVec 16 :=
  CorrectionFlag.frontHeld.when (decide (front = .held))
    ||| CorrectionFlag.frontBeyondEnd.when (decide (front = .beyondEnd))
    ||| CorrectionFlag.detectionMissed.when (decide (detection = some .missed))

/-- The context of a record at a position, from the front values, the rule scan, the pending manual mask
and skip, and the parameters (02 R34 to R40). A retamp takes no detection outcome (03 R61). -/
def formContext (s : State) (record : SleeperRecord) (pos : Pos) (kind : AdmissionKind)
    (front : FrontResult) : Context :=
  let rule := scanRules s.rules record
  let detection := if kind = .retamp then none else s.chainage.move.outcome
  { record := record
    pos := pos
    kind := kind
    frontOutcome := front.outcome
    eF := if front.outcome = .held then s.computer.eF else front.eF
    eFv := if front.outcome = .held then s.computer.eFv else front.eFv
    rule := rule
    maxLift := effectiveMaxLift s.params.maxLift rule
    shiftLimit := effectiveShiftLimit s.params.shiftLimit rule
    squeezePressure := squeezePressureOf s.params.squeezePressure rule.reduction
    insertions := rule.insertions.getD s.params.insertions.toNat
    confirm := record.confirm || rule.confirm
    skip := record.skip || rule.skip || s.seq.skipPending
    enabled := enabledMask s.manualMask record.obstacles rule.forbid
    lateral := lateralTargets record.heads
    cycle := sampleCycle s.params
    detection := detection
    drift := if detection = some .matched then s.chainage.move.drift else none
    flags := formationFlags front.outcome detection
    settled := none
    correction := none
    achieved := none
    residual := none }

end Sys2Proof.Machine
end

