-- ==== Sys2Proof/Machine/Chainage.lean ====
section
/-! DEFINITION. The chainage unit (03): the odometer, the index move record, detections, and the judging
of a stop of the drive. -/

namespace Sys2Proof.Machine

/-- One odometer count (03 R44). -/
def ChainageUnit.count (c : ChainageUnit) (forward : Bool) : ChainageUnit :=
  { c with running := if forward then c.running + 1 else c.running - 1 }

/-- The index move record cleared: NO_MOVE, no match, no outcome, the timer stopped (03 R48). The target
and the stop tolerance stand until the next MOVE forms them. -/
def IndexMove.clear (m : IndexMove) : IndexMove :=
  { m with state := .noMove, drift := none, outcome := none, timer := none }

/-- A MOVE sent: the demand on the line, with STOP_TOLERANCE and INDEX_TIME sampled and the index timer
loaded (03 R49, R50). -/
def ChainageUnit.sendMove (c : ChainageUnit) (p : Params) (st : MoveState) (d : Int) : ChainageUnit :=
  { c with
    move := { c.move with state := st, stopTolerance := p.stopTolerance, timer := some p.indexTime }
    line := some (.move d) }

/-- The start of an index move toward a record of the given nominal chainage (03 R49). -/
def ChainageUnit.startMove (c : ChainageUnit) (p : Params) (nominal : Int) : ChainageUnit :=
  let target := nominal + c.offset
  ({ c with move := { c.move with target := target } }).sendMove p .firstMove (target - c.running)

/-- The entry to FAULT_STOP and STOP_RUN (03 R63): a cancel is sent, the demand withdrawn and the timer
stopped; FIRST_MOVE and CORRECTION_MOVE become CANCELLED, any other state is kept. -/
def ChainageUnit.cancelTravel (c : ChainageUnit) : ChainageUnit :=
  { c with
    move := { c.move with
      state := if c.move.demandActive then .cancelled else c.move.state
      timer := none }
    line := some .cancel }

/-- The position error (03 R50). -/
def ChainageUnit.positionError (c : ChainageUnit) : Int := c.running - c.move.target

/-- Whether the drive stopped within the stop tolerance (03 R50, R51). -/
def ChainageUnit.withinTolerance (c : ChainageUnit) : Bool :=
  decide (absInt c.positionError ≤ c.move.stopTolerance)

/-- The detection outcome of a record positioned for the first time (03 R59). -/
def judgeDetection (m : IndexMove) (noDetect : Bool) : DetectionOutcome :=
  if m.drift.isSome then .matched else if noDetect then .exempt else .missed

/-- What a detection does during an active demand (03 R56 to R58): the unit after it, and whether the
detection is spurious. -/
def ChainageUnit.detect (c : ChainageUnit) (p : Params) (nominal : Int) : ChainageUnit × Bool :=
  let drift := c.running + p.detectorLead - (nominal + c.offset)
  if c.move.drift.isSome then (c, false)
  else if absInt drift ≤ p.driftTolerance then
    let offset := c.offset + drift
    let target := nominal + offset
    ({ c with
        offset := offset
        move := { c.move with target := target, drift := some drift }
        line := some (.revise (target - c.running)) }, false)
  else (c, true)

/-! ## Events that touch the chainage unit alone -/

/-- A detection signal: dropped outside an active demand (03 R56, R58). -/
def takeDetection (s : State) : State :=
  if s.chainage.move.demandActive then
    match s.plan.workheadRecord with
    | none => s
    | some r =>
      let (c, spurious) := s.chainage.detect s.params r.chainage
      if spurious then s.bump .detectionsSpurious else s.setChainage c
  else s

/-- SET_CHAINAGE (03 R45). DEDUCED (log entry 27): the range is checked first, as the rule states it
first. -/
def setChainageTo (value : BitVec 32) (s : State) : State × Reply :=
  if chainageMax < value.toNat then (s, .plain .badValue)
  else if s.chainage.move.demandActive then (s, .plain .wrongState)
  else (s.modChainage fun c => { c with running := value.toNat }, .plain .ok)

end Sys2Proof.Machine
end

