-- ==== Sys2Proof/Machine/Measuring.lean ====
section
/-! DEFINITION. The measuring unit (04): frames and their samples, settle windows and their settled values,
live values and the loss of a channel. -/

namespace Sys2Proof.Machine

/-! ## Frames (04 R64, R65) -/

/-- The range of each channel (04 R64): the greatest magnitude, in 0.1 mm. -/
def channelRange : Channels Int := ⟨2000, 1000, 1000, 2000, 1000⟩

/-- A sample of three bytes: the value when its status is OK and the value lies in the channel's range
(04 R64, R65). -/
def sampleOf (range : Int) (hi lo status : Byte) : Option Int :=
  let v := (word2 hi lo).toInt
  if status = 0 ∧ -range ≤ v ∧ v ≤ range then some v else none

/-- The valid samples of a frame: none on any channel unless the frame has its seventeen bytes, saw no
framing fault and passes its check (04 R64, R65). -/
def validSamples (bytes : List Byte) (intact : Bool) : Channels (Option Int) :=
  match bytes with
  | [a1, a0, sa, b1, b0, sb, c1, c0, sc, d1, d0, sd, e1, e0, se, h, l] =>
    if intact = true
        ∧ crc16 [a1, a0, sa, b1, b0, sb, c1, c0, sc, d1, d0, sd, e1, e0, se] = word2 h l then
      ⟨sampleOf channelRange.line a1 a0 sa, sampleOf channelRange.levelL b1 b0 sb,
        sampleOf channelRange.levelR c1 c0 sc, sampleOf channelRange.cross d1 d0 sd,
        sampleOf channelRange.levelB e1 e0 se⟩
    else .all5 none
  | _ => .all5 none

/-- The channels in use for a record: LEVEL_B only with BRANCH (04 R67). -/
def channelsFor (branch : Bool) : Channels Bool := ⟨true, true, true, true, branch⟩

/-! ## Settle windows (04 R67 to R71) -/

/-- A fresh window (04 R67). -/
def Window.fresh (kind : WindowKind) (c : Context) : Window :=
  ⟨kind, channelsFor c.record.branch, c.cycle.settleFrames, 0, .all5 ⟨0, 0⟩⟩

/-- A sample taken by a channel of a window: a valid one on a channel in use below N valid counts
(04 R68). -/
def Tally.take (n : Nat) (used : Bool) (t : Tally) (sample : Option Int) : Tally :=
  match sample with
  | some v => if used = true ∧ t.count < n then ⟨t.count + 1, t.sum + v⟩ else t
  | none => t

/-- A frame taken into a window (04 R68). -/
def Window.take (w : Window) (samples : Channels (Option Int)) : Window :=
  { w with
    frames := w.frames + 1
    tally := (w.inUse.zip (fun u t => (u, t)) w.tally).zip (fun ut x => ut.2.take w.length ut.1 x) samples }

/-- Every channel in use has N valid samples (04 R69). -/
def Window.complete (w : Window) : Bool :=
  (w.inUse.zip (fun u t => !u || decide (t.count = w.length)) w.tally).toList.all id

/-- The window closes: complete, or at its bound of 3 × N frames (04 R69). -/
def Window.closes (w : Window) : Bool := w.complete || decide (3 * w.length ≤ w.frames)

/-- The settled values of a window at its close: of each channel in use with N valid samples, their sum
divided by N, rounded to nearest with ties away from zero (04 R69, R71). -/
def Window.settled (w : Window) : Channels (Option Int) :=
  w.inUse.zip
    (fun u t => if u = true ∧ t.count = w.length then some (roundDiv t.sum w.length) else none) w.tally

/-- A channel in use has no settled value: the sleeper is degraded (04 R76). -/
def degradedBy (inUse : Channels Bool) (settled : Channels (Option Int)) : Bool :=
  (inUse.zip (fun u v => u && v.isNone) settled).toList.any id

/-! ## Live values (04 R73 to R75) -/

/-- A fresh live record (04 R73). -/
def Live.fresh (inUse : Channels Bool) : Live := ⟨inUse, .all5 ⟨none, 0, false⟩⟩

/-- A channel of a live record at one frame; in APPROACHING ten invalid samples in a row lose it (04 R73,
R74). -/
def LiveChannel.take (approaching : Bool) (c : LiveChannel) (sample : Option Int) : LiveChannel :=
  match sample with
  | some v => { c with last := some v, invalid := 0 }
  | none =>
    { c with
      invalid := c.invalid + 1
      lost := c.lost || (approaching && decide (lossLimit ≤ c.invalid + 1)) }

/-- A live record at one frame: the channels in use only (04 R73). -/
def Live.take (approaching : Bool) (l : Live) (samples : Channels (Option Int)) : Live :=
  { l with
    channel := (l.inUse.zip (fun u c => (u, c)) l.channel).zip
      (fun uc x => if uc.1 then uc.2.take approaching x else uc.2) samples }

/-- The last live value of each channel (04 R75). -/
def Live.lastValues (l : Live) : Channels (Option Int) := l.channel.map LiveChannel.last

/-- Live delivery ended, or a window discarded (04 R72, R75). -/
def endMeasuring (s : State) : State := s.setMeasuring .noWindow

/-- Live delivery ended, a window left as it stands (04 R75). -/
def endLive (s : State) : State :=
  match s.measuring with
  | .live _ => s.setMeasuring .noWindow
  | _ => s

end Sys2Proof.Machine
end

