-- ==== Sys2Proof/Machine/Correction.lean ====
section
/-! DEFINITION. The correction computer (05): the eleven stages from settled values to commanded values,
targets and driven axes, and the carry at recording. -/

namespace Sys2Proof.Machine

/-- The chord parameters as a computation samples them (05 R80). -/
structure Chord where
  a : Nat
  aV : Nat
  b : Nat
deriving DecidableEq, Repr

def Chord.sample (p : Params) : Chord :=
  ⟨p.chordLineRear.toNat, p.chordLevelRear.toNat, p.chordFront.toNat⟩

/-- A computed value with the flags its stage raises. -/
structure Flagged where
  value : Int
  flags : BitVec 16
deriving DecidableEq, Repr

/-- Both main rails' lifts. -/
structure MainLifts where
  left : Int
  right : Int
deriving DecidableEq, Repr

/-- A front term: front value times rear distance over chord length (stage 1, 05 R81). -/
def frontTerm (e : Int) (rear front : Nat) : Int := roundDiv (e * rear) (rear + front)

/-- Stage 2, the raw shift (05 R82). -/
def rawShift (c : Context) (v : Option Int) (fL : Int) : Flagged :=
  let measured := match v with | some v => c.record.vd - v - fL | none => 0
  let override := c.record.shiftOverride.getD measured
  if c.rule.shiftInhibit then
    ⟨0, CorrectionFlag.overrideUsed.when c.record.shiftOverride.isSome
      ||| CorrectionFlag.shiftInhibited.mask⟩
  else ⟨override, CorrectionFlag.overrideUsed.when c.record.shiftOverride.isSome⟩

/-- The settled value of the reference rail's LEVEL channel (05 R83). -/
def referenceLevel (c : Context) (m : Channels (Option Int)) : Option Int :=
  match c.record.refRail with
  | .left => m.levelL
  | .right => m.levelR

/-- The settled value of the other main rail's LEVEL channel (05 R84). -/
def otherLevel (c : Context) (m : Channels (Option Int)) : Option Int :=
  match c.record.refRail with
  | .left => m.levelR
  | .right => m.levelL

/-- Stage 3, the reference lift (05 R83). -/
def referenceLift (c : Context) (m : Channels (Option Int)) (fV : Int) : Flagged :=
  let measured :=
    match referenceLevel c m with
    | some h => c.cycle.baseLift + c.record.vvd - h - fV
    | none => 0
  ⟨c.record.liftOverride.getD measured,
    CorrectionFlag.overrideUsed.when c.record.liftOverride.isSome⟩

/-- Stage 4, the lifts of both main rails (05 R84). -/
def pairLifts (c : Context) (m : Channels (Option Int)) (lRef : Int) : MainLifts :=
  let cant := match m.cross with | some cm => c.record.cd - cm | none => 0
  match referenceLevel c m with
  | none => ⟨0, 0⟩
  | some _ =>
    match c.record.refRail with
    | .left => ⟨lRef, lRef + cant⟩
    | .right => ⟨lRef - cant, lRef⟩

/-- Stage 5, run-out, on the main lifts (05 R85). -/
def runOutLifts (c : Context) (l : MainLifts) : MainLifts := if c.record.runOut then ⟨0, 0⟩ else l

/-- Stage 6, the floor (05 R86). -/
def floorLifts (l : MainLifts) : MainLifts :=
  if min l.left l.right < 0 then
    ⟨l.left - min l.left l.right, l.right - min l.left l.right⟩
  else l

def floorFlag (l : MainLifts) : BitVec 16 :=
  CorrectionFlag.liftFloor.when (decide (min l.left l.right < 0))

/-- Stage 7, the branch lift after the floor (05 R87). -/
def branchLift (c : Context) (m : Channels (Option Int)) (l : MainLifts) : Option Int :=
  if c.record.branch = true ∧ m.levelB.isSome = true then
    if c.record.runOut then some 0
    else some (c.record.branchLift.getD (max l.left l.right))
  else none

/-- The first and the final clamp of a lift (05 R88, R90). -/
def clampLift (limit x : Int) : Flagged :=
  ⟨clampTo 0 limit x, CorrectionFlag.liftClamped.when (decide (x < 0 ∨ limit < x))⟩

/-- The first and the final clamp of the shift (05 R88, R90). -/
def clampShift (limit x : Int) : Flagged :=
  ⟨clampTo (-limit) limit x, CorrectionFlag.shiftClamped.when (decide (x < -limit ∨ limit < x))⟩

/-- Stage 9, the slope limit of one quantity against its carry (05 R89). -/
def slopeLimited (d carry x : Int) : Flagged :=
  if carry + d < x then ⟨carry + d, CorrectionFlag.slopeLimited.mask⟩
  else if x < carry - d then ⟨carry - d, CorrectionFlag.slopeLimited.mask⟩
  else ⟨x, 0⟩

/-- Stages 8 to 10 of a lift: clamped, slope limited, clamped again (05 R88 to R90). -/
def limitLift (limit d carry x : Int) : Flagged :=
  let first := clampLift limit x
  let slope := slopeLimited d carry first.value
  let final := clampLift limit slope.value
  ⟨final.value, first.flags ||| slope.flags ||| final.flags⟩

/-- Stages 8 to 10 of the shift (05 R88 to R90). -/
def limitShift (limit d carry x : Int) : Flagged :=
  let first := clampShift limit x
  let slope := slopeLimited d carry first.value
  let final := clampShift limit slope.value
  ⟨final.value, first.flags ||| slope.flags ||| final.flags⟩

/-- A target: a measured value plus a commanded value (05 R91). -/
def targetOf (measured : Option Int) (commanded : Int) : Option Int := measured.map (· + commanded)

/-- Stage 11, the targets (05 R91). -/
def targetsOf (c : Context) (m : Channels (Option Int)) (lL lR s : Int) (lB : Option Int) :
    Channels (Option Int) where
  line := targetOf m.line s
  levelL := targetOf m.levelL lL
  levelR := targetOf m.levelR lR
  levelB := lB.bind (targetOf m.levelB)
  cross := m.cross.map fun _ => c.record.cd

/-- Stage 11, the driven axes (05 R92). -/
def drivenOf (c : Context) (m : Channels (Option Int)) (lL lR s : Int) (lB : Option Int) :
    Track Bool where
  liftL := (referenceLevel c m).isSome && m.levelL.isSome && decide (lL ≠ 0)
  liftR := (referenceLevel c m).isSome && m.levelR.isSome && decide (lR ≠ 0)
  liftB := match lB with | some b => decide (b ≠ 0) | none => false
  line := m.line.isSome && decide (s ≠ 0)

/-- Stage 11, TARGET_NOT_REACHED at the computation: its three cases (05 R92). -/
def undrivenFlag (c : Context) (m : Channels (Option Int)) (lL lR s : Int) : BitVec 16 :=
  CorrectionFlag.targetNotReached.when
    (((otherLevel c m).isNone && (referenceLevel c m).isSome)
      || ((referenceLevel c m).isNone && decide (lL ≠ 0 ∨ lR ≠ 0))
      || (m.line.isNone && decide (s ≠ 0)))

/-- What a computation hands on: the correction and the flags of stages 1 to 11 (05 R79). -/
structure Computed where
  correction : Correction
  flags : BitVec 16
deriving DecidableEq, Repr

/-- The main lifts that enter stage 6 (stages 3 to 5). -/
def liftsBeforeFloor (chord : Chord) (c : Context) (m : Channels (Option Int)) : MainLifts :=
  let fV := frontTerm c.eFv chord.aV chord.b
  runOutLifts c (pairLifts c m (referenceLift c m fV).value)

/-- The shift that enters stage 8 (stages 2 and 5). -/
def shiftBeforeLimits (chord : Chord) (c : Context) (m : Channels (Option Int)) : Int :=
  if c.record.runOut then 0 else (rawShift c m.line (frontTerm c.eF chord.a chord.b)).value

/-- Stages 1 to 11 (05 R81 to R92). -/
def computeCorrection (chord : Chord) (carry : CorrectionComputer) (c : Context)
    (m : Channels (Option Int)) : Computed :=
  let before := liftsBeforeFloor chord c m
  let floored := floorLifts before
  let d := c.cycle.slopeLimit
  let lL := limitLift c.maxLift d carry.cL floored.left
  let lR := limitLift c.maxLift d carry.cR floored.right
  let lB := (branchLift c m floored).map (limitLift c.maxLift d carry.cB)
  let s := limitShift c.shiftLimit d carry.cS (shiftBeforeLimits chord c m)
  let b := lB.map Flagged.value
  { correction :=
      { lL := lL.value, lR := lR.value, lB := b, s := s.value,
        targets := targetsOf c m lL.value lR.value s.value b,
        driven := drivenOf c m lL.value lR.value s.value b }
    flags :=
      (rawShift c m.line (frontTerm c.eF chord.a chord.b)).flags
        ||| (referenceLift c m (frontTerm c.eFv chord.aV chord.b)).flags
        ||| CorrectionFlag.runOut.when c.record.runOut
        ||| floorFlag before
        ||| lL.flags ||| lR.flags ||| ((lB.map Flagged.flags).getD 0) ||| s.flags
        ||| undrivenFlag c m lL.value lR.value s.value }

/-- The held front values take the context's at the end of stage 1 (05 R81). -/
def CorrectionComputer.holdFront (k : CorrectionComputer) (c : Context) : CorrectionComputer :=
  { k with eF := c.eF, eFv := c.eFv }

/-- Whether an outcome lets the carry follow (05 R94). -/
def SleeperOutcome.commits : SleeperOutcome → Bool
  | .tamped => true
  | .partly => true
  | .notTamped => false
  | .skipped => false
  | .skippedNoArms => false
  | .aborted => false

/-- Stage 12, the carry at a recording (05 R94). -/
def CorrectionComputer.commit (k : CorrectionComputer) (o : SleeperOutcome) (c : Option Correction) :
    CorrectionComputer :=
  match c with
  | none => k
  | some x =>
    if o.commits then { k with cL := x.lL, cR := x.lR, cS := x.s, cB := x.lB.getD k.cB } else k

end Sys2Proof.Machine
end

