-- ==== Sys2Proof/Machine/Heads.lean ====
section
/-! DEFINITION. The workhead controllers (07): what each event does to one head record, from what the head
senses and from its sleeper's order. -/

namespace Sys2Proof.Machine

/-! ## What a head reads -/

/-- What a head reads in the sleeper context (07 R124). -/
structure HeadOrder where
  engaged : Bool
  arms : Quad Bool
  target : Int
  insertions : Nat
  pressure : Int
  depth : Int
  penetrationTime : Int
  squeezeTime : Int
  traverseTime : Int
  tiltTime : Int
deriving DecidableEq, Repr

def Context.order (c : Context) (i : Fin 4) : HeadOrder where
  engaged := c.engaged i
  arms := armsOf c.enabled i
  target := c.lateral.get i
  insertions := c.insertions
  pressure := c.squeezePressure
  depth := c.cycle.penetrationDepth
  penetrationTime := c.cycle.penetrationTime
  squeezeTime := c.cycle.squeezeTime
  traverseTime := c.cycle.traverseTime
  tiltTime := c.cycle.tiltTime

/-- What a head reads at an event: the axis frame last taken, its sensors, its tolerances, the state of the
unit, and its order while a context is formed. `below` and `above` are the sensed lateral positions of its
neighbours (07 R122, R125). `tolTraverse` is FOLLOW_TOL_TRAVERSE as sampled at the last axis frame (11 R184).
`awaits` says that the first axis frame after a reset has not come (07 R137). -/
structure HeadEnv where
  lowering : Int
  closing : Int
  lateral : Int
  pressure : Nat
  below : Option Int
  above : Option Int
  raised : Bool
  tilt : Quad TiltReport
  tolHead : Int
  tolSqueeze : Int
  tolTraverse : Int
  holding : Bool
  order : Option HeadOrder
  awaits : Bool
deriving DecidableEq, Repr

/-- The neighbour of a head toward the left. -/
def lateralBelow (q : Quad Int) : Fin 4 → Option Int
  | 0 => none
  | 1 => some q.a
  | 2 => some q.b
  | 3 => some q.c

/-- The neighbour of a head toward the right. -/
def lateralAbove (q : Quad Int) : Fin 4 → Option Int
  | 0 => some q.b
  | 1 => some q.c
  | 2 => some q.d
  | 3 => none

def State.headEnv (s : State) (i : Fin 4) : HeadEnv where
  lowering := s.inputs.axisFrame.sensed.headV.get i
  closing := s.inputs.axisFrame.sensed.sqz.get i
  lateral := s.inputs.axisFrame.sensed.trav.get i
  pressure := s.inputs.axisFrame.pressure.get i
  below := lateralBelow s.inputs.axisFrame.sensed.trav i
  above := lateralAbove s.inputs.axisFrame.sensed.trav i
  raised := s.inputs.raised.get i
  tilt := s.inputs.tilt.get i
  tolHead := s.params.followTolHead
  tolSqueeze := s.params.followTolSqueeze
  tolTraverse := s.supervisor.traverseTol
  holding := decide (s.lining.state = .holding)
  order := s.seq.context.map fun c => c.order i
  awaits := s.awaitFrame

/-- A head record after an event, and whether the head reached PARKED in it (07 R134 step 5). -/
abbrev HeadStep := HeadRecord × Bool

/-! ## Tilt drives (07 R123) -/

/-- The commands an enabled arm mask asks for (07 R125). -/
def tiltsFor (arms : Quad Bool) : Quad TiltCommand :=
  arms.map fun b => if b then .tiltIn else .tiltOut

/-- Tilt commands fall due: given at once while the head-raised sensor reports raised, else waiting
(07 R123). -/
def HeadRecord.commandTilt (raised : Bool) (c : Quad TiltCommand) (h : HeadRecord) : HeadRecord :=
  { h with tiltDue := c, tilt := if raised then c.map some else h.tilt }

/-- An arm is confirmed in the position a command asks for (07 R123). -/
def confirmed (c : TiltCommand) (r : TiltReport) : Bool :=
  match c with
  | .tiltIn => decide (r = .tiltIn)
  | .tiltOut => decide (r = .tiltOut)

/-- Each arm is confirmed in the position that the enabled arm mask gives it (07 R126). -/
def armsConfirmed (arms : Quad Bool) (tilt : Quad TiltReport) : Bool :=
  (Quad.ofFn fun k => confirmed ((tiltsFor arms).get k) (tilt.get k)).allTrue

/-- Every arm outside the enabled arm mask is confirmed tilted out (07 R127). -/
def guardArmsOut (arms : Quad Bool) (tilt : Quad TiltReport) : Bool :=
  (Quad.ofFn fun k => arms.get k || confirmed .tiltOut (tilt.get k)).allTrue

/-- The penetration guard (07 R127). -/
def HeadEnv.guard (e : HeadEnv) : Bool :=
  match e.order with
  | none => false
  | some o => e.holding && guardArmsOut o.arms e.tilt

/-! ## Preparing (07 R125, R126) -/

/-- A prepare order taken (07 R125). -/
def HeadRecord.takePrepare (e : HeadEnv) (o : HeadOrder) (h : HeadRecord) : HeadRecord :=
  { h with
    state := .preparing
    traverseTimer := some o.traverseTime
    tiltTimer := some o.tiltTime
    preparePending := false }.commandTilt e.raised (tiltsFor o.arms)

/-- Setpoints formed between frames: none is sent until the first axis frame after a reset (07 R137). -/
def HeadRecord.sendSet (e : HeadEnv) (vertical squeeze traverse : Int) (h : HeadRecord) : HeadRecord :=
  if e.awaits then h
  else { h with verticalSet := vertical, squeezeSet := squeeze, traverseSet := traverse }

/-- A head in a state without a phase: vibration off, no phase timer running. -/
def HeadRecord.atRest (st : HeadState) (h : HeadRecord) : HeadRecord :=
  { h with
    state := st
    vibration := false
    traverseTimer := none
    tiltTimer := none
    penetrationTimer := none
    squeezeTimer := none }

/-- The setpoints and drives of a head that enters PARKED (07 R134 steps 1 to 3), with no timer running. -/
def HeadRecord.settle (e : HeadEnv) (h : HeadRecord) : HeadRecord :=
  ((h.atRest .parked).sendSet e 0 0 e.lateral).commandTilt e.raised (.all4 .tiltOut)

/-- An entry to PARKED (07 R134): a pending prepare order is taken. DESIGN CHOICE (log entry 11): before the first axis
frame after a reset it stays pending, since a head is PARKED or in a full rise in that time (07 R137). -/
def HeadRecord.park (e : HeadEnv) (h : HeadRecord) : HeadStep :=
  match h.preparePending, e.order, e.awaits with
  | true, some o, false => ((h.settle e).takePrepare e o, true)
  | _, _, _ => (h.settle e, true)

/-- The prepare order of the sequencer (07 R125): taken when PARKED, else held pending. DESIGN CHOICE (log entry 11):
before the first axis frame after a reset it is held pending in PARKED too, and taken at that frame (07 R137). -/
def HeadRecord.orderPrepare (e : HeadEnv) (h : HeadRecord) : HeadRecord :=
  match e.order with
  | none => h
  | some o =>
    if o.engaged then
      if h.state = .parked ∧ e.awaits = false then h.takePrepare e o else { h with preparePending := true }
    else h

/-- The end of preparing when both conditions hold (07 R126). -/
def HeadRecord.testPrepared (e : HeadEnv) (h : HeadRecord) : HeadRecord :=
  match h.state, e.order with
  | .preparing, some o =>
    if absInt (e.lateral - o.target) ≤ e.tolTraverse ∧ armsConfirmed o.arms e.tilt = true then
      { h with state := .ready, traverseTimer := none, tiltTimer := none }.sendSet e h.verticalSet h.squeezeSet
        o.target
    else h
  | _, _ => h

/-- A preparing fault (07 R126): the outcome is fixed and the head parks in the same event. -/
def HeadRecord.preparingFault (e : HeadEnv) (o : HeadOutcome) (h : HeadRecord) : HeadStep :=
  { h with outcome := some o }.park e

/-- The lead of a working stroke: half the class tolerance, rounded down (07 R122). -/
def leadOf (tolerance : Int) : Int := tolerance / 2

/-- A setpoint kept clear of the neighbours by 260 mm (07 R125): brought to the bound where it would lie
within it. DESIGN CHOICE (log entry 12), for a head whose sensed place is already within 260 mm of a
neighbour: the setpoint is the bound, even beyond the sensed position plus the lead (R122) or past the
lateral target. DEDUCED (log entry 12): where the neighbours leave no room, the setpoint does not move. -/
def clearOf (below above : Option Int) (before sp : Int) : Int :=
  match below, above with
  | none, none => sp
  | some l, none => max (l + headClearance) sp
  | none, some u => min (u - headClearance) sp
  | some l, some u =>
    if l + headClearance ≤ u - headClearance then clampTo (l + headClearance) (u - headClearance) sp
    else before

/-- The traverse setpoint of a frame in PREPARING: the sensed position plus the lead, capped at the
lateral target and kept clear of the neighbours (07 R122, R125). -/
def traverseStroke (e : HeadEnv) (target before : Int) : Int :=
  clearOf e.below e.above before
    (if e.lateral ≤ target then min target (e.lateral + leadOf e.tolTraverse)
     else max target (e.lateral - leadOf e.tolTraverse))

/-! ## Penetrating and squeezing (07 R127 to R131) -/

/-- The start of an insertion (07 R129). -/
def HeadRecord.beginInsertion (o : HeadOrder) (h : HeadRecord) : HeadRecord :=
  { h with
    state := .penetrating
    begun := h.begun + 1
    vibration := true
    penetrationTimer := some o.penetrationTime }

/-- The tamp start at a head (07 R127): ignored by a head in any state but READY. -/
def HeadRecord.tampStart (e : HeadEnv) (h : HeadRecord) : HeadStep :=
  if h.state = .ready then
    match e.order with
    | none => (h, false)
    | some o =>
      if e.guard then (h.beginInsertion o, false)
      else { h with outcome := some .tiltFault }.park e
  else (h, false)

/-- A frame in PENETRATING (07 R129). -/
def HeadRecord.penetrate (e : HeadEnv) (o : HeadOrder) (h : HeadRecord) : HeadRecord :=
  let deeper := { h with depth := max h.depth e.lowering }
  if o.depth ≤ e.lowering then
    { deeper with
      state := .squeezing
      penetrationTimer := none
      verticalSet := o.depth
      squeezeTimer := some o.squeezeTime }
  else
    { deeper with
      verticalSet := min (o.depth + leadOf e.tolHead) (e.lowering + leadOf e.tolHead) }

/-- The outcome after the last planned squeeze (07 R133). -/
def squeezedOutcome (results : List SqueezeResult) : HeadOutcome :=
  if results.any fun r => decide (r = .timeLimited) then .timeLimited else .complete

/-- The end of a squeeze (07 R131, R133). -/
def HeadRecord.endSqueeze (r : SqueezeResult) (h : HeadRecord) : HeadRecord :=
  { h with
    state := .opening
    squeezeTimer := none
    vibration := false
    results := h.results ++ [r]
    outcome :=
      if h.planned ≤ (h.results ++ [r]).length then some (squeezedOutcome (h.results ++ [r]))
      else h.outcome }

/-- A frame in SQUEEZING (07 R131). -/
def HeadRecord.squeeze (e : HeadEnv) (o : HeadOrder) (h : HeadRecord) : HeadRecord :=
  let stepped :=
    { h with
      depth := max h.depth e.lowering
      peak := max h.peak e.pressure
      squeezeSet := min closedEnd (e.closing + leadOf e.tolSqueeze) }
  if o.pressure ≤ (e.pressure : Int) then stepped.endSqueeze .complete else stepped

/-- The way out of the ballast: vibration off, phase timers stopped, and from PENETRATING a full rise, from
SQUEEZING the opening (07 R128, R135). -/
def HeadRecord.leaveBallast (h : HeadRecord) : HeadRecord :=
  { h with
    state := if h.state = .penetrating then .rising .full else .opening
    vibration := false
    penetrationTimer := none
    squeezeTimer := none }

/-- A head in the ballast: PENETRATING or SQUEEZING. -/
def HeadRecord.working (h : HeadRecord) : Bool :=
  decide (h.state = .penetrating ∨ h.state = .squeezing)

/-- The guard of a working head tested at a sensor report (07 R128). -/
def HeadRecord.testGuard (e : HeadEnv) (h : HeadRecord) : HeadRecord :=
  if h.working = true ∧ e.guard = false then { h.leaveBallast with outcome := some .tiltFault } else h

/-- A strike (07 R130). -/
def HeadRecord.strike (h : HeadRecord) : HeadRecord :=
  { h.leaveBallast with outcome := some .struck }

/-! ## Opening, rising and parking (07 R132, R134) -/

/-- The form of the rise after an opening (07 R132). -/
def HeadRecord.riseForm (h : HeadRecord) : RiseForm :=
  if h.begun = 1 ∧ h.planned = 2 ∧ h.outcome = none then .partway else .full

/-- A frame in OPENING (07 R122, R132). -/
def HeadRecord.open (e : HeadEnv) (h : HeadRecord) : HeadRecord :=
  let stepped := { h with squeezeSet := stepToward squeezeStep 0 h.squeezeSet }
  if stepped.squeezeSet = 0 ∧ absInt e.closing ≤ e.tolSqueeze then
    { stepped with state := .rising h.riseForm }
  else stepped

/-- The end of a full rise (07 R134). -/
def HeadRecord.testRaised (e : HeadEnv) (h : HeadRecord) : HeadStep :=
  if h.state = .rising .full ∧ h.verticalSet = 0 ∧ e.raised = true then h.park e else (h, false)

/-- A frame in a full rise (07 R122, R134). -/
def HeadRecord.riseFull (e : HeadEnv) (h : HeadRecord) : HeadStep :=
  { h with verticalSet := stepToward riseStep 0 h.verticalSet }.testRaised e

/-- A frame in a partial rise (07 R122, R132). -/
def HeadRecord.riseToReentry (e : HeadEnv) (o : HeadOrder) (h : HeadRecord) : HeadRecord :=
  let goal := o.depth - reentryRise
  let stepped := { h with verticalSet := stepToward riseStep goal h.verticalSet }
  if stepped.verticalSet = goal ∧ absInt (e.lowering - goal) ≤ e.tolHead then
    if e.guard then stepped.beginInsertion o
    else { stepped with state := .rising .full, outcome := some .tiltFault }
  else stepped

/-- An axis frame taken by a head (07 R122 and the rules of its state). -/
def HeadRecord.onFrame (e : HeadEnv) (h : HeadRecord) : HeadStep :=
  match h.state, e.order with
  | .parked, _ => (h, false)
  | .ready, _ => (h, false)
  | .preparing, some o =>
    ({ h with traverseSet := traverseStroke e o.target h.traverseSet }.testPrepared e, false)
  | .penetrating, some o => (h.penetrate e o, false)
  | .squeezing, some o => (h.squeeze e o, false)
  | .opening, _ => (h.open e, false)
  | .rising .full, _ => h.riseFull e
  | .rising .partway, some o => (h.riseToReentry e o, false)
  | _, none => (h, false)

/-! ## A new sleeper, going out, and reset (07 R124, R135, R137) -/

/-- A head takes up a new sleeper (07 R124). -/
def HeadRecord.takeUp (o : HeadOrder) (h : HeadRecord) : HeadRecord :=
  { h with
    planned := o.insertions
    begun := 0
    results := []
    depth := 0
    peak := 0
    outcome := if o.engaged then none else some .notEngaged }

/-- The outcome of a head that goes out (07 R135): ABORTED unless it had finished. -/
def HeadRecord.finishAborted (h : HeadRecord) : HeadRecord :=
  { h with outcome := h.outcome.or (some .aborted), preparePending := false }

/-- A head goes out (07 R135). -/
def HeadRecord.goOut (e : HeadEnv) (h : HeadRecord) : HeadStep :=
  match h.state with
  | .parked =>
    if (e.order.map HeadOrder.engaged) = some true then (h.finishAborted, false)
    else ({ h with preparePending := false }, false)
  | .preparing => h.finishAborted.park e
  | .ready => ({ h.finishAborted with state := .rising .full }, false)
  | .penetrating => (h.finishAborted.leaveBallast, false)
  | .squeezing => (h.finishAborted.leaveBallast, false)
  | .opening => (h.finishAborted, false)
  | .rising _ => ({ h.finishAborted with state := .rising .full }, false)

/-- A head at warm restart (07 R137): setpoints stand, and the tilt commands of a head that is not raised.
DESIGN CHOICE (log entry 7): the insertion results are cleared with the counts, and the insertions planned, which
R137 does not name, keep their value. -/
def HeadRecord.warmReset (raised : Bool) (h : HeadRecord) : HeadRecord :=
  { h with
    state := if raised then .parked else .rising .full
    outcome := none
    begun := 0
    results := []
    depth := 0
    peak := 0
    traverseTimer := none
    tiltTimer := none
    penetrationTimer := none
    squeezeTimer := none
    preparePending := false
    vibration := false }.commandTilt raised (.all4 .tiltOut)

/-- The first axis frame after a reset (07 R137 steps 3 to 6): each head takes its state from what the frame
senses. -/
def HeadRecord.firstFrame (e : HeadEnv) (h : HeadRecord) : HeadStep :=
  let sensed :=
    { h with verticalSet := e.lowering, squeezeSet := e.closing, traverseSet := e.lateral }
  if e.tolSqueeze < e.closing then (sensed.atRest .opening, false)
  else if e.raised = false ∨ e.tolHead < e.lowering then (sensed.atRest (.rising .full), false)
  else h.park e

/-- A report of the head-raised sensor before the first axis frame after a reset (07 R137): the head is PARKED
while raised, in a full rise otherwise. -/
def HeadRecord.followRaised (e : HeadEnv) (h : HeadRecord) : HeadStep :=
  if e.raised = false then (h.atRest (.rising .full), false)
  else if h.state = .parked then (h, false)
  else h.park e

/-- A report of the head-raised sensor (07 R123, R134, R137): waiting tilt commands are given; before the
first frame after a reset the state follows the sensor; a full rise may end. -/
def HeadRecord.onRaised (e : HeadEnv) (h : HeadRecord) : HeadStep :=
  let given := if e.raised then h.commandTilt true h.tiltDue else h
  if e.awaits then given.followRaised e else given.testRaised e

/-! ## Heads in the state -/

/-- A head that reached PARKED is no longer awaited by a release after heads (08 R151). -/
def State.reportParked (i : Fin 4) (s : State) : State :=
  s.modLining fun u => { u with awaited := u.awaited.set i false }

/-- One head takes an event. -/
def State.stepHead (f : HeadEnv → HeadRecord → HeadStep) (i : Fin 4) (s : State) : State :=
  match f (s.headEnv i) (s.heads.get i) with
  | (h, true) => (s.setHead i h).reportParked i
  | (h, false) => s.setHead i h

/-- The four heads take an event, H1 first. -/
def State.stepHeads (f : HeadEnv → HeadRecord → HeadStep) (s : State) : State :=
  s.stepHead f 0 |>.stepHead f 1 |>.stepHead f 2 |>.stepHead f 3

/-- A change of a head record with no report. -/
def quiet (f : HeadEnv → HeadRecord → HeadRecord) (e : HeadEnv) (h : HeadRecord) : HeadStep := (f e h, false)

/-- Every head goes out (07 R135). -/
def State.headsGoOut (s : State) : State := s.stepHeads fun e h => h.goOut e

/-- The heads take up the sleeper of the context (07 R124). -/
def State.headsTakeUp (s : State) : State :=
  s.stepHeads (quiet fun e h =>
    match e.order with
    | some o => h.takeUp o
    | none => h)

/-- The prepare orders of MEASURING (06 R102, 07 R125). -/
def State.headsPrepare (s : State) : State := s.stepHeads (quiet fun e h => h.orderPrepare e)

/-- The tamp start (06 R103, 07 R127). -/
def State.headsTampStart (s : State) : State := s.stepHeads fun e h => h.tampStart e

end Sys2Proof.Machine
end

