-- ==== Sys2Proof/Machine/Results.lean ====
section
/-! DEFINITION. Results, status and counters (10): the recording of a sleeper, the bytes of result records,
status and counters (11 "Formats"), the account requests, and the reports of an event. -/

namespace Sys2Proof.Machine

/-! ## Codes (11 "Codes") -/

def SeqState.code : SeqState → Byte
  | .idle => 0
  | .indexing => 1
  | .measuring => 2
  | .correcting => 3
  | .tamping => 4
  | .releasing => 5
  | .hold => 6
  | .paused => 7
  | .faultStop => 8
  | .ended => 9

/-- The hold reason byte: 0 when absent. -/
def holdCode : Option HoldReason → Byte
  | none => 0
  | some .planExhausted => 1
  | some .resultFull => 2
  | some .attentionLapse => 3
  | some .detectionLost => 4
  | some .measureLost => 5
  | some .confirmWait => 6
  | some .positionFault => 7
  | some .clampFault => 8
  | some .aborted => 9
  | some .stopCleared => 10

def PageState.code : PageState → Byte
  | .empty => 0
  | .loading => 1
  | .ready => 2
  | .active => 3

def SleeperOutcome.code : SleeperOutcome → Byte
  | .tamped => 0
  | .partly => 1
  | .notTamped => 2
  | .skipped => 3
  | .skippedNoArms => 4
  | .aborted => 5

def HeadOutcome.code : HeadOutcome → Nat
  | .notEngaged => 0
  | .complete => 1
  | .timeLimited => 2
  | .struck => 3
  | .tiltFault => 4
  | .traverseFault => 5
  | .aborted => 6

def HeadState.code : HeadState → Byte
  | .parked => 0
  | .preparing => 1
  | .ready => 2
  | .penetrating => 3
  | .squeezing => 4
  | .opening => 5
  | .rising _ => 6

def UnitState.code : UnitState → Byte
  | .isOpen => 0
  | .clamping => 1
  | .clamped => 2
  | .approaching => 3
  | .holding => 4
  | .releasing => 5

def AttentionState.code : AttentionState → Byte
  | .disarmed => 0
  | .running => 1
  | .lapsedOnce => 2

/-- The first-cause byte: 0 when absent. -/
def causeCode : Option StopCause → Byte
  | none => 0
  | some (.following _) => 1
  | some .safetyChain => 2
  | some .axisLine => 3
  | some .attention => 4

/-- The axis of a FOLLOWING cause, 0 otherwise. -/
def causeAxis : Option StopCause → Byte
  | some (.following a) => BitVec.ofNat 8 a.number
  | _ => 0

/-! ## The recording of a sleeper (06 R106, R107) -/

/-- A head entry that names no work (10 R167). -/
def HeadEntry.idle : HeadEntry := ⟨.notEngaged, 0, 0, 0⟩

/-- A head's entry (07 R133, R135). A head of a recording has its outcome; ABORTED stands for a missing
one (log entry 15). -/
def HeadRecord.entry (h : HeadRecord) : HeadEntry := ⟨h.outcome.getD .aborted, h.begun, h.depth, h.peak⟩

/-- Whether an outcome is one of the two recorded without work (10 R167). -/
def SleeperOutcome.isSkip : SleeperOutcome → Bool
  | .tamped => false
  | .partly => false
  | .notTamped => false
  | .skipped => true
  | .skippedNoArms => true
  | .aborted => false

/-- The result record of a context (10 R166, R167). -/
def formResult (c : Context) (heads : Quad HeadRecord) (o : SleeperOutcome) : ResultRecord where
  pos := c.pos
  chainage := c.record.chainage
  outcome := o
  retamp := decide (c.kind = .retamp)
  enabled := c.enabled
  heads := if o.isSkip then .all4 .idle else heads.map HeadRecord.entry
  drift := c.drift
  commanded := c.correction.map fun x => ⟨x.lL, x.lR, x.s, x.lB⟩
  achieved := c.achieved
  residual := c.residual
  flags := c.flags

/-- The sleeper counter of an outcome (06 R106). -/
def SleeperOutcome.counter : SleeperOutcome → Counter
  | .tamped => .sleepersTamped
  | .partly => .sleepersTamped
  | .notTamped => .sleepersNotTamped
  | .skipped => .sleepersSkipped
  | .skippedNoArms => .sleepersSkipped
  | .aborted => .sleepersAborted

/-- RESULTS_WAITING at or above the threshold (10 R170). -/
def noteResults (s : State) : State :=
  if s.params.resultsThreshold ≤ s.results.length then s.setLatch .resultsWaiting else s

/-- CORRECTION_LIMITED with its counter (05 R93, 06 R106, 10 R171). -/
def noteLimited (flags : BitVec 16) (s : State) : State :=
  if flags &&& limitedFlags = 0 then s
  else (s.bump .correctionsLimited).setLatch .correctionLimited

/-- The sequencer once a sleeper is recorded: the reservation released, the record copy kept, the context
released (06 R106). -/
def Sequencer.recorded (q : Sequencer) (c : Context) : Sequencer :=
  { q with context := none, reservation := 0, retained := some c.record }

/-- A recording (06 R106): nothing where no sleeper is in flight. -/
def recordSleeper (o : SleeperOutcome) (s : State) : State :=
  match s.seq.context with
  | none => s
  | some c =>
    (noteLimited c.flags <| noteResults <|
      (s.setResults (s.results ++ [formResult c s.heads o])).setComputer
        (s.computer.commit o c.correction)).bump o.counter
      |>.setSeq (s.seq.recorded c)

/-- A head completed (06 R107). -/
def HeadRecord.completed (h : HeadRecord) : Bool :=
  decide (h.outcome = some .complete ∨ h.outcome = some .timeLimited)

/-- The outcome of a sleeper that reached TAMPING (06 R107). -/
def tampOutcome (c : Context) (heads : Quad HeadRecord) : SleeperOutcome :=
  let done := headList.filter fun i => c.engaged i && (heads.get i).completed
  let left := headList.filter fun i => c.engaged i && !(heads.get i).completed
  if left = [] then .tamped else if done = [] then .notTamped else .partly

/-! ## Bytes of a result record (11 "Result record") -/

/-- A channel group: a mask byte, then the values named (11 "Result record"). -/
def groupBytes (g : Channels (Option Int)) : List Byte :=
  maskByte (g.toList.map Option.isSome) :: (g.toList.filterMap id).flatMap (signedField 2)

def HeadEntry.bytes (e : HeadEntry) : List Byte :=
  unsignedField 1 (e.outcome.code * 16 + e.insertions : Nat) ++ unsignedField 2 e.depth
    ++ [BitVec.ofNat 8 (min 255 e.peak)]

def Commanded.bytes (c : Commanded) : List Byte :=
  signedField 2 c.lL ++ signedField 2 c.lR ++ signedField 2 c.s
    ++ (match c.lB with | some b => signedField 2 b | none => [])

def ResultRecord.bytes (r : ResultRecord) : List Byte :=
  unsignedField 1 (r.pos.page.val * 64 + r.pos.index : Nat) ++ unsignedField 4 r.chainage
    ++ [r.outcome.code,
        maskByte [r.drift.isSome, r.commanded.isSome, (r.commanded.bind Commanded.lB).isSome,
          r.achieved.isSome, r.residual.isSome, r.retamp]]
    ++ bytes2 r.enabled ++ r.heads.toList.flatMap HeadEntry.bytes ++ bytes2 r.flags
    ++ (match r.drift with | some d => signedField 2 d | none => [])
    ++ (match r.commanded with | some c => c.bytes | none => [])
    ++ (match r.achieved with | some g => groupBytes g | none => [])
    ++ (match r.residual with | some g => groupBytes g | none => [])

/-! ## The status body (10 R174, 11 "Status body") -/

/-- A pointer of the status body; `n` is 0 for the workhead and 1 for the front. -/
def pointerBytes (n : Nat) : Option Pos → List Byte
  | none => [0xFF, Config.absentIndex n]
  | some p => BitVec.ofNat 8 p.page.val :: unsignedField 1 p.index

def pageBytes (p : Page) : List Byte :=
  [p.state.code, BitVec.ofNat 8 p.count, maskByte [p.endFlag, p.orderFault]]

/-- The summary fault flag (09 R153). -/
def Supervisor.summary (v : Supervisor) : Bool := decide (v.latches ≠ 0)

def statusBytes (s : State) : List Byte :=
  [s.seq.state.code, holdCode s.seq.hold,
    maskByte [s.seq.pausePending, s.seq.skipPending, s.manualMask.isSome, s.stopLatched,
      s.supervisor.summary, !s.inputs.chainClosed, s.stop.silent],
    BitVec.ofNat 8 s.seq.missCount, BitVec.ofNat 8 s.seq.degradedCount]
    ++ bytes2 (s.manualMask.getD 0)
    ++ [causeCode s.stop.first, causeAxis s.stop.first, s.stop.further.zeroExtend 8]
    ++ bytes2 s.supervisor.latches ++ [s.attention.state.code]
    ++ pointerBytes 0 s.plan.workhead ++ pointerBytes 1 s.plan.front
    ++ signedField 4 s.chainage.running ++ signedField 4 s.chainage.offset
    ++ s.plan.pages.toList.flatMap pageBytes
    ++ [s.lining.state.code] ++ s.heads.toList.map (fun h => h.state.code)
    ++ [BitVec.ofNat 8 s.results.length, BitVec.ofNat 8 s.seq.reservation, s.latches]

/-- The counter block (11 "Counter block"). -/
def Counters.bytes (c : Counters) : List Byte := c.toList.flatMap fun n => unsignedField 2 n

/-! ## The account requests -/

/-- READ_RESULTS (10 R168). -/
def readResults (n : Byte) (s : State) : Reply :=
  if n.toNat < 1 ∨ 4 < n.toNat then .plain .badValue
  else
    ⟨.ok, BitVec.ofNat 8 (s.results.take n.toNat).length
      :: (s.results.take n.toNat).flatMap ResultRecord.bytes⟩

/-- RELEASE_RESULTS (10 R169) on the queue; the admission it may let through is retried by the caller. -/
def releaseResults (n : Byte) (s : State) : State × Reply :=
  if n.toNat < 1 ∨ 32 < n.toNat then (s, .plain .badValue)
  else if n.toNat ≤ s.results.length then
    (s.setResults (s.results.drop n.toNat), ⟨.ok, [n]⟩)
  else (s.setResults [], ⟨.adjusted, [BitVec.ofNat 8 s.results.length]⟩)

/-- GET_STATUS (10 R174). -/
def getStatus (s : State) : Reply := ⟨.ok, statusBytes s⟩

/-- GET_COUNTERS (10 R176). -/
def getCounters (clear : Byte) (s : State) : State × Reply :=
  match yesNo? clear with
  | none => (s, .plain .badValue)
  | some c => (if c then s.setCounters .zero else s, ⟨.ok, s.counters.bytes⟩)

/-- CLEAR_EVENTS (10 R171). -/
def clearEvents (mask : Byte) (s : State) : State × Reply :=
  (s.setLatches (s.latches &&& ~~~mask), ⟨.ok, [s.latches &&& ~~~mask]⟩)

/-! ## Reports (10 R172, R173) -/

/-- One latch that is due a report: a frame, or REPORTS_SUPPRESSED where fewer than five places are free. -/
def reportOne (snapshot : List Byte) (due : Byte) (s : State) (n : Nat) : State :=
  if due.getLsbD n then
    if s.link.tx.length + reportPlaces ≤ transmitPlaces then
      s.modLink fun l => { l with tx := l.tx ++ [⟨.report, 0, BitVec.ofNat 8 n, snapshot⟩] }
    else s.bump .reportsSuppressed
  else s

/-- The latches due a report at the end of an event: set and enabled now, and not set and enabled before. -/
def dueReports (before after : State) : Byte :=
  (after.latches &&& after.reportEnable) &&& ~~~(before.latches &&& before.reportEnable)

/-- The reports of an event, in ascending latch number, each with the status at the end of the event. -/
def report (before after : State) : State :=
  (List.range 8).foldl (reportOne (statusBytes after) (dueReports before after)) after

end Sys2Proof.Machine
end

