-- ==== Sys2Proof/Machine/Lining.lean ====
section
/-! DEFINITION. The lifting and lining unit (08) as changes of its own record: clamping, the approach, the
entry to HOLDING, release, abort and freezing. What the sequencer does with its reports stands in
Sys2Proof/Machine/Cycle.lean. -/

namespace Sys2Proof.Machine

/-! ## Axes of the unit -/

/-- An axis still under way in an approach (08 R145). -/
def AxisStatus.underWay : AxisStatus → Bool
  | .notDriven => false
  | .waiting => true
  | .moving => true
  | .stopped => false
  | .halted => false

/-- Any axis in WAITING or MOVING (08 R145). -/
def LiningUnit.anyUnderWay (u : LiningUnit) : Bool := (u.axis.map AxisStatus.underWay).toList.any id

def AxisStatus.halt (a : AxisStatus) : AxisStatus := if a.underWay then .halted else a

/-- Every axis in WAITING or MOVING set to HALTED, every track setpoint held at the last sensed position
(08 R149, R151). -/
def LiningUnit.haltAll (u : LiningUnit) (sensed : Track Int) : LiningUnit :=
  { u with axis := u.axis.map AxisStatus.halt, setpoint := sensed }

/-! ## Clamping (08 R140, R141) -/

/-- What a clamp order does before it looks at the state (08 R140 steps 1 to 3). -/
def LiningUnit.takeContext (u : LiningUnit) (c : Context) : LiningUnit :=
  { u with
    settings := ⟨c.cycle.deadband, c.cycle.correctionTime, c.cycle.clampTime⟩
    hookConcerned := c.record.branch
    frozen := false
    approach := .discarded }

/-- The clamps commanded CLOSE (08 R140 in OPEN): CLAMPING with the clamp timer loaded, or CLAMPED at once
when every clamp concerned is already sensed closed. -/
def LiningUnit.clamp (u : LiningUnit) (i : Inputs) : LiningUnit :=
  { u with
    state := if i.clampsClosed u.hookConcerned then .clamped else .clamping
    command := ⟨true, true, u.hookConcerned⟩
    clampTimer := if i.clampsClosed u.hookConcerned then none else some u.settings.clampTime
    clampPending := false }

/-- The entry to CLAMPED on a sensor report (08 R141): in CLAMPING with the clamp timer running and no
freeze. DESIGN CHOICE (log entry 32): a report that closes the last clamp after the timer was stopped by an
abort order, by STOP_RUN or by a clamp order taken in CLAMPING (R151, R140) leaves the unit in CLAMPING. -/
def LiningUnit.closes (u : LiningUnit) (i : Inputs) : Bool :=
  decide (u.state = .clamping) && u.clampTimer.isSome && !u.frozen && i.clampsClosed u.hookConcerned

/-! ## The approach (08 R142 to R147) -/

/-- The targets and driven axes taken in CLAMPED (08 R142). -/
def LiningUnit.approachTo (u : LiningUnit) (x : Correction) : LiningUnit :=
  { u with
    state := .approaching
    targets := x.targets
    axis := x.driven.map fun d => if d then .waiting else .notDriven
    lineRight := decide (0 < x.s)
    correctionTimer := some u.settings.correctionTime }

/-- What one frame does to one axis: its status and its setpoint. -/
structure AxisStep where
  status : AxisStatus
  setpoint : Int
deriving DecidableEq, Repr

/-- A lift axis at a frame (08 R143): `live` is the valid sample of its channel, if any. -/
def liftStep (deadband : Int) (target live : Option Int) (sensed : Int) (a : AxisStep) : AxisStep :=
  match a.status.underWay, live, target with
  | true, some h, some t =>
    if t - deadband ≤ h then ⟨.stopped, sensed⟩ else ⟨.moving, sensed + 1⟩
  | _, _, _ => a

/-- The LINE axis at a frame (08 R144). -/
def lineStep (deadband : Int) (right : Bool) (target live : Option Int) (sensed : Int) (a : AxisStep) :
    AxisStep :=
  match a.status.underWay, live, target with
  | true, some v, some t =>
    if absInt (v - t) ≤ deadband ∨ (right = true ∧ t ≤ v) ∨ (right = false ∧ v ≤ t) then
      ⟨.stopped, sensed⟩
    else ⟨.moving, if right then sensed + 1 else sensed - 1⟩
  | _, _, _ => a

/-- The channels of the track axes (04 R73). -/
def axisChannel {α : Type} (c : Channels α) : Track α := ⟨c.levelL, c.levelR, c.levelB, c.line⟩

/-- The four axes at a measuring frame in APPROACHING (08 R143, R144). -/
def LiningUnit.stepAxes (u : LiningUnit) (live : Channels (Option Int)) (sensed : Track Int) :
    LiningUnit :=
  let d := u.settings.deadband
  let l := liftStep d u.targets.levelL live.levelL sensed.liftL ⟨u.axis.liftL, u.setpoint.liftL⟩
  let r := liftStep d u.targets.levelR live.levelR sensed.liftR ⟨u.axis.liftR, u.setpoint.liftR⟩
  let b := liftStep d u.targets.levelB live.levelB sensed.liftB ⟨u.axis.liftB, u.setpoint.liftB⟩
  let n := lineStep d u.lineRight u.targets.line live.line sensed.line ⟨u.axis.line, u.setpoint.line⟩
  { u with
    axis := ⟨l.status, r.status, b.status, n.status⟩
    setpoint := ⟨l.setpoint, r.setpoint, b.setpoint, n.setpoint⟩ }

/-- The unit after a change, with the setpoints of before it while the first axis frame after a reset is
awaited (08 R139 step 6). -/
def LiningUnit.sentFrom (before : LiningUnit) (awaits : Bool) (u : LiningUnit) : LiningUnit :=
  if awaits then { u with setpoint := before.setpoint } else u

/-- The axes of lost channels halted, each with TARGET_NOT_REACHED (04 R74, 08 R144). -/
def LiningUnit.loseChannels (u : LiningUnit) (lost : Channels Bool) (sensed : Track Int) : LiningUnit :=
  let gone := (axisChannel lost).zip (fun l a => l && a.underWay) u.axis
  { u with
    axis := gone.zip (fun g a => if g then .halted else a) u.axis
    setpoint := (gone.zip (fun g p => (g, p)) u.setpoint).zip (fun gp x => if gp.1 then x else gp.2) sensed
    approach :=
      { u.approach with targetNotReached := u.approach.targetNotReached || gone.toList.any id } }

/-- The expiry of the correction timer (08 R145): the axes still under way HALTED and held, and
TARGET_NOT_REACHED added. DEDUCED (log entry 31): added also where no axis was driven. -/
def LiningUnit.expireApproach (u : LiningUnit) (sensed : Track Int) : LiningUnit :=
  let v := u.loseChannels (.all5 true) sensed
  { v with approach := { v.approach with targetNotReached := true } }

/-- The achieved values (08 R146): last live value less PRE settled value, where both are present. -/
def achievedValues (last settled : Channels (Option Int)) : Channels (Option Int) :=
  last.zip (fun a b => match a, b with | some x, some y => some (x - y) | _, _ => none) settled

/-- A rail is overlifted (08 R147). -/
def overlifted (deadband : Int) (last target : Option Int) : Bool :=
  match last, target with
  | some h, some t => decide (t + 2 * deadband < h)
  | _, _ => false

/-- Any rail is overlifted (08 R147). -/
def LiningUnit.anyOverlift (u : LiningUnit) (last : Channels (Option Int)) : Bool :=
  let d := u.settings.deadband
  overlifted d last.levelL u.targets.levelL || overlifted d last.levelR u.targets.levelR
    || overlifted d last.levelB u.targets.levelB

/-- The entry to HOLDING at the unit (08 R145 steps 1 to 3). -/
def LiningUnit.hold (u : LiningUnit) (last settled : Channels (Option Int)) : LiningUnit :=
  { u with
    state := .holding
    correctionTimer := none
    approach :=
      { achieved := some (achievedValues last settled)
        targetNotReached := u.approach.targetNotReached
        overlift := u.anyOverlift last } }

/-! ## Release, abort and freezing (08 R149 to R152) -/

/-- A release order (08 R149 steps 1 to 5), with OPEN at once when every clamp is sensed open. -/
def LiningUnit.release (u : LiningUnit) (i : Inputs) (sensed : Track Int) : LiningUnit :=
  { u.haltAll sensed with
    state := if i.clampsOpen then .isOpen else .releasing
    frozen := false
    releaseAfterHeads := false
    correctionTimer := none
    command := ⟨false, false, false⟩
    clampTimer := if i.clampsOpen then none else some u.settings.clampTime }

/-- The entry to OPEN on a sensor report (08 R149): in RELEASING and not frozen. -/
def LiningUnit.opens (u : LiningUnit) (i : Inputs) : Bool :=
  decide (u.state = .releasing) && !u.frozen && i.clampsOpen

/-- The entry to OPEN (08 R149). -/
def LiningUnit.enterOpen (u : LiningUnit) : LiningUnit := { u with state := .isOpen, clampTimer := none }

/-- Steps 2 to 4 of an abort order (08 R151): the timers of CLAMPING and APPROACHING stopped, an approach
halted. -/
def LiningUnit.abandon (u : LiningUnit) (sensed : Track Int) : LiningUnit :=
  match u.state with
  | .clamping => { u with clampTimer := none }
  | .approaching => { u.haltAll sensed with correctionTimer := none }
  | .isOpen => u
  | .clamped => u
  | .holding => u
  | .releasing => u

/-- Release after heads set, to wait for the heads that are not PARKED (08 R151, log entry 13). -/
def LiningUnit.releaseLater (u : LiningUnit) (waiting : Quad Bool) : LiningUnit :=
  { u with releaseAfterHeads := true, awaited := waiting }

/-- An abort order (08 R151). -/
def LiningUnit.abort (u : LiningUnit) (sensed : Track Int) (waiting : Quad Bool) : LiningUnit :=
  let v := { u with clampPending := false }.abandon sensed
  match u.state with
  | .isOpen => v
  | .releasing => v
  | .clamping => v.releaseLater waiting
  | .clamped => v.releaseLater waiting
  | .approaching => v.releaseLater waiting
  | .holding => v.releaseLater waiting

/-- The order of STOP_RUN (06 R116, 08 R151, R152): as an abort order, and a unit that releases or is frozen
releases once every head is PARKED. -/
def LiningUnit.stopRun (u : LiningUnit) (sensed : Track Int) (waiting : Quad Bool) : LiningUnit :=
  let v := u.abort sensed waiting
  if u.state = .releasing ∨ u.frozen = true then v.releaseLater waiting else v

/-- The unit freezes (08 R152). -/
def LiningUnit.freeze (u : LiningUnit) : LiningUnit :=
  { u with
    frozen := true
    clampTimer := none
    correctionTimer := none
    clampPending := false
    releaseAfterHeads := false }

/-- A clamp order taken in a state other than OPEN and RELEASING (08 R140): clamp pending, then the abort
order without its step 1. -/
def LiningUnit.clampLater (u : LiningUnit) (sensed : Track Int) (waiting : Quad Bool) : LiningUnit :=
  ({ u with clampPending := true }.abandon sensed).releaseLater waiting

/-- The unit at warm restart (08 R139). -/
def LiningUnit.warmReset (u : LiningUnit) (p : Params) (allOpen : Bool) : LiningUnit :=
  { u with
    state := if allOpen then .isOpen else .releasing
    command := ⟨false, false, false⟩
    settings := ⟨p.deadband, p.correctionTime, p.clampTime⟩
    clampTimer := if allOpen then none else some p.clampTime
    correctionTimer := none
    targets := .all5 none
    axis := .all4 .notDriven
    clampPending := false
    releaseAfterHeads := false
    awaited := .all4 false
    frozen := false
    approach := .discarded }

end Sys2Proof.Machine
end

