-- ==== Sys2Proof/Machine/Cycle.lean ====
section
/-! DEFINITION. The sleeper cycle where it crosses from block to block (06): unit orders and reports, the
steps after a recording, admission, the close of a window, the failures of the clamps, and what comes about
at the end of an event that moves the machine. -/

namespace Sys2Proof.Machine

/-- The last sensed positions of the track axes, which a setpoint is held at (08 R149, R151). Before the first
axis frame after a reset no new setpoint is sent (08 R139 step 6): each is held where it stands. -/
def State.trackSensed (s : State) : Track Int :=
  if s.awaitFrame then s.lining.setpoint else s.inputs.axisFrame.sensed.track

/-- The heads that are not PARKED. -/
def State.notParked (s : State) : Quad Bool := s.heads.map fun h => decide (h.state ≠ .parked)

/-! ## After a recording (06 R108, R109) -/

/-- The entry to ENDED (06 R109). -/
def enterEnded (s : State) : State :=
  enterState .ended
    (((s.setPlan s.plan.endRun).modMove IndexMove.clear |>.modSeq fun q =>
      { q with pausePending := false, skipPending := false, advanceOwed := false, resumeAction := none })
      |>.setLatch .runEnded)

/-- The advance of the workhead pointer, or HOLD(PLAN_EXHAUSTED) with PAGE_NEEDED (01 R15, R20, 06 R108
step 3). -/
def advanceRun (s : State) : State :=
  match s.plan.advance s.params.chordFront with
  | (p, true) =>
    enterState .indexing ((s.setPlan p).modMove IndexMove.clear |>.modSeq fun q =>
      { q with advanceOwed := false, kind := .normal })
  | (p, false) => enterHold .planExhausted ((s.setPlan p).setLatch .pageNeeded)

/-- The steps of 06 R108 that follow a recording. DESIGN CHOICE (log entry 33): R109 and R110 have the unit OPEN in
ENDED and PAUSED. A readmission recorded at step 6 or 7 of its admission (R101) can come here with the unit still
frozen or clamped, or with heads going out; the state is entered at once, and the unit is left as it stands. -/
def continueRun (s : State) : State :=
  if s.plan.atEnd then enterEnded s
  else if s.seq.pausePending then
    enterState .paused (s.modSeq fun q => { q with pausePending := false })
  else advanceRun s

/-- What follows a recording other than ABORTED (06 R108). -/
def afterRecording (s : State) : State := continueRun (s.modSeq fun q => { q with advanceOwed := true })

/-! ## Unit orders and what the unit reports (08 R140, R141, R149, 06 R102, R105) -/

/-- A settle window opened for the context (04 R67). -/
def openWindow (k : WindowKind) (s : State) : State :=
  match s.seq.context with
  | some c => s.setMeasuring (.window (.fresh k c))
  | none => s

/-- The unit reports CLAMPED: the PRE window opens (06 R102). -/
def reportClamped (s : State) : State :=
  if s.seq.state = .measuring then openWindow .pre s else s

/-- The unit clamps in OPEN (08 R140). -/
def clampUnit (s : State) : State :=
  let t := s.modLining fun u => u.clamp s.inputs
  if t.lining.state = .clamped then reportClamped t else t

/-- The unit reports OPEN (08 R149): a clamp pending is taken; a release at the end of TAMPING opens the
FINAL window; a release retry goes on with the steps of 06 R108 (06 R105). -/
def reportOpen (s : State) : State :=
  if s.lining.clampPending then clampUnit s
  else if s.seq.state = .releasing then
    match s.seq.context with
    | some _ => openWindow .final s
    | none => continueRun s
  else s

/-- A release order (08 R149). -/
def releaseUnit (s : State) : State :=
  let t := endLive (s.modLining fun u => u.release s.inputs s.trackSensed)
  if t.lining.state = .isOpen then reportOpen t else t

/-- A clamp order (08 R140). -/
def clampOrder (c : Context) (s : State) : State :=
  let t := s.modLining fun u => u.takeContext c
  match t.lining.state with
  | .isOpen => clampUnit t
  | .releasing => releaseUnit (t.modLining fun u => { u with clampPending := true })
  | .clamping => t.modLining fun u => u.clampLater t.trackSensed t.notParked
  | .clamped => t.modLining fun u => u.clampLater t.trackSensed t.notParked
  | .approaching => t.modLining fun u => u.clampLater t.trackSensed t.notParked
  | .holding => t.modLining fun u => u.clampLater t.trackSensed t.notParked

/-- An abort order (08 R151). -/
def abortUnit (s : State) : State := s.modLining fun u => u.abort s.trackSensed s.notParked

/-- The entry to MEASURING: the clamp order, then the prepare orders (06 R102). -/
def enterMeasuring (c : Context) (s : State) : State :=
  (clampOrder c (enterState .measuring s)).headsPrepare

/-! ## Admission (06 R100, R101) -/

/-- The record an admission admits: the retained record at a retamp, else the workhead record (06 R111,
R115). -/
def State.admitted (s : State) : Option SleeperRecord :=
  if s.seq.kind = .retamp then s.seq.retained else s.plan.workheadRecord

/-- Step 5 of an admission: the slot reserved, the context formed with a fresh front computation, the manual
mask and skip-pending consumed, the heads taking up the sleeper (06 R101, 02 R42, 07 R124). -/
def takeContext (record : SleeperRecord) (pos : Pos) (s : State) : State :=
  let computed := s.plan.computeFront s.params.chordFront
  let c := formContext s record pos s.seq.kind computed.2
  ((s.setPlan computed.1).setManualMask none |>.modSeq fun q =>
    { q with context := some c, reservation := 1, skipPending := false }).headsTakeUp

/-- Steps 6 to 9 of an admission (06 R101). -/
def workContext (s : State) : State :=
  match s.seq.context with
  | none => s
  | some c =>
    if c.skip then afterRecording (recordSleeper .skipped s)
    else if c.enabled = 0 then afterRecording (recordSleeper .skippedNoArms s)
    else if c.confirm then enterHold .confirmWait s
    else enterMeasuring c s

/-- An admission (06 R100, R101). -/
def admitSleeper (s : State) : State :=
  if resultSlots ≤ s.results.length + s.seq.reservation then enterHold .resultFull s
  else if s.attention.state = .lapsedOnce then enterHold .attentionLapse s
  else if 3 ≤ s.seq.missCount then enterHold .detectionLost s
  else if 3 ≤ s.seq.degradedCount then enterHold .measureLost s
  else
    match s.admitted, s.plan.workhead with
    | some r, some pos => workContext (takeContext r pos s)
    | _, _ => s

/-! ## Positioning (03 R50 to R54, R59, R60) -/

/-- The consecutive-miss count after a positioning (03 R60). -/
def missCountAfter (n : Nat) : DetectionOutcome → Nat
  | .matched => 0
  | .missed => min 3 (n + 1)
  | .exempt => n

/-- The record is POSITIONED: its outcome is judged once, the miss count follows, and the admission is made
(03 R54, R59, R60). -/
def positioned (s : State) : State :=
  let noDetect := (s.plan.workheadRecord.map SleeperRecord.noDetect).getD false
  let o := s.chainage.move.outcome.getD (judgeDetection s.chainage.move noDetect)
  let counted :=
    if s.chainage.move.outcome = none ∧ o = .missed then s.bump .detectionsMissed else s
  admitSleeper ((counted.modMove fun m => { m with state := .positioned, outcome := some o }).modSeq fun q =>
    { q with missCount := missCountAfter q.missCount o })

/-- A HALTED indication (03 R50, R51, R53). -/
def takeHalted (s : State) : State :=
  let t := s.modMove fun m => { m with timer := none }
  match s.chainage.move.state with
  | .firstMove =>
    if s.chainage.withinTolerance then positioned t
    else
      t.setChainage (t.chainage.sendMove t.params .correctionMove (-t.chainage.positionError))
  | .correctionMove =>
    if s.chainage.withinTolerance then positioned t
    else enterHold .positionFault (t.modMove fun m => { m with state := .faulted })
  | .noMove => s
  | .positioned => s
  | .faulted => s
  | .cancelled => s

/-- The expiry of the index timer (03 R52). -/
def expireIndexTimer (s : State) : State :=
  if s.chainage.move.demandActive = true ∧ s.chainage.move.timer.isSome = true then
    enterHold .positionFault (s.modChainage fun c =>
      { c with line := some .cancel, move := { c.move with state := .faulted, timer := none } })
  else s

/-! ## The close of a window (04 R69 to R71, R76, 05 R79, 06 R102, R105) -/

/-- A degraded or sound PRE window judged (04 R76, R77). -/
def judgeDegraded (degraded : Bool) (s : State) : State :=
  if degraded then
    (s.bump .measureDegraded).modSeq fun q => { q with degradedCount := min 3 (q.degradedCount + 1) }
  else s.modSeq fun q => { q with degradedCount := 0 }

/-- The context with its settled values, its correction and their flags (05 R79, 06 R102). -/
def Context.withCorrection (c : Context) (settled : Channels (Option Int)) (degraded : Bool)
    (x : Computed) : Context :=
  { c with
    settled := some settled
    correction := some x.correction
    flags := c.flags ||| CorrectionFlag.measureDegraded.when degraded ||| x.flags }

/-- The close of the PRE window: judged, computed, and handed to the unit, which enters APPROACHING with
live delivery (04 R73, R76, 05 R79, 06 R102, 08 R142). -/
def closePre (w : Window) (c : Context) (s : State) : State :=
  let settled := w.settled
  let degraded := degradedBy w.inUse settled
  let x := computeCorrection (Chord.sample s.params) s.computer c settled
  let judged := judgeDegraded degraded s
  enterState .correcting
    ((((judged.setComputer (s.computer.holdFront c)).modSeq fun q =>
      { q with context := some (c.withCorrection settled degraded x) }).modLining fun u =>
        u.approachTo x.correction).setMeasuring (.live (.fresh (channelsFor c.record.branch))))

/-- The residual of each channel with a FINAL settled value and a target (04 R71). -/
def residuals (settled targets : Channels (Option Int)) : Channels (Option Int) :=
  settled.zip (fun a b => match a, b with | some x, some y => some (x - y) | _, _ => none) targets

/-- The close of the FINAL window: residuals formed, the sleeper recorded (04 R71, 06 R105, R107). -/
def closeFinal (w : Window) (c : Context) (s : State) : State :=
  let targets := (c.correction.map Correction.targets).getD (.all5 none)
  afterRecording (recordSleeper (tampOutcome c s.heads)
    ((s.setMeasuring .noWindow).modContext fun c => { c with residual := some (residuals w.settled targets) }))

/-- A window closes (04 R69, R70). -/
def closeWindow (w : Window) (s : State) : State :=
  match s.seq.context with
  | none => s.setMeasuring .noWindow
  | some c =>
    match w.kind with
    | .pre => closePre w c s
    | .final => closeFinal w c s

/-! ## The approach (04 R73 to R75, 08 R143 to R147) -/

/-- The flags of an approach result (08 R145 step 4). -/
def ApproachResult.flags (a : ApproachResult) : BitVec 16 :=
  CorrectionFlag.targetNotReached.when a.targetNotReached ||| CorrectionFlag.overlift.when a.overlift

/-- The entry to HOLDING with its hand-over to the context (08 R145). -/
def enterHolding (last : Channels (Option Int)) (s : State) : State :=
  let settled := (s.seq.context.bind Context.settled).getD (.all5 none)
  let t := s.modLining fun u => u.hold last settled
  t.modContext fun c =>
    { c with achieved := t.lining.approach.achieved, flags := c.flags ||| t.lining.approach.flags }

/-- A measuring frame in LIVE (04 R73, R74, 08 R143 to R145). -/
def takeLive (l : Live) (samples : Channels (Option Int)) (s : State) : State :=
  let approaching := decide (s.lining.state = .approaching)
  let l' := l.take approaching samples
  let t := s.setMeasuring (.live l')
  if approaching then
    let lost := l'.channel.map LiveChannel.lost
    let stepped := t.modLining fun u =>
      u.sentFrom t.awaitFrame ((u.loseChannels lost t.trackSensed).stepAxes samples t.trackSensed)
    if stepped.lining.anyUnderWay then stepped else enterHolding l'.lastValues stepped
  else t

/-- A measuring frame (04 R66, R68, R73). -/
def takeMeasuringFrame (samples : Channels (Option Int)) (s : State) : State :=
  match s.measuring with
  | .noWindow => s
  | .window w =>
    if (w.take samples).closes then closeWindow (w.take samples) s
    else s.setMeasuring (.window (w.take samples))
  | .live l => takeLive l samples s

/-- The expiry of the silence limit of a window (04 R70). -/
def expireSilence (s : State) : State :=
  match s.measuring with
  | .noWindow => s
  | .window w => closeWindow w s
  | .live _ => s

/-- The last live values, none without live delivery. -/
def State.lastLive (s : State) : Channels (Option Int) :=
  match s.measuring with
  | .noWindow => .all5 none
  | .window _ => .all5 none
  | .live l => l.lastValues

/-- The expiry of the correction timer (08 R145). -/
def expireCorrection (s : State) : State :=
  if s.lining.state = .approaching ∧ s.lining.correctionTimer.isSome = true then
    enterHolding s.lastLive (s.modLining fun u => u.expireApproach s.trackSensed)
  else s

/-! ## Failures of the clamps (06 R105, R117, 08 R150) -/

/-- A clamp failure taken in MEASURING (06 R117). -/
def clampFailure (s : State) : State :=
  if s.seq.state = .measuring then
    enterHold .clampFault ((recordSleeper .aborted (abortUnit (endMeasuring s).headsGoOut)).modSeq
      fun q => { q with resumeAction := some .readmit })
  else s

/-- HOLD(CLAMP_FAULT) with the release to be retried (06 R105). -/
def holdForRetry (s : State) : State :=
  enterHold .clampFault (s.modSeq fun q => { q with resumeAction := some .retryRelease })

/-- A release failure (06 R105, 08 R150), by why the release was made. -/
def releaseFailure (s : State) : State :=
  if s.lining.clampPending then clampFailure s
  else if s.seq.state = .releasing then
    match s.seq.context with
    | some c =>
      holdForRetry ((recordSleeper (tampOutcome c s.heads)
        (s.raiseFlags CorrectionFlag.releaseFault.mask)).modSeq fun q => { q with advanceOwed := true })
    | none => holdForRetry s
  else s

/-- The expiry of the clamp timer (08 R141, R150). -/
def expireClampTimer (s : State) : State :=
  if s.lining.clampTimer.isSome then
    let t := s.modLining fun u => { u with clampTimer := none }
    match s.lining.state with
    | .clamping => clampFailure t
    | .releasing => releaseFailure t
    | .isOpen => t
    | .clamped => t
    | .approaching => t
    | .holding => t
  else s

/-- A clamp sensor report, the new levels already in the inputs (08 R141, R149). -/
def takeClampLevels (s : State) : State :=
  if s.lining.closes s.inputs then
    reportClamped (s.modLining fun u => { u with state := .clamped, clampTimer := none })
  else if s.lining.opens s.inputs then reportOpen (s.modLining LiningUnit.enterOpen)
  else s

/-! ## The end of an event that moves the machine -/

/-- A release after heads whose last head is PARKED takes the release order (08 R151). -/
def releaseAfterHeads (s : State) : State :=
  if s.lining.releaseAfterHeads = true ∧ s.lining.awaited.anyTrue = false then releaseUnit s else s

/-- An engaged head is READY, or PARKED with a preparing fault (06 R103). -/
def HeadRecord.doneWithPreparing (h : HeadRecord) : Bool :=
  decide (h.state = .ready)
    || decide (h.state = .parked ∧ (h.outcome = some .traverseFault ∨ h.outcome = some .tiltFault))

/-- Every engaged head passes a test. -/
def Context.engagedAll (c : Context) (heads : Quad HeadRecord) (test : HeadRecord → Bool) : Bool :=
  headList.all fun i => !c.engaged i || test (heads.get i)

/-- CORRECTING ends: TAMPING is entered and the tamp start given (06 R103). -/
def beginTamping (s : State) : State :=
  match s.seq.context with
  | none => s
  | some c =>
    if s.seq.state = .correcting ∧ s.lining.state = .holding
        ∧ c.engagedAll s.heads HeadRecord.doneWithPreparing = true then
      (enterState .tamping s).headsTampStart
    else s

/-- A head is PARKED with its outcome fixed (06 R104). -/
def HeadRecord.finishedParked (h : HeadRecord) : Bool :=
  decide (h.state = .parked) && h.outcome.isSome

/-- TAMPING ends: RELEASING is entered and the release order given (06 R104). -/
def endTamping (s : State) : State :=
  match s.seq.context with
  | none => s
  | some c =>
    if s.seq.state = .tamping ∧ c.engagedAll s.heads HeadRecord.finishedParked = true then
      releaseUnit (enterState .releasing s)
    else s

/-- In INDEXING a unit frozen outside OPEN is released once every head is PARKED (06 R99). -/
def releaseFrozen (s : State) : State :=
  if s.seq.state = .indexing ∧ s.lining.frozen = true ∧ s.lining.state ≠ .isOpen
      ∧ s.allParked = true then
    releaseUnit s
  else s

/-- An index move begins in INDEXING with the unit OPEN and every head PARKED (03 R49, 06 R99). -/
def startIndexMove (s : State) : State :=
  match s.plan.workheadRecord with
  | none => s
  | some r =>
    if s.seq.state = .indexing ∧ s.chainage.move.demandActive = false ∧ s.lining.state = .isOpen
        ∧ s.allParked = true then
      s.modChainage fun c => c.startMove s.params r.chainage
    else s

/-- The travel demand cancelled where a head is out of PARKED (03 R47). DESIGN CHOICE (log entry 11): before the
first axis frame after a reset, and at it, the sensors alone can take a head out of PARKED under a demand (07
R137); the demand is then cancelled in the same event, and its record becomes CANCELLED as in R63. -/
def cancelUnparked (s : State) : State :=
  if s.chainage.move.demandActive = true ∧ s.allParked = false then s.modChainage ChainageUnit.cancelTravel else s

/-- What comes about at the end of an event that may have moved a head, the unit or the sequencer. -/
def settle (s : State) : State :=
  startIndexMove (releaseFrozen (releaseAfterHeads (endTamping (beginTamping s))))

end Sys2Proof.Machine
end

