-- ==== Sys2Proof/Machine/Stops.lean ====
section
/-! DEFINITION. The stop and attention block (09): stops and the entry to FAULT_STOP (06 R118), the axis
supervisor, the axis line watch, the safety chain, CLEAR_STOP, and the attention timer. -/

namespace Sys2Proof.Machine

/-! ## Stops (09 R158, 06 R118) -/

/-- The bit of a cause's kind in the further-causes mask (11 "Codes"). -/
def StopCause.mask : StopCause → BitVec 4
  | .following _ => 1
  | .safetyChain => 2
  | .axisLine => 4
  | .attention => 8

/-- The resume action fixed at the entry to FAULT_STOP, by the state left (06 R118). -/
def resumeAtStop (q : Sequencer) : Option ResumeAction :=
  match q.state with
  | .idle => q.resumeAction
  | .indexing => some .readmit
  | .measuring => some .readmit
  | .correcting => some .readmit
  | .tamping => some .readmit
  | .releasing => if q.context.isSome then some .readmit else some .retryRelease
  | .hold =>
    match q.hold with
    | none => some .readmit
    | some .planExhausted => some .advance
    | some .resultFull => some .readmit
    | some .attentionLapse => some .readmit
    | some .detectionLost => some .readmit
    | some .measureLost => some .readmit
    | some .confirmWait => some .readmit
    | some .positionFault => some .readmit
    | some .clampFault => q.resumeAction
    | some .aborted => some .readmit
    | some .stopCleared => q.resumeAction
  | .paused => some .advance
  | .faultStop => q.resumeAction
  | .ended => q.resumeAction

/-- The entry to FAULT_STOP (06 R118): the travel demand cancelled, the heads going out, a sleeper in flight
recorded ABORTED, the unit frozen, an open window or live delivery discarded, the resume action fixed. -/
def enterFaultStop (s : State) : State :=
  enterState .faultStop
    ((endMeasuring ((recordSleeper .aborted (s.modChainage ChainageUnit.cancelTravel).headsGoOut).modLining
      LiningUnit.freeze)).modSeq fun q => { q with resumeAction := resumeAtStop s.seq })

/-- A stop is raised (09 R158). -/
def raiseStop (c : StopCause) (s : State) : State :=
  match s.stop.first with
  | none =>
    let t := (s.setStop { s.stop with first := some c, further := 0 }).setLatch .faultStop
    if t.seq.state.isRun then enterFaultStop t else t
  | some _ => s.setStop { s.stop with further := s.stop.further ||| c.mask }

/-! ## The axis supervisor (09 R153 to R155) -/

/-- One value for each axis. -/
def axesOf {α : Type} (f : Axis → α) : Axes α :=
  ⟨.ofFn fun h => f (.headV h), .ofFn fun h => f (.sqz h), .ofFn fun h => f (.trav h),
    ⟨f (.track .liftL), f (.track .liftR), f (.track .liftB), f (.track .line)⟩⟩

/-- The setpoint of an axis, as last sent on the axis line (09 R154). -/
def State.setpointOf (s : State) : Axis → Int
  | .headV h => (s.heads.get h).verticalSet
  | .sqz h => (s.heads.get h).squeezeSet
  | .trav h => (s.heads.get h).traverseSet
  | .track t => trackGet s.lining.setpoint t

/-- The tolerance of an axis, by its class (09 R153). -/
def toleranceOf (p : Params) : Axis → Int
  | .headV _ => p.followTolHead
  | .sqz _ => p.followTolSqueeze
  | .trav _ => p.followTolTraverse
  | .track _ => p.followTolTrack

/-- The consecutive count of an axis after a frame (09 R154). -/
def countAfter (n : Nat) (outside : Bool) : Nat := if outside then min 20 (n + 1) else 0

/-- The consecutive counts after a frame (09 R154). -/
def State.countsAfter (s : State) (f : AxisFrame) : Axes Nat :=
  axesOf fun a => countAfter (axesGet s.supervisor.count a)
    (decide (toleranceOf s.params a < absInt (s.setpointOf a - axesGet f.sensed a)))

/-- The latch bit of an axis. -/
def Axis.bit (a : Axis) : BitVec 16 := 1 <<< a.number

/-- An axis whose count stands at FOLLOW_COUNT and whose fault latch is clear latches and raises its stop
(09 R155). -/
def testAxis (s : State) (a : Axis) : State :=
  if s.params.followCount ≤ axesGet s.supervisor.count a ∧ s.supervisor.latches &&& a.bit = 0 then
    raiseStop (.following a)
      ((s.setSupervisor { s.supervisor with latches := s.supervisor.latches ||| a.bit }).bump
        .followingFaults)
  else s

/-- The check of an axis frame (09 R154, R155): every axis compared, then each tested, lowest number
first. -/
def supervise (f : AxisFrame) (s : State) : State :=
  Axis.all.foldl testAxis (s.setSupervisor { s.supervisor with count := s.countsAfter f })

/-- What every axis frame brings: the watch LIVE, the sensed values, and FOLLOW_TOL_TRAVERSE as sampled at it
(09 R156, 11 R184). -/
def State.senseFrame (f : AxisFrame) (s : State) : State :=
  ((s.setStop { s.stop with silent := false }).setInputs { s.inputs with axisFrame := f }).setSupervisor
    { s.supervisor with traverseTol := s.params.followTolTraverse }

/-- An axis frame taken (09 R154 to R156, 07 R122, R137, 08 R139). The first frame after a reset is not
checked, and the heads and the unit form their setpoints from it. DESIGN CHOICE (log entry 9): the order
supervisor, heads, unit. A first frame that takes a head out of PARKED cancels an active travel demand (03 R47, log
entry 11). -/
def takeAxisFrame (f : AxisFrame) (s : State) : State :=
  let live := s.senseFrame f
  if s.awaitFrame then
    settle (cancelUnparked (((live.setAwaitFrame false).stepHeads fun e h => h.firstFrame e).modLining fun u =>
      { u with setpoint := f.sensed.track }))
  else settle ((supervise f live).stepHeads fun e h => h.onFrame e)

/-! ## The axis line watch and the safety chain (09 R156, R157) -/

/-- The expiry of the silence limit of the axis line (09 R156). -/
def expireAxisLine (s : State) : State :=
  if s.stop.silent then s else raiseStop .axisLine (s.setStop { s.stop with silent := true })

/-- A change of the safety chain input (09 R157). -/
def takeChain (closed : Bool) (s : State) : State :=
  let t := s.setInputs { s.inputs with chainClosed := closed }
  if s.inputs.chainClosed = true ∧ closed = false then raiseStop .safetyChain t else t

/-! ## CLEAR_STOP (09 R160, 06 R119) -/

/-- CLEAR_STOP. -/
def clearStop (s : State) : State × Reply :=
  if s.inputs.chainClosed = false then (s, .plain .wrongState)
  else if s.stop.silent then (s, .plain .wrongState)
  else if s.stopLatched then
    let t := (s.setStop { s.stop with first := none, further := 0 }).setSupervisor s.supervisor.cleared
    (if t.seq.state = .faultStop then enterHold .stopCleared t else t, .plain .ok)
  else (s, .plain .ok)

/-! ## The attention timer (09 R161 to R164) -/

/-- The timer loaded with ATTENTION_PERIOD in RUNNING (09 R161, R162). -/
def State.loadAttention (s : State) : State := s.setAttention ⟨.running, s.params.attentionPeriod⟩

/-- Activity (09 R162): no effect in DISARMED. -/
def activity (s : State) : State :=
  match s.attention.state with
  | .disarmed => s
  | .running => s.loadAttention
  | .lapsedOnce => s.loadAttention

/-- Whether ATTENTION_SOURCES enables a source, by its bit (11 "Codes"). -/
def State.sourceEnabled (s : State) (n : Nat) : Bool :=
  (BitVec.ofInt 6 s.params.attentionSources).getLsbD n

/-- The bit of an operator input among the attention sources. -/
def operatorSource : OperatorInput → Nat
  | .pedal => 0
  | .joystick => 1
  | .ackButton => 2

/-- Activity of a source, when its bit is enabled (09 R162). -/
def activityFrom (n : Nat) (s : State) : State := if s.sourceEnabled n then activity s else s

/-- The expiry of the attention timer (09 R163, R164). -/
def expireAttention (s : State) : State :=
  match s.attention.state with
  | .disarmed => s
  | .running =>
    (s.setAttention ⟨.lapsedOnce, s.params.attentionPeriod⟩).setLatch .attentionLapse
  | .lapsedOnce => raiseStop .attention s

/-- The timer follows the state of the sequencer across an event (09 R161): armed and loaded where it
passes into a state in which the timer runs, disarmed where it passes out of one. DESIGN CHOICE (log entry 7): once
DISARMED the period last loaded stands; no rule reads it. -/
def followAttention (before after : State) : State :=
  if after.seq.state.attentive then
    if before.seq.state.attentive then after else after.loadAttention
  else if before.seq.state.attentive then
    after.setAttention { after.attention with state := .disarmed }
  else after

/-! ## The end of an event -/

/-- The attention timer follows, then the reports of the event are placed (10 R172). -/
def closeEvent (before after : State) : State := report before (followAttention before after)

/-- An event of the part: nothing while the reset line is held low (11 R186, log entry 5). -/
def event (f : State → State) (s : State) : State :=
  if s.resetLow then s else closeEvent s (f s)

end Sys2Proof.Machine
end

