-- ==== Sys2Proof/Machine/Sequencer.lean ====
section
/-! DEFINITION. The requests of the run (06 R97, R98, R110 to R116) and the two requests that let a hold
resolve (01 R7, R20, 10 R169). -/

namespace Sys2Proof.Machine

/-! ## START_RUN (06 R97, R98) -/

/-- The run begins at a position (06 R98). -/
def beginRun (pos : Pos) (s : State) : State :=
  enterState .indexing
    ((((s.setPlan (s.plan.startRun pos s.params.chordFront)).setComputer .zero).modChainage fun c =>
        { c with offset := 0, move := c.move.clear }).modSeq fun q =>
      { q with
        missCount := 0
        degradedCount := 0
        pausePending := false
        skipPending := false
        advanceOwed := false
        retained := none
        resumeAction := none
        kind := .normal })

/-- START_RUN with the checks of 06 R97 in order. -/
def startRun (page index : Byte) (s : State) : State × Reply :=
  if s.seq.state ≠ .idle ∧ s.seq.state ≠ .ended then (s, .plain .wrongState)
  else if s.stopLatched then (s, .plain .wrongState)
  else if s.inputs.chainClosed = false then (s, .plain .wrongState)
  else if s.lining.state ≠ .isOpen ∨ s.allParked = false then (s, .plain .wrongState)
  else
    match pageOf? page with
    | none => (s, .plain .badValue)
    | some n =>
      if (s.plan.page n).state ≠ .ready then (s, .plain .pageState)
      else
        match (s.plan.page n).at? index.toNat with
        | none => (s, .plain .badValue)
        | some r =>
          if startDistance < absInt (r.chainage - s.chainage.running) then (s, .plain .badValue)
          else (settle (beginRun ⟨n, index.toNat⟩ s), .plain .ok)

/-! ## PAUSE, RESUME, CONFIRM (06 R110 to R112) -/

/-- PAUSE (06 R110). -/
def pauseRun (s : State) : State × Reply :=
  match s.seq.state with
  | .indexing => (s.modSeq fun q => { q with pausePending := true }, .plain .ok)
  | .measuring => (s.modSeq fun q => { q with pausePending := true }, .plain .ok)
  | .correcting => (s.modSeq fun q => { q with pausePending := true }, .plain .ok)
  | .tamping => (s.modSeq fun q => { q with pausePending := true }, .plain .ok)
  | .releasing => (s.modSeq fun q => { q with pausePending := true }, .plain .ok)
  | .idle => (s, .plain .wrongState)
  | .hold => (s, .plain .wrongState)
  | .paused => (s, .plain .wrongState)
  | .faultStop => (s, .plain .wrongState)
  | .ended => (s, .plain .wrongState)

/-- READMIT (06 R111): an admission at once for a POSITIONED record, else INDEXING (03 R55). DEDUCED (log
entry 16): also for a record whose move has not begun. -/
def readmit (s : State) : State :=
  let t := s.modSeq fun q =>
    { q with kind := if q.advanceOwed then .retamp else .readmission, resumeAction := none }
  if t.chainage.move.state = .positioned then admitSleeper t else enterState .indexing t

/-- RETRY_RELEASE (06 R105). -/
def retryRelease (s : State) : State :=
  releaseUnit (enterState .releasing (s.modSeq fun q => { q with resumeAction := none }))

/-- ADVANCE (06 R111). -/
def resumeAdvance (s : State) : State := advanceRun (s.modSeq fun q => { q with resumeAction := none })

/-- The resume action carried out (06 R111); a hold that needs one always has it. -/
def takeAction (a : Option ResumeAction) (s : State) : State :=
  match a with
  | some .readmit => readmit s
  | some .retryRelease => retryRelease s
  | some .advance => resumeAdvance s
  | none => readmit s

/-- What a RESUME does in HOLD, by its reason (06 R111); none where it is refused. -/
def resumeHold (r : HoldReason) (s : State) : Option State :=
  match r with
  | .planExhausted => none
  | .resultFull => none
  | .confirmWait => none
  | .attentionLapse => some (readmit s)
  | .detectionLost => some (readmit (s.modSeq fun q => { q with missCount := 0 }))
  | .measureLost => some (readmit (s.modSeq fun q => { q with degradedCount := 0 }))
  | .aborted => some (readmit s)
  | .positionFault => some (readmit s)
  | .clampFault => some (takeAction s.seq.resumeAction s)
  | .stopCleared => some (takeAction s.seq.resumeAction s)

/-- What a RESUME does (06 R111); none where it is refused. A RESUME that is taken reloads the attention
timer first, which clears a pending lapse (log entry 14). -/
def resumed (s : State) : Option State :=
  match s.seq.state, s.seq.hold with
  | .paused, _ => some (resumeAdvance (activity s))
  | .hold, some r => resumeHold r (activity s)
  | _, _ => none

/-- RESUME (06 R111). -/
def resumeRun (s : State) : State × Reply :=
  match resumed s with
  | some t => (settle t, .plain .ok)
  | none => (s, .plain .wrongState)

/-- Whether the sequencer is in HOLD(CONFIRM_WAIT). -/
def Sequencer.awaitsConfirm (q : Sequencer) : Bool :=
  decide (q.state = .hold ∧ q.hold = some .confirmWait)

/-- CONFIRM (06 R112). -/
def confirmSleeper (s : State) : State × Reply :=
  match s.seq.awaitsConfirm, s.seq.context with
  | true, some c => (settle (enterMeasuring c s), .plain .ok)
  | _, _ => (s, .plain .wrongState)

/-! ## SKIP_SLEEPER, ABORT_SLEEPER, RETAMP, STOP_RUN (06 R113 to R116) -/

/-- Skip-pending becomes yes (06 R113). -/
def pendSkip (s : State) : State × Reply :=
  (s.modSeq fun q => { q with skipPending := true }, .plain .ok)

/-- SKIP_SLEEPER (06 R113). -/
def skipSleeper (s : State) : State × Reply :=
  match s.seq.state with
  | .indexing => pendSkip s
  | .paused => pendSkip s
  | .hold =>
    if s.seq.awaitsConfirm then (settle (afterRecording (recordSleeper .skipped s)), .plain .ok)
    else pendSkip s
  | .idle => (s, .plain .wrongState)
  | .measuring => (s, .plain .wrongState)
  | .correcting => (s, .plain .wrongState)
  | .tamping => (s, .plain .wrongState)
  | .releasing => (s, .plain .wrongState)
  | .faultStop => (s, .plain .wrongState)
  | .ended => (s, .plain .wrongState)

/-- The sleeper in flight ended early (06 R114): window discarded, heads out, the unit's abort order, the
record ABORTED, HOLD(ABORTED). -/
def abortFlight (s : State) : State :=
  enterHold .aborted (recordSleeper .aborted (abortUnit (endMeasuring s).headsGoOut))

/-- ABORT_SLEEPER (06 R114). -/
def abortSleeper (s : State) : State × Reply :=
  match s.seq.state with
  | .measuring => (settle (abortFlight s), .plain .ok)
  | .correcting => (settle (abortFlight s), .plain .ok)
  | .tamping => (settle (abortFlight s), .plain .ok)
  | .idle => (s, .plain .wrongState)
  | .indexing => (s, .plain .wrongState)
  | .releasing => (s, .plain .wrongState)
  | .hold => (s, .plain .wrongState)
  | .paused => (s, .plain .wrongState)
  | .faultStop => (s, .plain .wrongState)
  | .ended => (s, .plain .wrongState)

/-- RETAMP (06 R115). -/
def retampSleeper (s : State) : State × Reply :=
  if s.seq.state = .paused then
    (settle (admitSleeper (s.modSeq fun q => { q with kind := .retamp })), .plain .ok)
  else (s, .plain .wrongState)

/-- The end of the run at STOP_RUN (06 R116 steps 1 to 8). -/
def endRunNow (s : State) : State :=
  let flown := endMeasuring (recordSleeper .aborted s.headsGoOut)
  let still := flown.modChainage fun c =>
    { c.cancelTravel with move := c.cancelTravel.move.clear }
  enterState .idle
    ((((still.modLining fun u => u.stopRun still.trackSensed still.notParked).setPlan
      still.plan.stopRun).modSeq fun q =>
        { q with
          pausePending := false
          skipPending := false
          advanceOwed := false
          retained := none
          resumeAction := none }))

/-- STOP_RUN (06 R116). -/
def stopRun (s : State) : State × Reply :=
  if s.seq.state = .idle then (s, .plain .wrongState) else (settle (endRunNow s), .plain .ok)

/-! ## Requests that let a hold resolve -/

/-- The crossing tried again while HOLD(PLAN_EXHAUSTED) stands (01 R20): the run goes on, or PAGE_NEEDED is
set and the hold stands. -/
def retryCrossing (w : Pos) (s : State) : State :=
  match s.plan.cross w s.params.chordFront with
  | (p, true) =>
    enterState .indexing ((s.setPlan p).modMove IndexMove.clear |>.modSeq fun q =>
      { q with advanceOwed := false, kind := .normal })
  | (p, false) => (s.setPlan p).setLatch .pageNeeded

/-- Whether HOLD(PLAN_EXHAUSTED) waits for a page: the successor of the workhead page (01 R20). -/
def State.waitsFor (s : State) (page : Byte) : Bool :=
  match s.plan.workhead with
  | none => false
  | some w =>
    decide (s.seq.state = .hold ∧ s.seq.hold = some .planExhausted ∧ pageOf? page = some (w.page + 1))

/-- CLOSE_PAGE (01 R7, R20). -/
def closePage (page count endByte : Byte) (s : State) : State × Reply :=
  let closed := s.plan.closePage page count endByte
  let t := s.setPlan closed.1
  match closed.2.code, t.plan.workhead with
  | .ok, some w => (if t.waitsFor page then settle (retryCrossing w t) else t, closed.2)
  | _, _ => (t, closed.2)

/-- RELEASE_RESULTS (10 R169): a release that removed a record retries the admission of HOLD(RESULT_FULL). -/
def releaseResultsRequest (n : Byte) (s : State) : State × Reply :=
  let released := releaseResults n s
  if s.seq.state = .hold ∧ s.seq.hold = some .resultFull
      ∧ released.1.results.length < s.results.length then
    (settle (admitSleeper released.1), released.2)
  else released

end Sys2Proof.Machine
end

