-- ==== Sys2Proof/Machine/Link.lean ====
section
/-! DEFINITION. The work link (11): the frame assembler, the request queue, the execution of the oldest
request, the parameter requests, the transmit queue, and both resets. -/

namespace Sys2Proof.Machine

/-! ## Parameters (11 R183, R184) -/

/-- The bytes that name a parameter and its stored value. -/
def paramBytes (id : Byte) (v : Int) : List Byte := id :: signedField 4 v

/-- A parameter stored; RESULTS_THRESHOLD acts at once (10 R170, 11 R183). -/
def storeParam (p : ParamId) (v : Int) (s : State) : State :=
  let t := s.setParams (s.params.set p v)
  if p = .resultsThreshold then noteResults t else t

/-- SET_PARAM of a chord parameter (11 R183 step 2, 05 R80). -/
def setChord (id : Byte) (p : ParamId) (v : Int) (s : State) : State × Reply :=
  if s.seq.state ≠ .idle ∧ s.seq.state ≠ .ended then (s, .plain .wrongState)
  else if v < p.least ∨ p.greatest < v then (s, .plain .badValue)
  else (storeParam p v s, ⟨.ok, paramBytes id v⟩)

/-- SET_PARAM of any other parameter: the value clamped to its range (11 R183 step 3). -/
def setClamped (id : Byte) (p : ParamId) (v : Int) (s : State) : State × Reply :=
  let stored := clampTo p.least p.greatest v
  (storeParam p stored s, ⟨if stored = v then .ok else .adjusted, paramBytes id stored⟩)

/-- SET_PARAM (11 R183). -/
def setParam (id : Byte) (value : BitVec 32) (s : State) : State × Reply :=
  match ParamId.ofByte? id with
  | none => (s, .plain .badValue)
  | some p => if p.isChord then setChord id p value.toInt s else setClamped id p value.toInt s

/-- GET_PARAM (11 R184). -/
def getParam (id : Byte) (s : State) : Reply :=
  match ParamId.ofByte? id with
  | none => .plain .badValue
  | some p => ⟨.ok, paramBytes id (s.params.get p)⟩

/-! ## The request queue (11 R178, R179) -/

/-- A good request meets the queue (11 R178). -/
def acceptRequest (r : Request) (s : State) : State :=
  if s.link.restart.isSome then s
  else if s.link.requests.length < requestPlaces then
    s.modLink fun l => { l with requests := l.requests ++ [r] }
  else
    let t := s.bump .queueFullRefusals
    if t.link.tx.length < transmitPlaces then
      t.modLink fun l => { l with tx := l.tx ++ [replyFrame r (.plain .queueFull)] }
    else t

/-- A change of the plan store with its reply. -/
def planRequest (x : PlanStore × Reply) (s : State) : State × Reply := (s.setPlan x.1, x.2)

/-- A change of the rule table with its reply. -/
def ruleRequest (x : List ZoneRule × Reply) (s : State) : State × Reply := (s.setRules x.1, x.2)

/-- SET_MANUAL_MASK (02 R41). -/
def setManualMaskRequest (mask : TineMask) (s : State) : State × Reply :=
  (s.setManualMask (if mask = 0 then none else some mask), .plain .ok)

/-- What a request does and what it is answered (11 R179): each request by its owner. -/
def runCall (c : Call) (s : State) : State × Reply :=
  match c with
  | .setParam id value => setParam id value s
  | .getParam id => (s, getParam id s)
  | .restart => (s, .plain .ok)
  | .openPage page => planRequest (s.plan.openPage page) s
  | .loadRecords page first records => planRequest (s.plan.loadRecords page first records) s
  | .closePage page count endByte => closePage page count endByte s
  | .discardPage page => planRequest (s.plan.discardPage page) s
  | .readRecord page index => (s, s.plan.readRecord page index)
  | .writeRule slot rule => ruleRequest (writeRuleIn s.rules slot rule) s
  | .readRule slot => (s, readRuleFrom s.rules slot)
  | .clearRules => (s.setRules clearedRules, .plain .ok)
  | .setManualMask mask => setManualMaskRequest mask s
  | .setChainage value => setChainageTo value s
  | .startRun page index => startRun page index s
  | .pause => pauseRun s
  | .resume => resumeRun s
  | .confirm => confirmSleeper s
  | .skipSleeper => skipSleeper s
  | .abortSleeper => abortSleeper s
  | .retamp => retampSleeper s
  | .stopRun => stopRun s
  | .clearStop => clearStop s
  | .readResults n => (s, readResults n s)
  | .releaseResults n => releaseResultsRequest n s
  | .getStatus => (s, getStatus s)
  | .getCounters clear => getCounters clear s
  | .clearEvents mask => clearEvents mask s
  | .badLength _ => (s, .plain .badLength)
  | .unknownCode _ => (s, .plain .unknownCode)

/-- The reply placed and the request gone from the queue (11 R179). -/
def Link.answer (l : Link) (f : TxFrame) : Link :=
  { l with tx := l.tx ++ [f], requests := l.requests.drop 1 }

/-- RESTART executed (11 R185): the requests still queued discarded, and the link restarting until the reply
just placed has left. -/
def Link.enterRestart (l : Link) : Link := { l with requests := [], restart := some l.tx.length }

/-- The link once a request is answered. -/
def Link.afterRequest (l : Link) (r : Request) (y : Reply) : Link :=
  if r.call = .restart then (l.answer (replyFrame r y)).enterRestart else l.answer (replyFrame r y)

/-- The activity an executed request gives (09 R162): CONFIRM whether taken or refused, RESUME when refused,
and any request. -/
def requestActivity (r : Request) (y : Reply) (s : State) : State :=
  let confirmed := if callCode r.call = 0x33 then activityFrom 3 s else s
  let resumed := if callCode r.call = 0x32 ∧ y.code ≠ .ok then activityFrom 4 confirmed else confirmed
  activityFrom 5 resumed

/-- The execution of a request that stands at the oldest end of the queue (11 R179). DESIGN CHOICE (log
entry 14): the reply, then the attention timer by the sequencer's state, then the activity, then the
reports. -/
def execute (r : Request) (s : State) : State :=
  let ran := runCall r.call s
  let answered := ran.1.modLink fun l => l.afterRequest r ran.2
  report s (requestActivity r ran.2 (followAttention s answered))

/-- The oldest request is executed when the transmit queue has a free place (11 R179). -/
def executeOldest (s : State) : State :=
  match s.link.requests with
  | [] => s
  | r :: _ => if s.link.tx.length < transmitPlaces then execute r s else s

/-- A request command (log entry 2): no effect in reset, discarded while restarting; the oldest request of
the queue is executed, any other joins the queue, and is executed if it is then the oldest. -/
def request (r : Request) (s : State) : State :=
  if s.resetLow = true ∨ s.link.restart.isSome = true then s
  else if s.link.requests.head? = some r then executeOldest s
  else if s.link.requests = [] then executeOldest (acceptRequest r s)
  else acceptRequest r s

/-! ## The receive frame assembler (11 R177) -/

/-- A frame abandoned or dropped: its counter, LINK_FAULT, and HUNT. -/
def dropFrame (k : Counter) (s : State) : State :=
  ((s.modLink fun l => { l with rx := .hunt }).bump k).setLatch .linkFault

/-- A complete frame: check, KIND, and the request it carries (11 R177). `bytes` runs from LENGTH to the
check; `n` is LENGTH. -/
def takeFrame (n : Nat) (bytes : List Byte) (s : State) : State :=
  match bytes, bytes.drop (n + 1) with
  | _ :: kind :: tag :: code :: rest, [h, l] =>
    if crc16 (bytes.take (n + 1)) = word2 h l then
      if kind = 1 then
        acceptRequest ⟨tag, readCall code (rest.take (n - 3))⟩
          ((s.modLink fun l => { l with rx := .hunt }).bump .framesAccepted)
      else dropFrame .lengthErrors s
    else dropFrame .crcErrors s
  | _, _ => dropFrame .crcErrors s

/-- A byte joins the frame being collected; `bytes` are those after START, the new one included. -/
def collect (bytes : List Byte) (s : State) : State :=
  match bytes with
  | [] => s
  | length :: rest =>
    if rest = [] ∧ (length.toNat < 3 ∨ 243 < length.toNat) then dropFrame .lengthErrors s
    else if bytes.length = length.toNat + 3 then takeFrame length.toNat bytes s
    else s.modLink fun l => { l with rx := .collecting bytes }

/-- A received byte (11 R177). -/
def takeByte (b : RxByte) (s : State) : State :=
  match s.link.rx with
  | .hunt =>
    if b.stopGood = true ∧ b.byte = 0x5A then s.modLink fun l => { l with rx := .collecting [] } else s
  | .collecting bytes => if b.stopGood then collect (bytes ++ [b.byte]) s else dropFrame .framingErrors s

/-- The expiry of the gap limit (11 R177). -/
def expireGap (s : State) : State :=
  match s.link.rx with
  | .hunt => s
  | .collecting _ => dropFrame .gapErrors s

/-! ## The transmit queue and the resets (11 R182, R185, R186) -/

/-- The link after a warm restart (11 R185). -/
def Link.warmReset (l : Link) : Link := { l with requests := [], tx := [], restart := none }

/-- The chainage unit at warm restart (03 R44, R46 to R48). -/
def ChainageUnit.warmReset (c : ChainageUnit) : ChainageUnit :=
  { c with offset := 0, move := c.move.clear, line := some .cancel }

/-- Each head at warm restart, by its head-raised sensor (07 R137). -/
def State.headsWarm (s : State) : Quad HeadRecord :=
  .ofFn fun i => (s.heads.get i).warmReset (s.inputs.raised.get i)

/-- Warm restart (11 R185): every block takes its warm restart values. The parameters, the zone rules, the
counters, the running chainage, the supervisor and the stop latch keep theirs. DESIGN CHOICE (log entry 7): the
attention period last loaded stands, with the timer DISARMED (09 R161). -/
def warmRestart (s : State) : State :=
  { s with
    awaitFrame := true
    link := s.link.warmReset
    plan := .cleared
    manualMask := none
    chainage := s.chainage.warmReset
    measuring := .noWindow
    computer := .zero
    seq := .atReset
    heads := s.headsWarm
    lining := s.lining.warmReset s.params s.inputs.clampsOpen
    attention := { s.attention with state := .disarmed }
    results := []
    latches := 0 }

/-- The oldest frame of the transmit queue has been sent (11 R182, R185). -/
def takeSent (s : State) : State :=
  match s.link.tx with
  | [] => s
  | _ :: rest =>
    match s.link.restart with
    | none => s.modLink fun l => { l with tx := rest }
    | some n =>
      if n ≤ 1 then warmRestart s else s.modLink fun l => { l with tx := rest, restart := some (n - 1) }

/-- Each head at power-on, by its head-raised sensor (07 R137). -/
def Inputs.headsAtPowerOn (i : Inputs) : Quad HeadRecord := i.raised.map HeadRecord.atPowerOn

/-- Power-on reset (11 R186): every block takes its power-on values. The input lines are what they are, and
the stop latch and the start of the heads and the unit follow them (07 R137, 08 R139, 09 R159). -/
def powerOn (s : State) : State :=
  { State.reset with
    pending := s.pending
    inputs := s.inputs
    heads := s.inputs.headsAtPowerOn
    lining := .atPowerOn s.inputs.clampsOpen
    stop := ⟨if s.inputs.chainClosed then none else some .safetyChain, 0, false⟩ }

/-- The reset line goes low (11 R186, log entry 5): the part is in power-on reset, and the link holds
nothing. -/
def holdReset (s : State) : State := (s.setResetLow true).setLink .atPowerOn

/-! ## Input levels -/

/-- An event that brings a new level of an input line. In power-on reset the level alone is followed (log
entry 5). -/
def levelEvent (level : Inputs → Inputs) (f : State → State) (s : State) : State :=
  if s.resetLow then s.setInputs (level s.inputs) else closeEvent s (f s)

end Sys2Proof.Machine
end

