-- ==== Sys2Proof/Machine/AccountRequests.lean ====
section
/-! DEFINITION. The account requests (10 R168 to R176). -/

namespace Sys2Proof.Machine

open Host

/-- READ_RESULTS (10 R168). -/
def execReadResults (tag : Byte) (n : Byte) (s : State) : Outcome State Fault Refusal :=
  .next (request ⟨tag, .readResults n⟩ s)

/-- RELEASE_RESULTS (10 R169). -/
def execReleaseResults (tag : Byte) (n : Byte) (s : State) : Outcome State Fault Refusal :=
  .next (request ⟨tag, .releaseResults n⟩ s)

/-- GET_STATUS (10 R174). -/
def execGetStatus (tag : Byte) (s : State) : Outcome State Fault Refusal :=
  .next (request ⟨tag, .getStatus⟩ s)

/-- GET_COUNTERS (10 R176). -/
def execGetCounters (tag : Byte) (clear : Byte) (s : State) : Outcome State Fault Refusal :=
  .next (request ⟨tag, .getCounters clear⟩ s)

/-- CLEAR_EVENTS (10 R171). -/
def execClearEvents (tag : Byte) (mask : Byte) (s : State) : Outcome State Fault Refusal :=
  .next (request ⟨tag, .clearEvents mask⟩ s)

end Sys2Proof.Machine
end

