-- ==== Sys2Proof/Machine/HeadEvents.lean ====
section
/-! DEFINITION. The events of the workheads (07). -/

namespace Sys2Proof.Machine

open Host

/-- The report of a tilt-confirm sensor. -/
def tiltLevel (head arm : Fin 4) (r : TiltReport) (i : Inputs) : Inputs :=
  { i with tilt := i.tilt.set head ((i.tilt.get head).set arm r) }

/-- The level of a head-raised sensor. -/
def raisedLevel (head : Fin 4) (raised : Bool) (i : Inputs) : Inputs :=
  { i with raised := i.raised.set head raised }

/-- A tilt report at its head: it can break the guard (07 R128) or complete the preparing (07 R126). -/
def takeTilt (head : Fin 4) (s : State) : State :=
  settle (s.stepHead (quiet fun e h => (h.testGuard e).testPrepared e) head)

/-- TILT_SENSOR_REPORT (07 R123). -/
def execTiltSensorReport (head arm : Fin 4) (r : TiltReport) (s : State) :
    Outcome State Fault Refusal :=
  .next (levelEvent (tiltLevel head arm r)
    (fun t => takeTilt head (t.setInputs (tiltLevel head arm r t.inputs))) s)

/-- A raised report at its head (07 R123, R134, R137). Before the first axis frame after a reset it can take the head
out of PARKED, which cancels an active travel demand (03 R47, log entry 11). -/
def takeRaised (head : Fin 4) (s : State) : State :=
  let t := s.stepHead (fun e h => h.onRaised e) head
  settle (if s.awaitFrame then cancelUnparked t else t)

/-- HEAD_RAISED_SENSOR_REPORT (07 R134). -/
def execHeadRaisedSensorReport (head : Fin 4) (raised : Bool) (s : State) :
    Outcome State Fault Refusal :=
  .next (levelEvent (raisedLevel head raised)
    (fun t => takeRaised head (t.setInputs (raisedLevel head raised t.inputs))) s)

/-- The expiry of a traverse timer (07 R126). -/
def expireTraverse (head : Fin 4) (s : State) : State :=
  if (s.heads.get head).state = .preparing ∧ (s.heads.get head).traverseTimer.isSome = true then
    settle (s.stepHead (fun e h => h.preparingFault e .traverseFault) head)
  else s

/-- TRAVERSE_TIMER_EXPIRY (07 R126). -/
def execTraverseTimerExpiry (head : Fin 4) (s : State) : Outcome State Fault Refusal :=
  .next (event (expireTraverse head) s)

/-- The expiry of a tilt timer (07 R126). -/
def expireTilt (head : Fin 4) (s : State) : State :=
  if (s.heads.get head).state = .preparing ∧ (s.heads.get head).tiltTimer.isSome = true then
    settle (s.stepHead (fun e h => h.preparingFault e .tiltFault) head)
  else s

/-- TILT_TIMER_EXPIRY (07 R126). -/
def execTiltTimerExpiry (head : Fin 4) (s : State) : Outcome State Fault Refusal :=
  .next (event (expireTilt head) s)

/-- The expiry of a penetration timer: a strike (07 R130). -/
def expirePenetration (head : Fin 4) (s : State) : State :=
  if (s.heads.get head).state = .penetrating ∧ (s.heads.get head).penetrationTimer.isSome = true then
    (s.setHead head (s.heads.get head).strike).bump .headsStruck
  else s

/-- PENETRATION_TIMER_EXPIRY (07 R130). -/
def execPenetrationTimerExpiry (head : Fin 4) (s : State) : Outcome State Fault Refusal :=
  .next (event (expirePenetration head) s)

/-- The expiry of a squeeze timer (07 R131). -/
def expireSqueeze (head : Fin 4) (s : State) : State :=
  if (s.heads.get head).state = .squeezing ∧ (s.heads.get head).squeezeTimer.isSome = true then
    s.setHead head ((s.heads.get head).endSqueeze .timeLimited)
  else s

/-- SQUEEZE_TIMER_EXPIRY (07 R131). -/
def execSqueezeTimerExpiry (head : Fin 4) (s : State) : Outcome State Fault Refusal :=
  .next (event (expireSqueeze head) s)

end Sys2Proof.Machine
end

