-- ==== Sys2Proof/Machine/LinkEvents.lean ====
section
/-! DEFINITION. The events of the work link (11 R177, R182, R185, R186). -/

namespace Sys2Proof.Machine

open Host

/-- RECEIVED_BYTE (11 R177). -/
def execReceivedByte (byte : RxByte) (s : State) : Outcome State Fault Refusal :=
  .next (event (takeByte byte) s)

/-- FRAME_RECEIVED (11 R177): the bytes of a frame, each an event of its own (log entry 3). -/
def execFrameReceived (bytes : List RxByte) (s : State) : Outcome State Fault Refusal :=
  .next (bytes.foldl (fun t b => event (takeByte b) t) s)

/-- GAP_LIMIT_EXPIRY (11 R177). -/
def execGapLimitExpiry (s : State) : Outcome State Fault Refusal := .next (event expireGap s)

/-- FRAME_SENT (11 R182, R185). -/
def execFrameSent (s : State) : Outcome State Fault Refusal := .next (event takeSent s)

/-- POWER_ON_RESET (11 R186): power-up, or the release of the reset line. -/
def execPowerOnReset (s : State) : Outcome State Fault Refusal := .next (powerOn s)

/-- RESET_LINE_LOW (11 R186). -/
def execResetLineLow (s : State) : Outcome State Fault Refusal := .next (holdReset s)

end Sys2Proof.Machine
end

