-- ==== Sys2Proof/Machine/LinkRequests.lean ====
section
/-! DEFINITION. The requests the link owns: SET_PARAM, GET_PARAM and RESTART (11). -/

namespace Sys2Proof.Machine

open Host

/-- SET_PARAM (11 R183). -/
def execSetParam (tag : Byte) (id : Byte) (value : BitVec 32) (s : State) : Outcome State Fault Refusal :=
  .next (request ⟨tag, .setParam id value⟩ s)

/-- GET_PARAM (11 R184). -/
def execGetParam (tag : Byte) (id : Byte) (s : State) : Outcome State Fault Refusal :=
  .next (request ⟨tag, .getParam id⟩ s)

/-- RESTART (11 R185). -/
def execRestart (tag : Byte) (s : State) : Outcome State Fault Refusal :=
  .next (request ⟨tag, .restart⟩ s)

end Sys2Proof.Machine
end

