-- ==== Sys2Proof/WellFormed.lean ====
section
/-! DEFINITION. Which commands can occur. Every operand has its own type; what remains are the two lists
whose length the link bounds. -/

namespace Sys2Proof

/-- The bytes a sleeper record takes on the wire: 21, two for each value present, three for each entry of
the head list (11 "Sleeper record"). -/
def WireRecord.size (r : WireRecord) : Nat :=
  21 + 2 * ([r.eF, r.eFv, r.liftOverride, r.shiftOverride, r.branchLift].countP Option.isSome)
    + 3 * r.heads.length

/-- The bytes a LOAD_RECORDS body takes: page, first index, number of records, the records. -/
def loadBodySize (records : List WireRecord) : Nat :=
  3 + (records.map WireRecord.size).sum

/-- A command that can occur: a LOAD_RECORDS body fits the 240 bytes of BODY (11 "Frame"), and a received
frame has a byte at least and 247 bytes at most (R182). -/
def Instr.wellFormed : Instr → Bool
  | .loadRecords _ _ _ records => decide (loadBodySize records ≤ 240)
  | .frameReceived bytes => decide (1 ≤ bytes.length ∧ bytes.length ≤ 247)
  | _ => true

end Sys2Proof
end

