-- ==== Sys2Proof/Machine/PlanRequests.lean ====
section
/-! DEFINITION. The plan requests (01 R3 to R13). -/

namespace Sys2Proof.Machine

open Host

/-- OPEN_PAGE (01 R4). -/
def execOpenPage (tag : Byte) (page : Byte) (s : State) : Outcome State Fault Refusal :=
  .next (request ⟨tag, .openPage page⟩ s)

/-- LOAD_RECORDS (01 R5, R6). A body longer than a frame can carry is no request of the link (log entry
23). -/
def execLoadRecords (tag : Byte) (page : Byte) (first : Byte) (records : List WireRecord) (s : State) :
    Outcome State Fault Refusal :=
  if loadBodySize records ≤ 240 then .next (request ⟨tag, .loadRecords page first records⟩ s)
  else .fault .commandTooLong

/-- CLOSE_PAGE (01 R7). -/
def execClosePage (tag : Byte) (page : Byte) (count : Byte) (endByte : Byte) (s : State) : Outcome State Fault Refusal :=
  .next (request ⟨tag, .closePage page count endByte⟩ s)

/-- DISCARD_PAGE (01 R8). -/
def execDiscardPage (tag : Byte) (page : Byte) (s : State) : Outcome State Fault Refusal :=
  .next (request ⟨tag, .discardPage page⟩ s)

/-- READ_RECORD (01 R9). -/
def execReadRecord (tag : Byte) (page : Byte) (index : Byte) (s : State) : Outcome State Fault Refusal :=
  .next (request ⟨tag, .readRecord page index⟩ s)

end Sys2Proof.Machine
end

