-- ==== Sys2Proof/Machine/RuleRequests.lean ====
section
/-! DEFINITION. The zone rule and mask requests (02 R27 to R30, R41). -/

namespace Sys2Proof.Machine

open Host

/-- WRITE_RULE (02 R27). -/
def execWriteRule (tag : Byte) (slot : Byte) (rule : WireRule) (s : State) : Outcome State Fault Refusal :=
  .next (request ⟨tag, .writeRule slot rule⟩ s)

/-- READ_RULE (02 R29). -/
def execReadRule (tag : Byte) (slot : Byte) (s : State) : Outcome State Fault Refusal :=
  .next (request ⟨tag, .readRule slot⟩ s)

/-- CLEAR_RULES (02 R30). -/
def execClearRules (tag : Byte) (s : State) : Outcome State Fault Refusal :=
  .next (request ⟨tag, .clearRules⟩ s)

/-- SET_MANUAL_MASK (02 R41). -/
def execSetManualMask (tag : Byte) (mask : TineMask) (s : State) : Outcome State Fault Refusal :=
  .next (request ⟨tag, .setManualMask mask⟩ s)

end Sys2Proof.Machine
end

