-- ==== Sys2Proof/Machine/RunRequests.lean ====
section
/-! DEFINITION. SET_CHAINAGE and the requests of the run (03 R45, 06 R97 to R116, 09 R160). -/

namespace Sys2Proof.Machine

open Host

/-- SET_CHAINAGE (03 R45). -/
def execSetChainage (tag : Byte) (value : BitVec 32) (s : State) : Outcome State Fault Refusal :=
  .next (request ⟨tag, .setChainage value⟩ s)

/-- START_RUN (06 R97). -/
def execStartRun (tag : Byte) (page : Byte) (index : Byte) (s : State) : Outcome State Fault Refusal :=
  .next (request ⟨tag, .startRun page index⟩ s)

/-- PAUSE (06 R110). -/
def execPause (tag : Byte) (s : State) : Outcome State Fault Refusal :=
  .next (request ⟨tag, .pause⟩ s)

/-- RESUME (06 R111). -/
def execResume (tag : Byte) (s : State) : Outcome State Fault Refusal :=
  .next (request ⟨tag, .resume⟩ s)

/-- CONFIRM (06 R112). -/
def execConfirm (tag : Byte) (s : State) : Outcome State Fault Refusal :=
  .next (request ⟨tag, .confirm⟩ s)

/-- SKIP_SLEEPER (06 R113). -/
def execSkipSleeper (tag : Byte) (s : State) : Outcome State Fault Refusal :=
  .next (request ⟨tag, .skipSleeper⟩ s)

/-- ABORT_SLEEPER (06 R114). -/
def execAbortSleeper (tag : Byte) (s : State) : Outcome State Fault Refusal :=
  .next (request ⟨tag, .abortSleeper⟩ s)

/-- RETAMP (06 R115). -/
def execRetamp (tag : Byte) (s : State) : Outcome State Fault Refusal :=
  .next (request ⟨tag, .retamp⟩ s)

/-- STOP_RUN (06 R116). -/
def execStopRun (tag : Byte) (s : State) : Outcome State Fault Refusal :=
  .next (request ⟨tag, .stopRun⟩ s)

/-- CLEAR_STOP (09 R160). -/
def execClearStop (tag : Byte) (s : State) : Outcome State Fault Refusal :=
  .next (request ⟨tag, .clearStop⟩ s)

end Sys2Proof.Machine
end

