-- ==== Sys2Proof/Machine/StopEvents.lean ====
section
/-! DEFINITION. The events of the axis line, the safety chain, the operator and the attention timer (09). -/

namespace Sys2Proof.Machine

open Host

/-- AXIS_FRAME (09 R154). -/
def execAxisFrame (frame : AxisFrame) (s : State) : Outcome State Fault Refusal :=
  .next (event (takeAxisFrame frame) s)

/-- AXIS_LINE_SILENCE_EXPIRY (09 R156). -/
def execAxisLineSilenceExpiry (s : State) : Outcome State Fault Refusal :=
  .next (event expireAxisLine s)

/-- SAFETY_CHAIN_CHANGE (09 R157). -/
def execSafetyChainChange (closed : Bool) (s : State) : Outcome State Fault Refusal :=
  .next (levelEvent (fun i => { i with chainClosed := closed }) (takeChain closed) s)

/-- OPERATOR_INPUT_ACTIVE (09 R162). -/
def execOperatorInputActive (input : OperatorInput) (s : State) : Outcome State Fault Refusal :=
  .next (event (activityFrom (operatorSource input)) s)

/-- ATTENTION_TIMER_EXPIRY (09 R163, R164). -/
def execAttentionTimerExpiry (s : State) : Outcome State Fault Refusal :=
  .next (event expireAttention s)

end Sys2Proof.Machine
end

