-- ==== Sys2Proof/Machine/TrackEvents.lean ====
section
/-! DEFINITION. The events of the measuring line, of the travel line and of the lifting and lining unit (03, 04, 08). -/

namespace Sys2Proof.Machine

open Host

/-! ## The measuring line (04) -/

/-- MEASURING_FRAME (04 R64). -/
def execMeasuringFrame (bytes : List Byte) (intact : Bool) (s : State) : Outcome State Fault Refusal :=
  .next (event (fun t => settle (takeMeasuringFrame (validSamples bytes intact) t)) s)

/-- SILENCE_LIMIT_EXPIRY (04 R70). -/
def execSilenceLimitExpiry (s : State) : Outcome State Fault Refusal :=
  .next (event (fun t => settle (expireSilence t)) s)

/-! ## The travel line (03) -/

/-- ODOMETER_COUNT (03 R44). -/
def execOdometerCount (forward : Bool) (s : State) : Outcome State Fault Refusal :=
  .next (event (fun t => t.modChainage fun c => c.count forward) s)

/-- DETECTION (03 R56). -/
def execDetection (s : State) : Outcome State Fault Refusal := .next (event takeDetection s)

/-- HALTED (03 R50). -/
def execHalted (s : State) : Outcome State Fault Refusal :=
  .next (event (fun t => settle (takeHalted t)) s)

/-- INDEX_TIMER_EXPIRY (03 R52). -/
def execIndexTimerExpiry (s : State) : Outcome State Fault Refusal := .next (event expireIndexTimer s)

/-! ## The lifting and lining unit (08) -/

/-- The level of a clamp-closed sensor. -/
def clampLevel (clamp : Clamp) (closed : Bool) (i : Inputs) : Inputs :=
  match clamp with
  | .left => { i with clampClosed := { i.clampClosed with left := closed } }
  | .right => { i with clampClosed := { i.clampClosed with right := closed } }
  | .hook => { i with clampClosed := { i.clampClosed with hook := closed } }

/-- CLAMP_SENSOR_REPORT (08 R141, R149). -/
def execClampSensorReport (clamp : Clamp) (closed : Bool) (s : State) : Outcome State Fault Refusal :=
  .next (levelEvent (clampLevel clamp closed)
    (fun t => settle (takeClampLevels (t.setInputs (clampLevel clamp closed t.inputs)))) s)

/-- CLAMP_TIMER_EXPIRY (08 R141, R150). -/
def execClampTimerExpiry (s : State) : Outcome State Fault Refusal :=
  .next (event (fun t => settle (expireClampTimer t)) s)

/-- CORRECTION_TIMER_EXPIRY (08 R145). -/
def execCorrectionTimerExpiry (s : State) : Outcome State Fault Refusal :=
  .next (event (fun t => settle (expireCorrection t)) s)

end Sys2Proof.Machine
end

