-- ==== Sys2Proof/Machine/Dispatch.lean ====
section
/-! DEFINITION. The meaning of each command: one arm per row of spec/opcode_table.json. -/

namespace Sys2Proof.Machine

def exec (i : Instr) (s : State) : Host.Outcome State Fault Refusal :=
  match i with
  | .setParam tag id value => Sys2Proof.Machine.execSetParam tag id value s
  | .getParam tag id => Sys2Proof.Machine.execGetParam tag id s
  | .restart tag => Sys2Proof.Machine.execRestart tag s
  | .openPage tag page => Sys2Proof.Machine.execOpenPage tag page s
  | .loadRecords tag page first records => Sys2Proof.Machine.execLoadRecords tag page first records s
  | .closePage tag page count endByte => Sys2Proof.Machine.execClosePage tag page count endByte s
  | .discardPage tag page => Sys2Proof.Machine.execDiscardPage tag page s
  | .readRecord tag page index => Sys2Proof.Machine.execReadRecord tag page index s
  | .writeRule tag slot rule => Sys2Proof.Machine.execWriteRule tag slot rule s
  | .readRule tag slot => Sys2Proof.Machine.execReadRule tag slot s
  | .clearRules tag => Sys2Proof.Machine.execClearRules tag s
  | .setManualMask tag mask => Sys2Proof.Machine.execSetManualMask tag mask s
  | .setChainage tag value => Sys2Proof.Machine.execSetChainage tag value s
  | .startRun tag page index => Sys2Proof.Machine.execStartRun tag page index s
  | .pause tag => Sys2Proof.Machine.execPause tag s
  | .resume tag => Sys2Proof.Machine.execResume tag s
  | .confirm tag => Sys2Proof.Machine.execConfirm tag s
  | .skipSleeper tag => Sys2Proof.Machine.execSkipSleeper tag s
  | .abortSleeper tag => Sys2Proof.Machine.execAbortSleeper tag s
  | .retamp tag => Sys2Proof.Machine.execRetamp tag s
  | .stopRun tag => Sys2Proof.Machine.execStopRun tag s
  | .clearStop tag => Sys2Proof.Machine.execClearStop tag s
  | .readResults tag n => Sys2Proof.Machine.execReadResults tag n s
  | .releaseResults tag n => Sys2Proof.Machine.execReleaseResults tag n s
  | .getStatus tag => Sys2Proof.Machine.execGetStatus tag s
  | .getCounters tag clear => Sys2Proof.Machine.execGetCounters tag clear s
  | .clearEvents tag mask => Sys2Proof.Machine.execClearEvents tag mask s
  | .frameReceived bytes => Sys2Proof.Machine.execFrameReceived bytes s
  | .gapLimitExpiry => Sys2Proof.Machine.execGapLimitExpiry s
  | .frameSent => Sys2Proof.Machine.execFrameSent s
  | .powerOnReset => Sys2Proof.Machine.execPowerOnReset s
  | .measuringFrame bytes intact => Sys2Proof.Machine.execMeasuringFrame bytes intact s
  | .silenceLimitExpiry => Sys2Proof.Machine.execSilenceLimitExpiry s
  | .axisFrame frame => Sys2Proof.Machine.execAxisFrame frame s
  | .axisLineSilenceExpiry => Sys2Proof.Machine.execAxisLineSilenceExpiry s
  | .safetyChainChange closed => Sys2Proof.Machine.execSafetyChainChange closed s
  | .operatorInputActive input => Sys2Proof.Machine.execOperatorInputActive input s
  | .odometerCount forward => Sys2Proof.Machine.execOdometerCount forward s
  | .detection => Sys2Proof.Machine.execDetection s
  | .halted => Sys2Proof.Machine.execHalted s
  | .indexTimerExpiry => Sys2Proof.Machine.execIndexTimerExpiry s
  | .clampSensorReport clamp closed => Sys2Proof.Machine.execClampSensorReport clamp closed s
  | .clampTimerExpiry => Sys2Proof.Machine.execClampTimerExpiry s
  | .correctionTimerExpiry => Sys2Proof.Machine.execCorrectionTimerExpiry s
  | .tiltSensorReport head arm report => Sys2Proof.Machine.execTiltSensorReport head arm report s
  | .headRaisedSensorReport head raised => Sys2Proof.Machine.execHeadRaisedSensorReport head raised s
  | .traverseTimerExpiry head => Sys2Proof.Machine.execTraverseTimerExpiry head s
  | .tiltTimerExpiry head => Sys2Proof.Machine.execTiltTimerExpiry head s
  | .penetrationTimerExpiry head => Sys2Proof.Machine.execPenetrationTimerExpiry head s
  | .squeezeTimerExpiry head => Sys2Proof.Machine.execSqueezeTimerExpiry head s
  | .attentionTimerExpiry => Sys2Proof.Machine.execAttentionTimerExpiry s
  | .receivedByte byte => Sys2Proof.Machine.execReceivedByte byte s
  | .resetLineLow => Sys2Proof.Machine.execResetLineLow s

end Sys2Proof.Machine
end

