-- ==== Sys2Proof/Machine/Step.lean ====
section
/-! DEFINITION. One step of the part: the command at the front of the queue, or the request that waits. -/

namespace Sys2Proof.Machine

/-- What happens with no command waiting: the oldest request is executed when the transmit queue has a free
place (11 R179, log entry 1). -/
def idle (s : State) : State := if s.resetLow then s else executeOldest s

/-- One step: the oldest command is taken from the queue and carried out. DESIGN CHOICE (log entry 1): with
no command waiting the link executes the oldest request of its own queue, and the part otherwise idles. -/
def step (s : State) : Host.Outcome State Fault Refusal :=
  match s.pending with
  | [] => .next (idle s)
  | c :: rest => exec c (s.setPending rest)

/-- The state with the command a word spells at the front of its queue, unchanged where the word spells
none. -/
def State.withFetchWord (s : State) (nbits w : Nat) : State :=
  match decodeTableWord nbits w with
  | some c => s.setPending (c :: s.pending)
  | none => s

end Sys2Proof.Machine
end

