-- ==== Sys2Proof/Safety.lean ====
section
/-! DEFINITION. The terms claims use: what counts as a safe state (the laws the manual says the part keeps),
and how the end of an event differs from the effect of the command alone (reports, reply, activity). -/

namespace Sys2Proof.Machine

/-! ## Safe states -/

/-- No travel demand is active unless the unit is OPEN and every head PARKED (03 R47). -/
def State.travelLaw (s : State) : Prop :=
  s.chainage.move.demandActive = true → s.lining.state = .isOpen ∧ s.allParked = true

/-- A head is in PENETRATING or SQUEEZING only while the unit is HOLDING and every arm of it outside the
enabled mask is confirmed tilted out (07 R127). While the reset line is held low the part does not act on its
sensors (log entry 5). -/
def State.guardLaw (s : State) : Prop :=
  s.resetLow = false → ∀ i : Fin 4, (s.heads.get i).working = true → (s.headEnv i).guard = true

/-- Vibration is on exactly in PENETRATING and SQUEEZING (07 R121). -/
def State.vibrationLaw (s : State) : Prop :=
  ∀ i : Fin 4, (s.heads.get i).vibration = (s.heads.get i).working

/-- INDEXING, MEASURING, CORRECTING and TAMPING imply that the stop latch is clear (06 R118). -/
def State.stopLaw (s : State) : Prop :=
  s.stopLatched = true →
    s.seq.state = .faultStop ∨ s.seq.state = .idle ∨ s.seq.state = .ended

/-- The records of the result queue and the reservation never exceed 32 (10 R165). -/
def State.resultLaw (s : State) : Prop := s.results.length + s.seq.reservation ≤ resultSlots

/-- The queues of the link keep their bounds (11 R178, R182). -/
def State.linkLaw (s : State) : Prop :=
  s.link.requests.length ≤ requestPlaces ∧ s.link.tx.length ≤ transmitPlaces

/-- No counter exceeds 65,535 (10 R175). -/
def State.counterLaw (s : State) : Prop := ∀ n ∈ s.counters.toList, n ≤ counterMax

/-- The attention timer runs only in the states it follows (09 R161). -/
def State.attentionLaw (s : State) : Prop :=
  s.seq.state.attentive = false → s.attention.state = .disarmed

/-- A safe state keeps every law. -/
def State.safe (s : State) : Prop :=
  s.travelLaw ∧ s.guardLaw ∧ s.vibrationLaw ∧ s.stopLaw ∧ s.resultLaw ∧ s.linkLaw ∧ s.counterLaw
    ∧ s.attentionLaw

/-! ## The laws that rule out states no run reaches -/

/-- A travel demand is active only in INDEXING, a context exists only in the states with a sleeper in
flight, and INDEXING to TAMPING imply that no stop is latched (03 R48, 06 R95, R96, R118). -/
def State.cycleLaw (s : State) : Prop :=
  s.stopLaw
    ∧ (s.chainage.move.demandActive = true → s.seq.state = .indexing)
    ∧ (s.seq.context.isSome = true →
        s.seq.state = .measuring ∨ s.seq.state = .correcting ∨ s.seq.state = .tamping
          ∨ s.seq.state = .releasing ∨ s.seq.awaitsConfirm = true)

/-- A reservation is held exactly while a sleeper is in flight (06 R95, 10 R165). -/
def State.flightLaw (s : State) : Prop :=
  s.seq.reservation = (if s.seq.context.isSome then 1 else 0)

/-- A head awaited by a release after heads is not PARKED, and a release after heads awaits a head (08 R151,
log entry 13). -/
def State.awaitLaw (s : State) : Prop :=
  (∀ i : Fin 4, s.lining.awaited.get i = true → (s.heads.get i).state ≠ .parked)
    ∧ (s.lining.releaseAfterHeads = true → s.lining.awaited.anyTrue = true)

/-- A READY or ACTIVE page holds from 1 to 64 records without a gap, in rising nominal chainage (01 "Pages and
their states", R7). -/
def Page.whole (p : Page) : Prop :=
  1 ≤ p.count ∧ p.count ≤ 64 ∧ (∀ i : Nat, i < p.count → (p.at? i).isSome = true)
    ∧ ∀ (i : Nat) (x y : SleeperRecord), p.at? i = some x → p.at? (i + 1) = some y → x.chainage < y.chainage

/-- A page is ACTIVE exactly where a pointer stands in it (01 R2). READY and ACTIVE pages are whole; a pointer
stands on a record; the two pointers stand exactly while a run is in progress, and the front pointer's record
never lies behind the workhead record (01 R17, R25). -/
def State.planLaw (s : State) : Prop :=
  (∀ n : Fin 4, (s.plan.page n).state = .active ↔
      s.plan.workhead.map Pos.page = some n ∨ s.plan.front.map Pos.page = some n)
    ∧ (∀ n : Fin 4, (s.plan.page n).workable = true → (s.plan.page n).whole)
    ∧ (s.plan.workhead = none ↔ s.seq.state = .idle ∨ s.seq.state = .ended)
    ∧ (s.plan.workhead = none → s.plan.front = none)
    ∧ ∀ w : Pos, s.plan.workhead = some w →
        ∃ (f : Pos) (x y : SleeperRecord), s.plan.front = some f ∧ s.plan.at? w = some x
          ∧ s.plan.at? f = some y ∧ x.chainage ≤ y.chainage

/-- A head is engaged by the context of the sleeper in flight. -/
def State.engages (s : State) (i : Fin 4) : Prop := ∃ c : Context, s.seq.context = some c ∧ c.engaged i = true

/-- A head between the start of its first insertion and the end of its last: in the ballast, rising partway, or
opening with a second insertion to come (07 R129 to R132). -/
def HeadRecord.inserting (h : HeadRecord) : Prop :=
  h.working = true ∨ h.state = .rising .partway
    ∨ (h.state = .opening ∧ h.outcome = none ∧ h.begun = 1 ∧ h.planned = 2)

/-- Engaged heads insert in TAMPING and prepare, or have a prepare order pending, in MEASURING and CORRECTING, and
no head does so elsewhere (06 R102 to R104, 07 R125). A head with an order pending is not PARKED, but before the first
axis frame after a reset (log entry 11). -/
def State.headPhaseLaw (s : State) : Prop :=
  ∀ i : Fin 4,
    ((s.heads.get i).inserting → s.seq.state = .tamping ∧ s.engages i)
    ∧ ((s.heads.get i).state = .preparing ∨ (s.heads.get i).state = .ready →
        (s.seq.state = .measuring ∨ s.seq.state = .correcting) ∧ s.engages i)
    ∧ ((s.heads.get i).preparePending = true →
        (s.seq.state = .measuring ∨ s.seq.state = .correcting) ∧ s.engages i
          ∧ ((s.heads.get i).state = .parked → s.awaitFrame = true) ∧ (s.heads.get i).state ≠ .preparing
          ∧ (s.heads.get i).state ≠ .ready)

/-- The unit by the state of the sequencer: HOLDING in TAMPING, CLAMPED while the PRE window is open, OPEN while
the FINAL window is, and a release after heads only where none of these depends on the clamps (06 R102 to R105,
08 R140, R141, R151). -/
def State.unitPhaseLaw (s : State) : Prop :=
  (s.seq.state = .tamping → s.lining.state = .holding)
    ∧ (∀ w : Window, s.measuring = .window w → s.lining.releaseAfterHeads = false
        ∧ (w.kind = .pre → s.seq.state = .measuring ∧ s.lining.state = .clamped)
        ∧ (w.kind = .final → s.seq.state = .releasing ∧ s.lining.state = .isOpen))
    ∧ (s.lining.releaseAfterHeads = true →
        s.seq.state ≠ .correcting ∧ s.seq.state ≠ .tamping ∧ s.seq.state ≠ .releasing
          ∧ (s.lining.state = .isOpen ∨ s.lining.state = .releasing → s.seq.state = .idle)
          ∧ (s.lining.state = .releasing → s.lining.clampPending = false)
          ∧ (s.lining.state = .clamping → s.lining.clampTimer = none))

/-- Before the first axis frame after a reset every head is PARKED or in a full rise, no insertion has begun, and no head
has a preparing fault (07 R137, log entry 11). -/
def State.firstFrameLaw (s : State) : Prop :=
  s.awaitFrame = true →
    ∀ i : Fin 4, ((s.heads.get i).state = .parked ∨ (s.heads.get i).state = .rising .full)
      ∧ (s.heads.get i).begun = 0 ∧ (s.heads.get i).outcome ≠ some .tiltFault
      ∧ (s.heads.get i).outcome ≠ some .traverseFault

/-- Every parameter lies in its range (11 R183, R184). -/
def State.paramLaw (s : State) : Prop :=
  ∀ p : ParamId, p.least ≤ s.params.get p ∧ s.params.get p ≤ p.greatest

/-- The consecutive counts stay from 0 to 3, and those of the axes from 0 to 20 (03 R60, 04 R77, 09 R153). -/
def State.countLaw (s : State) : Prop :=
  s.seq.missCount ≤ 3 ∧ s.seq.degradedCount ≤ 3 ∧ ∀ a : Axis, axesGet s.supervisor.count a ≤ 20

/-! ## The end of an event -/

/-- The link can execute a request the moment it is commanded: not in reset, not restarting, no request
waiting, a place free for the reply (11 R178, R179). -/
def State.linkReady (s : State) : Prop :=
  s.resetLow = false ∧ s.link.restart = none ∧ s.link.requests = []
    ∧ s.link.tx.length < transmitPlaces

/-- The reply of a request placed at the newest end of the transmit queue (11 R179). -/
def State.replied (r : Request) (y : Reply) (s : State) : State :=
  s.modLink fun l => { l with tx := l.tx ++ [replyFrame r y] }

/-- A request answered, and its activity given (11 R179, 09 R162). -/
def State.answered (r : Request) (y : Reply) (s : State) : State :=
  requestActivity r y (s.replied r y)

/-- A request that moved the sequencer answered: the attention timer follows before the activity (09 R161,
log entry 14). -/
def State.moved (before : State) (r : Request) (y : Reply) (after : State) : State :=
  requestActivity r y (followAttention before (after.replied r y))

/-- `t` is `x` with nothing but reports of the event added: REPORT frames at the newest end of the transmit
queue, and REPORTS_SUPPRESSED (10 R172). -/
def State.reportOf (t x : State) : Prop :=
  (t.setLink x.link).setCounters x.counters = x
    ∧ t.link.rx = x.link.rx ∧ t.link.requests = x.link.requests ∧ t.link.restart = x.link.restart
    ∧ (∃ fs : List TxFrame, t.link.tx = x.link.tx ++ fs ∧ ∀ f ∈ fs, f.kind = .report)
    ∧ ∀ k : Counter, k ≠ .reportsSuppressed → t.counters.get k = x.counters.get k

/-- The blocks that no event of the run changes: the commands waiting, the input lines, the parameters, the
zone rules, the supervisor, the assembler, the request queue and the restarting mark. -/
def State.keepsStores (t s : State) : Prop :=
  t.pending = s.pending ∧ t.resetLow = s.resetLow ∧ t.inputs = s.inputs ∧ t.awaitFrame = s.awaitFrame
    ∧ t.params = s.params ∧ t.rules = s.rules ∧ t.supervisor = s.supervisor
    ∧ t.link.rx = s.link.rx ∧ t.link.requests = s.link.requests ∧ t.link.restart = s.link.restart

end Sys2Proof.Machine
end

