-- ==== Sys2Proof/Certificates/Slice0/Obligations.lean ====
section
/-! DEFINITION. The statements for the provers. A statement about a command gives its whole outcome: an
equation for the next state, or the next state up to the reports of its event (`State.reportOf`), so that
what it does not name is unchanged. -/

open Sys2Proof Sys2Proof.Machine

/-! ## Steps, the request queue and the link (11) -/

/-- A step takes the command at the front of the queue and carries it out on the rest of the state. -/
def Obligations.StepRunsFrontCommand : Prop :=
  ∀ (c : Instr) (rest : List Instr) (s : State), s.pending = c :: rest →
    step s = exec c (s.setPending rest)

/-- With no command waiting, the oldest request is executed when a place of the transmit queue is free, and
the part idles otherwise (11 R179). That an empty command queue is when this happens is the model's choice,
log entry 1. -/
def Obligations.IdleStepExecutesOldestRequest : Prop :=
  ∀ s : State, s.pending = [] →
    (s.resetLow = true → step s = .next s)
    ∧ (s.resetLow = false → s.link.requests = [] → step s = .next s)
    ∧ ∀ (r : Request) (rest : List Request), s.resetLow = false → s.link.requests = r :: rest →
        (s.link.tx.length < 8 → step s = .next (execute r s))
        ∧ (8 ≤ s.link.tx.length → step s = .next s)

/-- The byte of a result code (11 "Codes"). -/
def resultByte : ResultCode → Byte
  | .ok => 0
  | .adjusted => 1
  | .queueFull => 2
  | .badLength => 3
  | .unknownCode => 4
  | .badValue => 5
  | .wrongState => 6
  | .pageState => 7

/-- The five plan requests, whose BAD_VALUE carries a position byte (01 R3, 11 R181). -/
def onPlan : Call → Bool
  | .openPage _ => true
  | .loadRecords _ _ _ => true
  | .closePage _ _ _ => true
  | .discardPage _ => true
  | .readRecord _ _ => true
  | _ => false

/-- An executed request leaves the request queue and gets exactly one reply, which echoes its TAG and CODE and
stands before any report of the event (11 R178, R179, R181). RESTART also discards the requests behind it. The reply
begins with one result code; after any code but OK and ADJUSTED it carries nothing more, except the position byte of a
plan request refused with BAD_VALUE. An unknown code and a body of the wrong length are answered by the link itself,
and change nothing else. -/
def Obligations.ExecutedRequestGetsOneReply : Prop :=
  (∀ (r : Request) (y : Reply), replyFrame r y = ⟨.reply, r.tag, callCode r.call, resultByte y.code :: y.body⟩)
  ∧ ∀ (s : State) (r : Request) (rest : List Request), s.pending = [] → s.resetLow = false →
    s.link.requests = r :: rest → s.link.tx.length < 8 →
    ∃ (t : State) (y : Reply) (reports : List TxFrame), step s = .next t
      ∧ t.link.tx = s.link.tx ++ ⟨.reply, r.tag, callCode r.call, resultByte y.code :: y.body⟩ :: reports
      ∧ (∀ f ∈ reports, f.kind = .report)
      ∧ t.link.requests = (if r.call = .restart then [] else rest)
      ∧ t.link.rx = s.link.rx
      ∧ (y.code ≠ .ok → y.code ≠ .adjusted →
          y.body.length = if y.code = .badValue ∧ onPlan r.call = true then 1 else 0)
      ∧ (let answers := fun code : ResultCode => y = ⟨code, []⟩
            ∧ t = State.answered r ⟨code, []⟩ (s.setLink { s.link with requests := rest })
        ∀ code : Byte, (r.call = .unknownCode code → answers .unknownCode)
          ∧ (r.call = .badLength code → answers .badLength))

/-- The bytes of a frame with good stop bits. -/
def goodBytes (l : List Byte) : List RxByte := l.map fun b => ⟨b, true⟩

/-- A frame abandoned or dropped: HUNT, its counter raised, LINK_FAULT set (11 R177). -/
def abandoned (k : Counter) (s : State) : State :=
  ((s.setLink { s.link with rx := .hunt }).setCounters (s.counters.bump k)).setLatches (s.latches ||| 0x40)

/-- A good frame of KIND REQUEST met in HUNT is counted and handed to the request queue: discarded while the
link is restarting, joined at the newest end with fewer than 4 requests waiting, else counted and answered
QUEUE_FULL where the transmit queue has a place (11 R177, R178). A good frame of another KIND is dropped. -/
def Obligations.ReceivedFrameReachesRequestQueue : Prop :=
  ∀ (s : State) (kind tag code : Byte) (body : List Byte),
    s.resetLow = false → s.link.rx = .hunt → body.length ≤ 240 →
    let r : Request := ⟨tag, readCall code body⟩
    let counted := s.setCounters (s.counters.bump .framesAccepted)
    let bytes := goodBytes (0x5A :: framedBytes kind tag code body)
    (kind = 1 → s.link.restart.isSome = true → exec (.frameReceived bytes) s = .next counted)
    ∧ (kind = 1 → s.link.restart = none → s.link.requests.length < 4 →
        exec (.frameReceived bytes) s
          = .next (counted.setLink { s.link with requests := s.link.requests ++ [r] }))
    ∧ (kind = 1 → s.link.restart = none → 4 ≤ s.link.requests.length →
        exec (.frameReceived bytes) s
          = .next ((if s.link.tx.length < 8 then
                counted.setLink { s.link with tx := s.link.tx ++ [⟨.reply, tag, callCode r.call, [2]⟩] }
              else counted).setCounters (counted.counters.bump .queueFullRefusals)))
    ∧ (kind ≠ 1 → ∃ t, exec (.frameReceived bytes) s = .next t
        ∧ t.reportOf (abandoned .lengthErrors s))

/-- The 27 request codes, each with the bytes of its body (11 "Requests"): none for LOAD_RECORDS, whose body ends where
its last announced record ends. -/
def requestTable : List (Nat × Option Nat) :=
  [(0x01, some 5), (0x02, some 1), (0x03, some 0), (0x10, some 1), (0x11, none), (0x12, some 3), (0x13, some 1),
    (0x14, some 2), (0x20, some 22), (0x21, some 1), (0x22, some 0), (0x28, some 2), (0x29, some 4), (0x30, some 2),
    (0x31, some 0), (0x32, some 0), (0x33, some 0), (0x34, some 0), (0x35, some 0), (0x36, some 0), (0x37, some 0),
    (0x38, some 0), (0x40, some 1), (0x41, some 1), (0x42, some 0), (0x43, some 1), (0x44, some 1)]

/-- The row of a request in the table. -/
def requestRow : Call → Option Nat
  | .setParam _ _ => some 0
  | .getParam _ => some 1
  | .restart => some 2
  | .openPage _ => some 3
  | .loadRecords _ _ _ => some 4
  | .closePage _ _ _ => some 5
  | .discardPage _ => some 6
  | .readRecord _ _ => some 7
  | .writeRule _ _ => some 8
  | .readRule _ => some 9
  | .clearRules => some 10
  | .setManualMask _ => some 11
  | .setChainage _ => some 12
  | .startRun _ _ => some 13
  | .pause => some 14
  | .resume => some 15
  | .confirm => some 16
  | .skipSleeper => some 17
  | .abortSleeper => some 18
  | .retamp => some 19
  | .stopRun => some 20
  | .clearStop => some 21
  | .readResults _ => some 22
  | .releaseResults _ => some 23
  | .getStatus => some 24
  | .getCounters _ => some 25
  | .clearEvents _ => some 26
  | .badLength _ => none
  | .unknownCode _ => none

/-- What follows the first sleeper record of a body (11 R179, "Sleeper record"): 21 bytes, 2 for each of the presence
bits 0 to 4, and 3 for each entry of the head list. -/
def afterRecord (bytes : List Byte) : Option (List Byte) :=
  match bytes[19]?, bytes[20]? with
  | some presence, some count =>
    let length := 21 + 2 * (List.range 5).countP (fun k => presence.getLsbD k) + 3 * count.toNat
    if length ≤ bytes.length then some (bytes.drop length) else none
  | _, _ => none

/-- What follows a number of sleeper records. -/
def afterRecords : Nat → List Byte → Option (List Byte)
  | 0, bytes => some bytes
  | n + 1, bytes => (afterRecord bytes).bind (afterRecords n)

/-- A request's bytes read back as the request: every field of every one of the 27 requests at every value its
bytes can carry (11 "Requests", "Sleeper record", "Zone rule"). The two checks of the link (11 R179): a code that is none
of the 27 is unknown, and a body whose length is not the one its code requires has the wrong length; that of
LOAD_RECORDS must end exactly where its last announced record ends. -/
def Obligations.ReadBackOfEncodedRequest : Prop :=
  (∀ (c : Call) (k : Nat), requestRow c = some k →
    ∃ length : Option Nat, requestTable[k]? = some ((callCode c).toNat, length))
  ∧ (∀ (code : Byte) (body : List Byte),
    ((∀ row ∈ requestTable, row.1 ≠ code.toNat) → readCall code body = .unknownCode code)
    ∧ (∀ n : Nat, (code.toNat, some n) ∈ requestTable → (readCall code body = .badLength code ↔ body.length ≠ n))
    ∧ (code.toNat = 0x11 → (readCall code body = .badLength code ↔
        ¬ ∃ (page first n : Byte) (rest : List Byte), body = page :: first :: n :: rest
          ∧ afterRecords n.toNat rest = some [])))
  ∧ ∀ c : Call,
    (match c with
      | .loadRecords _ _ records =>
        records.length ≤ 255 ∧ ∀ x ∈ records, x.heads.length ≤ 255
      | .badLength _ => False
      | .unknownCode _ => False
      | _ => True) →
    readCall (callCode c) (callBody c) = c

/-- The frame assembler (11 R177, R186). A byte in HUNT starts a frame exactly when it is 0x5A with a good stop
bit, and is discarded otherwise; in reset nothing is received and nothing sent, and a gap limit that expires in
HUNT changes nothing. In COLLECTING a bad stop bit, the gap limit, a LENGTH outside 3 to 243 and a wrong check
each abandon the frame with a counter of their own and LINK_FAULT; a byte that neither ends nor spoils the frame
joins it. -/
def Obligations.BytesStartJoinOrSpoilFrames : Prop :=
  (∀ (s : State) (b : RxByte),
    (s.resetLow = false → s.link.rx = .hunt → b.stopGood = true → b.byte = 0x5A →
      exec (.receivedByte b) s = .next (s.setLink { s.link with rx := .collecting [] }))
    ∧ (s.resetLow = false → s.link.rx = .hunt → (b.stopGood = false ∨ b.byte ≠ 0x5A) →
        exec (.receivedByte b) s = .next s)
    ∧ (s.link.rx = .hunt → exec .gapLimitExpiry s = .next s)
    ∧ (s.resetLow = true → exec (.receivedByte b) s = .next s ∧ exec .frameSent s = .next s))
  ∧ ∀ (s : State) (bytes : List Byte), s.resetLow = false → s.link.rx = .collecting bytes →
    (∀ b : RxByte, b.stopGood = false →
      ∃ t, exec (.receivedByte b) s = .next t ∧ t.reportOf (abandoned .framingErrors s))
    ∧ (∃ t, exec .gapLimitExpiry s = .next t ∧ t.reportOf (abandoned .gapErrors s))
    ∧ (∀ b : Byte, bytes = [] → (b.toNat < 3 ∨ 243 < b.toNat) →
        ∃ t, exec (.receivedByte ⟨b, true⟩) s = .next t ∧ t.reportOf (abandoned .lengthErrors s))
    ∧ (∀ b n : Byte, ∀ more : List Byte, bytes ++ [b] = n :: more → 3 ≤ n.toNat → n.toNat ≤ 243 →
        more.length < n.toNat + 2 →
        exec (.receivedByte ⟨b, true⟩) s
          = .next (s.setLink { s.link with rx := .collecting (bytes ++ [b]) }))
    ∧ (∀ b n h l : Byte, ∀ covered : List Byte, bytes ++ [b] = (n :: covered) ++ [h, l] →
        3 ≤ n.toNat → n.toNat ≤ 243 → covered.length = n.toNat → crc16 (n :: covered) ≠ word2 h l →
        ∃ t, exec (.receivedByte ⟨b, true⟩) s = .next t ∧ t.reportOf (abandoned .crcErrors s))

/-- The oldest frame sent frees its place; while restarting the frames ahead of the RESTART reply count down
(11 R182, R185); with nothing to send nothing happens. -/
def Obligations.FrameSentFreesItsPlace : Prop :=
  ∀ s : State, s.resetLow = false →
    (s.link.tx = [] → exec .frameSent s = .next s)
    ∧ ∀ (f : TxFrame) (rest : List TxFrame), s.link.tx = f :: rest →
        (s.link.restart = none → exec .frameSent s = .next (s.setLink { s.link with tx := rest }))
        ∧ ∀ n : Nat, s.link.restart = some (n + 2) →
            exec .frameSent s
              = .next (s.setLink { s.link with tx := rest, restart := some (n + 1) })

/-- RESTART executed, alone or at the oldest end of the request queue, is answered OK, discards every request
behind it, and leaves the link restarting until its reply, the newest frame, has been sent (11 R185). -/
def Obligations.RestartDiscardsRequests : Prop :=
  ∀ (s : State) (tag : Byte) (rest : List Request), s.resetLow = false → s.link.restart = none →
    s.link.tx.length < 8 → s.link.requests = [] ∨ s.link.requests = ⟨tag, .restart⟩ :: rest →
    exec (.restart tag) s
      = .next (requestActivity ⟨tag, .restart⟩ (.plain .ok)
          (s.setLink
            { s.link with
              tx := s.link.tx ++ [⟨.reply, tag, 3, [0]⟩]
              requests := []
              restart := some (s.link.tx.length + 1) }))

/-- What a reset leaves in the blocks that both resets treat alike (01 R1, 02 R41, 03 R46 to R48, 04 R66,
05 R78, 06 R95, 09 R161, 10 R165, R171). -/
def ResetAlike (t : State) : Prop :=
  t.plan = ⟨.all4 ⟨.empty, false, false, []⟩, none, none⟩ ∧ t.manualMask = none
    ∧ t.chainage.offset = 0 ∧ t.chainage.move.state = .noMove ∧ t.chainage.move.drift = none
    ∧ t.chainage.move.outcome = none ∧ t.chainage.move.timer = none ∧ t.chainage.line = some .cancel
    ∧ t.measuring = .noWindow ∧ t.computer = ⟨0, 0, 0, 0, 0, 0⟩
    ∧ t.seq.state = .idle ∧ t.seq.hold = none ∧ t.seq.context = none ∧ t.seq.retained = none
    ∧ t.seq.pausePending = false ∧ t.seq.skipPending = false ∧ t.seq.advanceOwed = false
    ∧ t.seq.resumeAction = none ∧ t.seq.missCount = 0 ∧ t.seq.degradedCount = 0
    ∧ t.seq.reservation = 0
    ∧ t.attention.state = .disarmed ∧ t.results = [] ∧ t.latches = 0 ∧ t.awaitFrame = true
    ∧ t.link.requests = [] ∧ t.link.tx = [] ∧ t.link.restart = none

/-- What a reset leaves in the unit and the heads, by the sensors `i` and the parameters `p` (07 R137,
08 R139). -/
def ResetMachine (i : Inputs) (p : Params) (t : State) : Prop :=
  t.lining.state = (if i.clampsOpen then .isOpen else .releasing)
    ∧ t.lining.command = ⟨false, false, false⟩
    ∧ t.lining.settings = ⟨p.deadband, p.correctionTime, p.clampTime⟩
    ∧ t.lining.clampTimer = (if i.clampsOpen then none else some p.clampTime)
    ∧ t.lining.correctionTimer = none ∧ t.lining.targets = .all5 none
    ∧ t.lining.axis = .all4 .notDriven ∧ t.lining.clampPending = false
    ∧ t.lining.releaseAfterHeads = false ∧ t.lining.frozen = false
    ∧ t.lining.approach = ⟨none, false, false⟩
    ∧ ∀ h : Fin 4,
        (t.heads.get h).state = (if i.raised.get h then .parked else .rising .full)
        ∧ (t.heads.get h).outcome = none ∧ (t.heads.get h).begun = 0 ∧ (t.heads.get h).depth = 0
        ∧ (t.heads.get h).peak = 0 ∧ (t.heads.get h).vibration = false
        ∧ (t.heads.get h).preparePending = false
        ∧ (t.heads.get h).traverseTimer = none ∧ (t.heads.get h).tiltTimer = none
        ∧ (t.heads.get h).penetrationTimer = none ∧ (t.heads.get h).squeezeTimer = none
        ∧ (i.raised.get h = true → (t.heads.get h).tilt = .all4 (some .tiltOut))

/-- The warm restart, made when the RESTART reply has been sent (11 R185): every block at its warm restart
values, with the parameters, zone rules, counters, running chainage, supervisor and stop latch kept. -/
def Obligations.WarmRestartValues : Prop :=
  ∀ (s : State) (f : TxFrame) (rest : List TxFrame) (n : Nat), s.resetLow = false →
    s.link.tx = f :: rest → s.link.restart = some n → n ≤ 1 →
    ∃ t, exec .frameSent s = .next t ∧ ResetAlike t ∧ ResetMachine s.inputs s.params t
      ∧ t.pending = s.pending ∧ t.resetLow = false ∧ t.inputs = s.inputs ∧ t.params = s.params
      ∧ t.rules = s.rules ∧ t.chainage.running = s.chainage.running ∧ t.supervisor = s.supervisor
      ∧ t.stop = s.stop ∧ t.counters = s.counters ∧ t.link.rx = s.link.rx

/-- Power-on reset from any state (11 R186): every block at its power-on values, every parameter at its
default, the stop latch set with SAFETY_CHAIN exactly where the chain is open (09 R159). The reset line held low
empties the link; that the other blocks keep their values until POWER_ON_RESET is the model's choice, log entry
5. That the sampled FOLLOW_TOL_TRAVERSE stands at its default until the first axis frame is its choice too, log entry
7. -/
def Obligations.PowerOnAndResetLine : Prop :=
  ∀ s : State, ∃ t, exec .powerOnReset s = .next t ∧ ResetAlike t
    ∧ ResetMachine s.inputs Params.defaults t
    ∧ t.pending = s.pending ∧ t.resetLow = false ∧ t.inputs = s.inputs
    ∧ (∀ p : ParamId, t.params.get p = p.default) ∧ t.link.rx = .hunt
    ∧ (∀ i : Nat, i < 32 → t.rules[i]? = some ⟨false, .chainage 0 0, 0, none, false, 0, none, false, false⟩)
    ∧ t.rules.length = 32
    ∧ t.chainage.running = 0
    ∧ (∀ a : Axis, axesGet t.supervisor.count a = 0) ∧ t.supervisor.latches = 0
    ∧ t.supervisor.traverseTol = ParamId.followTolTraverse.default
    ∧ t.stop = ⟨if s.inputs.chainClosed then none else some .safetyChain, 0, false⟩
    ∧ (∀ k : Counter, t.counters.get k = 0)
    ∧ exec .resetLineLow s = .next { s with resetLow := true, link := ⟨.hunt, [], [], none⟩ }

/-! ## Parameters (11 R183, R184) -/

/-- SET_PARAM and GET_PARAM (11 R183, R184, 05 R80, 10 R170). A chord parameter: WRONG_STATE outside IDLE and
ENDED, then BAD_VALUE outside the range and not clamped, else stored. Ids 4 to 31: the value replaced by the
nearer limit of the range, stored, answered OK or ADJUSTED with the id and the stored value; RESULTS_THRESHOLD
acts at once. GET_PARAM answers the stored value and changes nothing. An id outside 1 to 31 is BAD_VALUE. -/
def Obligations.ParametersStoredAndRead : Prop :=
  ∀ (s : State) (tag id : Byte) (value : BitVec 32), s.linkReady →
    let r : Request := ⟨tag, .setParam id value⟩
    let v := value.toInt
    (id.toNat = 0 ∨ 31 < id.toNat →
      exec (.setParam tag id value) s = .next (State.answered r (.plain .badValue) s)
      ∧ exec (.getParam tag id) s = .next (State.answered ⟨tag, .getParam id⟩ (.plain .badValue) s))
    ∧ ∀ p : ParamId, ParamId.ofByte? id = some p →
      exec (.getParam tag id) s
          = .next (State.answered ⟨tag, .getParam id⟩ ⟨.ok, id :: signedField 4 (s.params.get p)⟩ s)
      ∧ (p.isChord = true → s.seq.state ≠ .idle ∧ s.seq.state ≠ .ended →
          exec (.setParam tag id value) s = .next (State.answered r (.plain .wrongState) s))
      ∧ (p.isChord = true → s.seq.state = .idle ∨ s.seq.state = .ended → (v < p.least ∨ p.greatest < v) →
          exec (.setParam tag id value) s = .next (State.answered r (.plain .badValue) s))
      ∧ (p.isChord = true → s.seq.state = .idle ∨ s.seq.state = .ended → p.least ≤ v → v ≤ p.greatest →
          exec (.setParam tag id value) s
            = .next (State.answered r ⟨.ok, id :: signedField 4 v⟩ (s.setParams (s.params.set p v))))
      ∧ (p.isChord = false →
          let stored := max p.least (min p.greatest v)
          let y : Reply := ⟨if stored = v then .ok else .adjusted, id :: signedField 4 stored⟩
          let x := s.setParams (s.params.set p stored)
          ∃ t, exec (.setParam tag id value) s = .next t
            ∧ t.reportOf (State.answered r y
                (if p = .resultsThreshold ∧ stored ≤ s.results.length then x.setLatches (x.latches ||| 0x10)
                 else x))
            ∧ t.params.get p = stored ∧ ∀ q : ParamId, q ≠ p → t.params.get q = s.params.get q)

/-! ## Fields on the wire (11 "Formats") -/

/-- Two bytes, most significant first (11 "Formats"). -/
def wordBytes (v : BitVec 16) : List Byte := [v.extractLsb' 8 8, v.extractLsb' 0 8]

/-- Four bytes, most significant first (11 "Formats"). -/
def longBytes (v : BitVec 32) : List Byte :=
  [v.extractLsb' 24 8, v.extractLsb' 16 8, v.extractLsb' 8 8, v.extractLsb' 0 8]

/-- A byte of bits, bit 0 first. -/
def bitsByte (l : List Bool) : Byte := BitVec.ofNat 8 (l.foldr (fun b n => 2 * n + b.toNat) 0)

/-- A code: the place of a value in its row of 11 "Codes", as the row counts from 0. -/
def codeIn {α : Type} [BEq α] (l : List α) (x : α) : Byte := BitVec.ofNat 8 (l.idxOf x)

/-- The code of a sleeper kind (11 "Codes"). -/
def kindCode (k : SleeperKind) : Byte := codeIn [.plain, .bearer, .joint, .crossing, .checkRail, .drive] k

/-! ## The sleeper plan (01) -/

/-- OPEN_PAGE and DISCARD_PAGE by the state of the page (01 R4, R8), a page outside 0 to 3 refused with
BAD_VALUE, position 0 (01 R3). -/
def Obligations.PageOpenedOrDiscarded : Prop :=
  ∀ (s : State) (tag page : Byte), s.linkReady →
    let opened := fun (y : Reply) (p : PlanStore) =>
      Host.Outcome.next (ρ := Refusal) (φ := Fault)
        (State.answered ⟨tag, .openPage page⟩ y (s.setPlan p))
    let discarded := fun (y : Reply) (p : PlanStore) =>
      Host.Outcome.next (ρ := Refusal) (φ := Fault)
        (State.answered ⟨tag, .discardPage page⟩ y (s.setPlan p))
    (3 < page.toNat →
      exec (.openPage tag page) s = opened ⟨.badValue, [0]⟩ s.plan
      ∧ exec (.discardPage tag page) s = discarded ⟨.badValue, [0]⟩ s.plan)
    ∧ ∀ n : Fin 4, page.toNat = n.val →
      ((s.plan.page n).state = .empty →
        exec (.openPage tag page) s
          = opened (.plain .ok) (s.plan.setPage n ⟨.loading, false, false, []⟩)
        ∧ exec (.discardPage tag page) s = discarded (.plain .ok) s.plan)
      ∧ ((s.plan.page n).state = .ready →
        exec (.openPage tag page) s
          = opened (.plain .ok) (s.plan.setPage n ⟨.loading, false, false, []⟩)
        ∧ exec (.discardPage tag page) s
          = discarded (.plain .ok) (s.plan.setPage n ⟨.empty, false, false, []⟩))
      ∧ ((s.plan.page n).state = .loading →
        exec (.openPage tag page) s = opened (.plain .pageState) s.plan
        ∧ exec (.discardPage tag page) s
          = discarded (.plain .ok) (s.plan.setPage n ⟨.empty, false, false, []⟩))
      ∧ ((s.plan.page n).state = .active →
        exec (.openPage tag page) s = opened (.plain .pageState) s.plan
        ∧ exec (.discardPage tag page) s = discarded (.plain .pageState) s.plan)

/-- LOAD_RECORDS by its checks in order (01 R3, R5, R6, R13): a page outside 0 to 3, a page not LOADING, a number
of records outside 1 to 8 and a place beyond 63 are refused; then every record is stored at its index, the others
stay, the count covers them all; the first record that fails its validation refuses the whole message with its
position. A body that no frame can carry stops the model (log entry 23). -/
def Obligations.RecordsLoadedTogetherOrNotAtAll : Prop :=
  ∀ (s : State) (tag page first : Byte) (records : List WireRecord), s.linkReady →
    let r : Request := ⟨tag, .loadRecords page first records⟩
    let refused := fun y : Reply =>
      exec (.loadRecords tag page first records) s = .next (State.answered r y s)
    (240 < loadBodySize records →
      exec (.loadRecords tag page first records) s = .fault .commandTooLong)
    ∧ (loadBodySize records ≤ 240 → 3 < page.toNat → refused ⟨.badValue, [0]⟩)
    ∧ ∀ n : Fin 4, loadBodySize records ≤ 240 → page.toNat = n.val →
      ((s.plan.page n).state ≠ .loading → refused (.plain .pageState))
      ∧ ((s.plan.page n).state = .loading →
          records = [] ∨ 8 < records.length ∨ 64 < first.toNat + records.length → refused ⟨.badValue, [0]⟩)
      ∧ ((s.plan.page n).state = .loading → 1 ≤ records.length → records.length ≤ 8 →
        first.toNat + records.length ≤ 64 →
        (∀ l : List SleeperRecord, records.map validateRecord? = l.map some →
          ∃ p : Page, exec (.loadRecords tag page first records) s
              = .next (State.answered r ⟨.ok, [BitVec.ofNat 8 p.count]⟩ (s.setPlan (s.plan.setPage n p)))
            ∧ p.state = .loading ∧ p.endFlag = (s.plan.page n).endFlag
            ∧ p.orderFault = (s.plan.page n).orderFault
            ∧ p.count = max (s.plan.page n).count (first.toNat + l.length)
            ∧ ∀ i : Nat, p.at? i
                = if first.toNat ≤ i ∧ i < first.toNat + l.length then l[i - first.toNat]?
                  else (s.plan.page n).at? i)
        ∧ ∀ (good : List WireRecord) (bad : WireRecord) (more : List WireRecord),
            records = good ++ bad :: more → (∀ x ∈ good, (validateRecord? x).isSome = true) →
            validateRecord? bad = none → refused ⟨.badValue, [BitVec.ofNat 8 (good.length + 1)]⟩)

/-- The checks on the fields of a sleeper record, and what is stored (01 R10 to R13, 11 "Sleeper record"): every value
in its range, a kind and a reference rail that exist, LEFT and RIGHT with or without BRANCH, each flag byte 0 or 1, no
unnamed presence bit, a branch lift only with BRANCH, and a head list of up to 4 entries that names no head twice and
leaves 260 mm between neighbours; the stored record is the one received, field by field. -/
def RecordStored (w : WireRecord) (r : SleeperRecord) : Prop :=
  let flag := fun b : Bool => (if b then 1 else 0 : Byte)
  r.chainage = w.chainage.toNat ∧ r.chainage ≤ 99999999
    ∧ w.kind = kindCode r.kind ∧ w.rails = (if r.branch then 7 else 3)
    ∧ w.refRail = codeIn [.left, .right] r.refRail ∧ r.obstacles = w.obstacles
    ∧ r.vd = w.vd.toInt ∧ -3000 ≤ r.vd ∧ r.vd ≤ 3000 ∧ r.vvd = w.vvd.toInt ∧ -1000 ≤ r.vvd ∧ r.vvd ≤ 1000
    ∧ r.cd = w.cd.toInt ∧ -1800 ≤ r.cd ∧ r.cd ≤ 1800
    ∧ w.skip = flag r.skip ∧ w.confirm = flag r.confirm ∧ w.runOut = flag r.runOut ∧ w.noDetect = flag r.noDetect
    ∧ (∀ v, r.eF = some v → -1000 ≤ v ∧ v ≤ 1000) ∧ (∀ v, r.eFv = some v → -1000 ≤ v ∧ v ≤ 1000)
    ∧ (∀ v, r.liftOverride = some v → 0 ≤ v ∧ v ≤ 1500)
    ∧ (∀ v, r.shiftOverride = some v → -1500 ≤ v ∧ v ≤ 1500)
    ∧ (∀ v, r.branchLift = some v → 0 ≤ v ∧ v ≤ 1500 ∧ r.branch = true)
    ∧ (r.heads.map Prod.fst).Nodup ∧ (∀ e ∈ r.heads, -1200 ≤ e.2 ∧ e.2 ≤ 1200)
    ∧ (lateralTargets r.heads).a + 260 ≤ (lateralTargets r.heads).b
    ∧ (lateralTargets r.heads).b + 260 ≤ (lateralTargets r.heads).c
    ∧ (lateralTargets r.heads).c + 260 ≤ (lateralTargets r.heads).d
    ∧ r.eF = w.eF.map BitVec.toInt ∧ r.eFv = w.eFv.map BitVec.toInt
    ∧ r.liftOverride = w.liftOverride.map BitVec.toInt ∧ r.shiftOverride = w.shiftOverride.map BitVec.toInt
    ∧ r.branchLift = w.branchLift.map BitVec.toInt ∧ w.spare = 0 ∧ w.heads.length ≤ 4
    ∧ r.heads.map (fun e => ((e.1.val + 1 : Nat), e.2)) = w.heads.map (fun e => (e.1.toNat, e.2.toInt))

/-- The validation of a record (01 R10 to R13): it passes exactly when every field meets its check, and is then stored
as it was received, field by field. The head list is checked at the lateral targets it leaves: each listed head at its
listed place, each other at its default. -/
def Obligations.ValidatedRecordInRange : Prop :=
  (∀ (w : WireRecord) (r : SleeperRecord), validateRecord? w = some r ↔ RecordStored w r)
  ∧ ∀ (heads : List (Fin 4 × Int)) (i : Fin 4), (heads.map Prod.fst).Nodup →
      (∀ x : Int, (i, x) ∈ heads → (lateralTargets heads).get i = x)
      ∧ ((∀ x : Int, (i, x) ∉ heads) →
          (lateralTargets heads).get i = (Quad.mk (-900) (-540) 540 900).get i)

/-- CLOSE_PAGE by its checks in order (01 R3, R7): a page outside 0 to 3, a page not LOADING, an END byte or a count
out of range; then the lowest index not written, then the lowest index whose nominal chainage does not rise; else
the page is READY with that count and END flag. Where HOLD(PLAN_EXHAUSTED) waits for the page the crossing is
tried again: taken, the run is in INDEXING; refused, the order fault and PAGE_NEEDED are set (01 R20). It waits for the
successor of the workhead page. That the position
field is 0 for a page outside 0 to 3 is the model's choice, log entry 34. -/
def Obligations.ClosedPageIsReady : Prop :=
  ∀ (s : State) (tag page count endByte : Byte), s.linkReady →
    let r : Request := ⟨tag, .closePage page count endByte⟩
    let refused := fun y : Reply => exec (.closePage tag page count endByte) s = .next (State.answered r y s)
    (3 < page.toNat → refused ⟨.badValue, [0]⟩)
    ∧ ∀ n : Fin 4, page.toNat = n.val →
      let rises := fun i : Nat => ∀ x y : SleeperRecord, (s.plan.page n).at? i = some x →
        (s.plan.page n).at? (i + 1) = some y → x.chainage < y.chainage
      ((s.plan.page n).state ≠ .loading → refused (.plain .pageState))
      ∧ ((s.plan.page n).state = .loading → 1 < endByte.toNat ∨ count.toNat = 0 ∨ 64 < count.toNat →
          refused ⟨.badValue, [0]⟩)
      ∧ ∀ e : Bool, (s.plan.page n).state = .loading → endByte.toNat = (if e then 1 else 0) →
        1 ≤ count.toNat → count.toNat ≤ 64 →
        (∀ i : Nat, i < count.toNat → (s.plan.page n).at? i = none →
          (∀ j : Nat, j < i → ∃ x, (s.plan.page n).at? j = some x) →
          refused ⟨.badValue, [BitVec.ofNat 8 i]⟩)
        ∧ ((∀ i : Nat, i < count.toNat → ∃ x, (s.plan.page n).at? i = some x) →
          (∀ i : Nat, i + 1 < count.toNat → ¬ rises i → (∀ j : Nat, j < i → rises j) →
            refused ⟨.badValue, [BitVec.ofNat 8 (i + 1)]⟩)
          ∧ ((∀ i : Nat, i + 1 < count.toNat → rises i) →
            let x := s.setPlan (s.plan.setPage n
              ⟨.ready, e, (s.plan.page n).orderFault, (s.plan.page n).records.take count.toNat⟩)
            let waits := s.seq.state = .hold ∧ s.seq.hold = some .planExhausted
              ∧ ∃ w : Pos, s.plan.workhead = some w ∧ n = w.page + 1
            (¬ waits →
              exec (.closePage tag page count endByte) s = .next (State.answered r (.plain .ok) x))
            ∧ ∀ w : Pos, s.plan.workhead = some w → waits →
              (∃ t, exec (.closePage tag page count endByte) s = .next t
                ∧ t.reportOf (s.moved r (.plain .ok) (settle (retryCrossing w x))))
              ∧ ∀ a b : SleeperRecord, (x.plan.page w.page).last? = some a → (x.plan.page n).at? 0 = some b →
                (a.chainage < b.chainage →
                  retryCrossing w x = { x with
                    plan := (x.plan.cross w x.params.chordFront).1
                    chainage := { x.chainage with
                      move := { x.chainage.move with
                        state := .noMove, drift := none, outcome := none, timer := none } }
                    seq := { x.seq with state := .indexing, hold := none, advanceOwed := false, kind := .normal } })
                ∧ (b.chainage ≤ a.chainage →
                  retryCrossing w x = { x with
                    plan := x.plan.setOrderFault n true, latches := x.latches ||| 0x08 })))

/-- READ_RECORD changes nothing: BAD_VALUE with position 0 for a page outside 0 to 3, PAGE_STATE for an EMPTY page,
BAD_VALUE for a place that holds no record, else the record, byte for byte as it was loaded (01 R3, R9, R13). -/
def Obligations.ReadRecordReturnsRecord : Prop :=
  ∀ (s : State) (tag page index : Byte), s.linkReady →
    let r : Request := ⟨tag, .readRecord page index⟩
    (3 < page.toNat → exec (.readRecord tag page index) s = .next (State.answered r ⟨.badValue, [0]⟩ s))
    ∧ ∀ n : Fin 4, page.toNat = n.val →
    ((s.plan.page n).state = .empty →
      exec (.readRecord tag page index) s = .next (State.answered r (.plain .pageState) s))
    ∧ ((s.plan.page n).state ≠ .empty → (s.plan.page n).at? index.toNat = none →
        exec (.readRecord tag page index) s = .next (State.answered r ⟨.badValue, [0]⟩ s))
    ∧ (∀ x : SleeperRecord, (s.plan.page n).state ≠ .empty → (s.plan.page n).at? index.toNat = some x →
        exec (.readRecord tag page index) s
          = .next (State.answered r ⟨.ok, page :: index :: x.bytes⟩ s))
    ∧ ∀ (w : WireRecord) (x : SleeperRecord), validateRecord? w = some x → x.bytes = wireRecordBytes w

/-- The page `j` pages after `n` in ring order. -/
def pageAfter (n : Fin 4) (j : Nat) : Fin 4 := n + Fin.ofNat 4 j

/-- The front search from the workhead position `w` (01 R17, R21): it covers the workhead page and `k` whole successor
pages. It goes on past a page without END into a successor that is READY or ACTIVE and whose record 0 lies beyond the
last record of that page, and stops after three. `q` is the store with the order-fault flags its checks leave, which
the model makes beyond a bracketing record too (log entry 26). -/
def FrontSearched (p q : PlanStore) (w : Pos) (k : Nat) : Prop :=
  let at' := fun j => p.page (pageAfter w.page j)
  let reaches := fun j => (at' j).endFlag = false
    ∧ ((at' (j + 1)).state = .ready ∨ (at' (j + 1)).state = .active)
  let beyond := fun j => ∃ a b : SleeperRecord, (at' j).last? = some a ∧ (at' (j + 1)).at? 0 = some b
    ∧ a.chainage < b.chainage
  k ≤ 3 ∧ (∀ j, j < k → reaches j ∧ beyond j) ∧ (k < 3 → ¬ (reaches k ∧ beyond k))
    ∧ q.workhead = p.workhead ∧ q.front = p.front
    ∧ (∀ n : Fin 4, q.page n = { p.page n with orderFault := (q.page n).orderFault })
    ∧ (∀ j, 1 ≤ j → j ≤ k → (q.page (pageAfter w.page j)).orderFault = false)
    ∧ (k < 3 → reaches k → (q.page (pageAfter w.page (k + 1))).orderFault = true)
    ∧ ∀ n : Fin 4, (∀ j, 1 ≤ j → j ≤ k → n ≠ pageAfter w.page j) →
        (k < 3 → reaches k → n ≠ pageAfter w.page (k + 1)) → (q.page n).orderFault = (p.page n).orderFault

/-- The front pointer moved to `pos` (01 R2, R18): the page it enters becomes ACTIVE where it was READY, the page it
leaves returns to READY where the workhead does not stand in it, and nothing else changes. -/
def FrontMoved (q t : PlanStore) (pos : Pos) : Prop :=
  t.front = some pos ∧ t.workhead = q.workhead
    ∧ ∀ n : Fin 4, t.page n = { q.page n with
        state :=
          if n = pos.page then (if (q.page n).state = .ready then .active else (q.page n).state)
          else if q.front.map Pos.page = some n ∧ q.workhead.map Pos.page ≠ some n ∧ (q.page n).state = .active
          then .ready else (q.page n).state }

/-- The front computation (01 R17 to R19, R22), with `F` the nominal chainage of the workhead record plus CHORD_FRONT
and `z` the last record searched. Bracketed: `z` at or above `F`, the pointer on the greatest record not above it, its
values handed on, an absent one as 0. Beyond end: `z` below `F` on an END page, the pointer there, values 0. Held: `z`
below `F` elsewhere, the pointer where it last stood, and on the workhead record where it stood nowhere or behind it;
the model hands on 0 for the values, which the context does not use. -/
def FrontComputed (p : PlanStore) (w : Pos) (r : SleeperRecord) (chordFront : Int) : Prop :=
  ∃ (q : PlanStore) (k : Nat) (last : Pos) (z : SleeperRecord), FrontSearched p q w k ∧
    let searched := fun (pos : Pos) (x : SleeperRecord) => p.at? pos = some x
      ∧ ((pos.page = w.page ∧ w.index ≤ pos.index) ∨ ∃ j, 1 ≤ j ∧ j ≤ k ∧ pos.page = pageAfter w.page j)
    let F := r.chainage + chordFront
    let t := p.computeFront chordFront
    searched last z ∧ last.page = pageAfter w.page k ∧ (∀ pos x, searched pos x → x.chainage ≤ z.chainage)
    ∧ (F ≤ z.chainage → ∃ (pos : Pos) (x : SleeperRecord), searched pos x ∧ x.chainage ≤ F
        ∧ (∀ pos' x', searched pos' x' → x'.chainage ≤ F → x'.chainage ≤ x.chainage)
        ∧ t.2 = ⟨.bracketed, x.eF.getD 0, x.eFv.getD 0⟩ ∧ FrontMoved q t.1 pos)
    ∧ (z.chainage < F → (p.page last.page).endFlag = true →
        t.2 = ⟨.beyondEnd, 0, 0⟩ ∧ FrontMoved q t.1 last)
    ∧ (z.chainage < F → (p.page last.page).endFlag = false → t.2 = ⟨.held, 0, 0⟩
        ∧ (p.front = none → FrontMoved q t.1 w)
        ∧ ∀ (g : Pos) (y : SleeperRecord), p.front = some g → p.at? g = some y →
            FrontMoved q t.1 (if y.chainage < r.chainage then w else g))

/-- The crossing: taken when the successor page is READY or ACTIVE and its record 0 lies beyond the last record
of the page left, which becomes EMPTY; else refused with the workhead where it was, and the order-fault flag
set where the comparison failed (01 R20). The front pointer: bracketed, beyond end or held, in a store whose READY and
ACTIVE pages are whole (01 R17 to R19, R22). That the search checks the order of each successor page it comes to, and
sets or clears its order-fault flag, also beyond the record that brackets, is the model's reading, log entry 26. -/
def Obligations.CrossingTakenOrRefused : Prop :=
  (∀ (p : PlanStore) (w : Pos) (r : SleeperRecord) (chordFront : Int), p.workhead = some w → p.at? w = some r →
    (p.page w.page).state = .active → (∀ n : Fin 4, (p.page n).workable = true → (p.page n).whole) →
    0 ≤ chordFront → FrontComputed p w r chordFront)
  ∧ ∀ (p : PlanStore) (w : Pos) (chordFront : Int) (a b : SleeperRecord), p.workhead = some w →
    (p.page w.page).last? = some a → (p.page (w.page + 1)).at? 0 = some b →
    ((p.page (w.page + 1)).state = .ready ∨ (p.page (w.page + 1)).state = .active →
      a.chainage < b.chainage →
      (p.cross w chordFront).2 = true
      ∧ (p.cross w chordFront).1.workhead = some ⟨w.page + 1, 0⟩
      ∧ ((p.cross w chordFront).1.page w.page).state = .empty
      ∧ ((p.cross w chordFront).1.page (w.page + 1)).orderFault = false
      ∧ ((p.cross w chordFront).1.page (w.page + 1)).state = .active
      ∧ (let entered := { p.page (w.page + 1) with state := .active }
        let moved := { p.setPage (w.page + 1) entered with workhead := some ⟨w.page + 1, 0⟩ }
        (p.cross w chordFront).1.front = (moved.computeFront chordFront).1.front))
    ∧ ((p.page (w.page + 1)).state = .ready ∨ (p.page (w.page + 1)).state = .active →
        b.chainage ≤ a.chainage →
        p.cross w chordFront = (p.setOrderFault (w.page + 1) true, false))
    ∧ ((p.page (w.page + 1)).state = .empty ∨ (p.page (w.page + 1)).state = .loading →
        p.cross w chordFront = (p, false))

/-! ## Zone rules, the manual mask and the context (02) -/

/-- The checks of WRITE_RULE on the fields of a rule, and what is stored (02 R27, 11 "Zone rule"): each yes-or-no byte
0 or 1; a CHAINAGE key with both ends up to 99,999,999 and in order, or a KIND key with a kind; a max lift up to 1500
where one is present; a reduction up to 50 percent; insertions absent, 1 or 2. -/
def RuleStored (r : WireRule) (z : ZoneRule) : Prop :=
  r.enabled = boolByte z.enabled
    ∧ ((r.keyType = 0 ∧ r.lo.toNat ≤ r.hi.toNat ∧ r.hi.toNat ≤ 99999999
          ∧ z.key = .chainage r.lo.toNat r.hi.toNat)
        ∨ (r.keyType = 1 ∧ ∃ k : SleeperKind, k.code = r.kind ∧ z.key = .kind k))
    ∧ z.forbid = r.forbid
    ∧ ((r.maxLiftPresent = 0 ∧ z.maxLift = none)
        ∨ (r.maxLiftPresent = 1 ∧ r.maxLift.toNat ≤ 1500 ∧ z.maxLift = some (r.maxLift.toNat : Int)))
    ∧ r.shiftInhibit = boolByte z.shiftInhibit
    ∧ r.reduction.toNat ≤ 50 ∧ z.reduction = r.reduction.toNat
    ∧ ((r.insertions = 0 ∧ z.insertions = none) ∨ (r.insertions = 1 ∧ z.insertions = some 1)
        ∨ (r.insertions = 2 ∧ z.insertions = some 2))
    ∧ r.confirm = boolByte z.confirm ∧ r.skip = boolByte z.skip

/-- The 21 bytes of a stored rule (11 "Zone rule"): the fields that do not belong to the key type, and an absent max
lift, read 0. -/
def ruleLayout (z : ZoneRule) : List Byte :=
  let flag := fun b : Bool => (if b then 1 else 0 : Byte)
  (flag z.enabled :: match z.key with
    | .chainage lo hi => 0 :: longBytes (BitVec.ofInt 32 lo) ++ longBytes (BitVec.ofInt 32 hi) ++ [0]
    | .kind k => 1 :: longBytes 0 ++ longBytes 0 ++ [kindCode k])
  ++ wordBytes z.forbid
  ++ (match z.maxLift with
    | some m => 1 :: wordBytes (BitVec.ofInt 16 m)
    | none => 0 :: wordBytes 0)
  ++ [flag z.shiftInhibit, BitVec.ofInt 8 z.reduction, BitVec.ofNat 8 (z.insertions.getD 0), flag z.confirm,
    flag z.skip]

/-- WRITE_RULE, READ_RULE, CLEAR_RULES and SET_MANUAL_MASK (02 R27, R29, R30, R41). READ_RULE answers the slot and the
21 bytes of 11 "Zone rule". -/
def Obligations.RuleTableRequests : Prop :=
  (∀ (rule : WireRule) (z : ZoneRule), validateRule? rule = some z ↔ RuleStored rule z) ∧
  ∀ (s : State) (tag slot : Byte) (rule : WireRule) (mask : TineMask), s.linkReady →
    (∀ z : ZoneRule, slot.toNat < 32 → validateRule? rule = some z →
      exec (.writeRule tag slot rule) s
        = .next (State.answered ⟨tag, .writeRule slot rule⟩ (.plain .ok)
            (s.setRules (s.rules.set slot.toNat z))))
    ∧ (32 ≤ slot.toNat ∨ validateRule? rule = none →
        exec (.writeRule tag slot rule) s
          = .next (State.answered ⟨tag, .writeRule slot rule⟩ (.plain .badValue) s))
    ∧ (∀ z : ZoneRule, slot.toNat < 32 → s.rules[slot.toNat]? = some z → RuleStored rule z →
        exec (.readRule tag slot) s
          = .next (State.answered ⟨tag, .readRule slot⟩ ⟨.ok, slot :: ruleLayout z⟩ s))
    ∧ (∀ z : ZoneRule, slot.toNat < 32 → s.rules[slot.toNat]? = some z →
        ∃ bytes : List Byte, exec (.readRule tag slot) s
          = .next (State.answered ⟨tag, .readRule slot⟩ ⟨.ok, slot :: bytes⟩ s))
    ∧ (32 ≤ slot.toNat →
        exec (.readRule tag slot) s
          = .next (State.answered ⟨tag, .readRule slot⟩ (.plain .badValue) s))
    ∧ exec (.clearRules tag) s
        = .next (State.answered ⟨tag, .clearRules⟩ (.plain .ok)
            (s.setRules (List.replicate 32
              ⟨false, .chainage 0 0, 0, none, false, 0, none, false, false⟩)))
    ∧ exec (.setManualMask tag mask) s
        = .next (State.answered ⟨tag, .setManualMask mask⟩ (.plain .ok)
            (s.setManualMask (if mask = 0 then none else some mask)))

/-- The first slot whose rule passes a test, none where no rule does (02 R31). -/
def FirstMatch (rules : List ZoneRule) (test : ZoneRule → Prop) : Option Nat → Prop
  | none => ∀ (j : Nat) (r : ZoneRule), rules[j]? = some r → ¬ test r
  | some i => (∃ r : ZoneRule, rules[i]? = some r ∧ test r)
      ∧ ∀ (j : Nat) (r : ZoneRule), j < i → rules[j]? = some r → ¬ test r

/-- The result of the rule scan (02 R31 to R33): the chainage match and the kind match are the first enabled rules of
their key type that match the record. With two matches the forbid masks join, the smaller max lift present holds, a yes
of either holds, and the higher-numbered slot gives the reduction and the insertions, which fall back to the other;
one match gives its own settings; none gives the settings of no rule. -/
def RulesScanned (rules : List ZoneRule) (x : SleeperRecord) (z : RuleResult) : Prop :=
  FirstMatch rules (fun r => r.enabled = true
      ∧ ∃ lo hi : Int, r.key = .chainage lo hi ∧ lo ≤ x.chainage ∧ x.chainage ≤ hi) z.chainageSlot
    ∧ FirstMatch rules (fun r => r.enabled = true ∧ r.key = .kind x.kind) z.kindSlot
    ∧ match z.chainageSlot, z.kindSlot with
      | none, none => z = ⟨none, none, 0, none, false, 0, none, false, false⟩
      | some i, none => ∀ r, rules[i]? = some r →
          z = ⟨some i, none, r.forbid, r.maxLift, r.shiftInhibit, r.reduction, r.insertions, r.confirm, r.skip⟩
      | none, some k => ∀ r, rules[k]? = some r →
          z = ⟨none, some k, r.forbid, r.maxLift, r.shiftInhibit, r.reduction, r.insertions, r.confirm, r.skip⟩
      | some i, some k => ∀ a b : ZoneRule, rules[i]? = some a → rules[k]? = some b →
          let high := if i < k then b else a
          let low := if i < k then a else b
          z.forbid = a.forbid ||| b.forbid
            ∧ z.maxLift = (match a.maxLift, b.maxLift with
              | some m, some n => some (min m n)
              | some m, none => some m
              | none, n => n)
            ∧ (z.shiftInhibit = true ↔ a.shiftInhibit = true ∨ b.shiftInhibit = true)
            ∧ z.reduction = high.reduction
            ∧ z.insertions = (if high.insertions = none then low.insertions else high.insertions)
            ∧ (z.confirm = true ↔ a.confirm = true ∨ b.confirm = true)
            ∧ (z.skip = true ↔ a.skip = true ∨ b.skip = true)

/-- A context (02 R31 to R40): the rule scan's result; the max lift, of MAX_LIFT and the rule's the smaller, and the
shift limit, SHIFT_LIMIT or 0 under inhibit (02 R36); pressure never below 40 bar (02 R37); the insertions of the rule
or else of the parameter, skip and confirm (02 R38); the enabled arms, all but the obstacles and, without a manual mask,
the forbidden ones, with it those of the mask less the obstacles (02 R39); the engaged heads and the lateral targets
(02 R40, 01 R12); the cycle parameters sampled (02 R35); the detection outcome and, for a match, the drift, none for a
retamp (03 R61); the flags of the admission (05 R93); and the front values, held ones where the front is held (01 R18,
R19, R22). -/
def Obligations.ContextKeepsSafetyLimits : Prop :=
  ∀ (s : State) (record : SleeperRecord) (pos : Pos) (kind : AdmissionKind) (front : FrontResult),
    let c := formContext s record pos kind front
    RulesScanned s.rules record c.rule
    ∧ c.record = record ∧ c.pos = pos ∧ c.kind = kind ∧ c.frontOutcome = front.outcome
    ∧ (front.outcome = .held → c.eF = s.computer.eF ∧ c.eFv = s.computer.eFv)
    ∧ (front.outcome ≠ .held → c.eF = front.eF ∧ c.eFv = front.eFv)
    ∧ (∀ n, c.rule.insertions = some n → c.insertions = n)
    ∧ (c.rule.insertions = none → c.insertions = s.params.insertions.toNat)
    ∧ 40 ≤ c.squeezePressure
    ∧ (∀ i k : Fin 4, armIn c.enabled i k = true ↔ armIn record.obstacles i k = false
        ∧ match s.manualMask with
          | some m => armIn m i k = true
          | none => armIn c.rule.forbid i k = false)
    ∧ (∀ i : Fin 4, c.engaged i = true ↔ ∃ k : Fin 4, armIn c.enabled i k = true)
    ∧ (∀ l, c.rule.maxLift = some l → c.maxLift = min s.params.maxLift l)
    ∧ (c.rule.maxLift = none → c.maxLift = s.params.maxLift)
    ∧ c.shiftLimit = (if c.rule.shiftInhibit then 0 else s.params.shiftLimit)
    ∧ c.lateral = lateralTargets record.heads
    ∧ c.cycle = { settleFrames := s.params.settleFrames.toNat, deadband := s.params.deadband
                  correctionTime := s.params.correctionTime, clampTime := s.params.clampTime
                  squeezeTime := s.params.squeezeTime, penetrationTime := s.params.penetrationTime
                  penetrationDepth := s.params.penetrationDepth, traverseTime := s.params.traverseTime
                  tiltTime := s.params.tiltTime, baseLift := s.params.baseLift, slopeLimit := s.params.slopeLimit }
    ∧ c.detection = (if kind = .retamp then none else s.chainage.move.outcome)
    ∧ c.drift = (if kind ≠ .retamp ∧ s.chainage.move.outcome = some .matched then s.chainage.move.drift else none)
    ∧ c.flags = (match front.outcome with
        | .bracketed => 0
        | .held => 0x0001
        | .beyondEnd => 0x0002)
        ||| (if c.detection = some .missed then 0x1000 else 0)
    ∧ c.settled = none ∧ c.correction = none ∧ c.achieved = none ∧ c.residual = none
    ∧ (c.skip = true ↔ record.skip = true ∨ c.rule.skip = true ∨ s.seq.skipPending = true)
    ∧ (c.confirm = true ↔ record.confirm = true ∨ c.rule.confirm = true)

/-! ## Chainage and the travel line (03) -/

/-- Each odometer count moves the running chainage by 1 mm in every state of the part (03 R44); SET_CHAINAGE
sets it in range while no travel demand is active (03 R45). That a value out of range is BAD_VALUE even while a
demand is active is the model's reading, log entry 27. -/
def Obligations.ChainageCountedAndSet : Prop :=
  ∀ (s : State) (tag : Byte) (value : BitVec 32),
    (s.resetLow = false →
      exec (.odometerCount true) s
          = .next (s.setChainage { s.chainage with running := s.chainage.running + 1 })
        ∧ exec (.odometerCount false) s
          = .next (s.setChainage { s.chainage with running := s.chainage.running - 1 }))
    ∧ (s.linkReady →
        let r : Request := ⟨tag, .setChainage value⟩
        (99999999 < value.toNat →
          exec (.setChainage tag value) s = .next (State.answered r (.plain .badValue) s))
        ∧ (value.toNat ≤ 99999999 → s.chainage.move.demandActive = true →
            exec (.setChainage tag value) s = .next (State.answered r (.plain .wrongState) s))
        ∧ (value.toNat ≤ 99999999 → s.chainage.move.demandActive = false →
            exec (.setChainage tag value) s
              = .next (State.answered r (.plain .ok)
                  (s.setChainage { s.chainage with running := value.toNat }))))

/-- A detection (03 R56 to R58): with no demand active it is dropped; the first within the drift tolerance
corrects the plan offset and the target and sends a REVISE; one outside it is counted spurious; any after a
match is dropped. -/
def Obligations.DetectionMatchesOrIsSpurious : Prop :=
  ∀ s : State, s.resetLow = false →
    (s.chainage.move.demandActive = false → exec .detection s = .next s)
    ∧ ∀ r : SleeperRecord, s.plan.workheadRecord = some r → s.chainage.move.demandActive = true →
      let drift := s.chainage.running + s.params.detectorLead - (r.chainage + s.chainage.offset)
      let target := r.chainage + (s.chainage.offset + drift)
      (s.chainage.move.drift.isSome = true → exec .detection s = .next s)
      ∧ (s.chainage.move.drift = none → -s.params.driftTolerance ≤ drift →
          drift ≤ s.params.driftTolerance →
          exec .detection s
            = .next (s.setChainage
                { s.chainage with
                  offset := s.chainage.offset + drift
                  move := { s.chainage.move with target := target, drift := some drift }
                  line := some (.revise (target - s.chainage.running)) }))
      ∧ (s.chainage.move.drift = none →
          (drift < -s.params.driftTolerance ∨ s.params.driftTolerance < drift) →
          exec .detection s = .next (s.setCounters (s.counters.bump .detectionsSpurious)))

/-- What the record under the workhead gives when the move to it ends within the stop tolerance: POSITIONED,
with MATCHED, EXEMPT or MISSED judged once, the miss counted, and the consecutive-miss count moved (03 R54,
R59, R60). -/
def judgedState (s : State) (o : DetectionOutcome) : State :=
  { s with
    chainage := { s.chainage with
      move := { s.chainage.move with state := .positioned, outcome := some o, timer := none } }
    counters :=
      if s.chainage.move.outcome = none ∧ o = .missed then s.counters.bump .detectionsMissed
      else s.counters
    seq := { s.seq with
      missCount :=
        match o with
        | .matched => 0
        | .missed => min 3 (s.seq.missCount + 1)
        | .exempt => s.seq.missCount } }

/-- HALTED and the index timer (03 R50 to R54, R59, R60): a first stop outside the tolerance sends the one
correction move; a second one, and an expiry, are HOLD(POSITION_FAULT); a stop within the tolerance positions
the record and makes its admission. With no demand active a HALTED is dropped in every state of the sequencer, IDLE and
ENDED among them, and the index timer has no expiry. That the miss count stays at 3 is the model's reading, log entry
28. -/
def Obligations.StopOfTheDriveJudged : Prop :=
  ∀ s : State, s.resetLow = false →
    let error := s.chainage.running - s.chainage.move.target
    let within := -s.chainage.move.stopTolerance ≤ error ∧ error ≤ s.chainage.move.stopTolerance
    let faulted := fun line : Option TravelDemand =>
      { s with
        chainage := { s.chainage with
          move := { s.chainage.move with state := .faulted, timer := none }, line := line }
        seq := { s.seq with state := .hold, hold := some .positionFault }
        latches := s.latches ||| 0x01 }
    (∀ r : SleeperRecord, s.plan.workheadRecord = some r → s.chainage.move.demandActive = true → within →
      ∃ t, exec .halted s = .next t
        ∧ ∀ o : DetectionOutcome,
          (match s.chainage.move.outcome with
            | some before => o = before
            | none =>
              (s.chainage.move.drift.isSome = true ∧ o = .matched)
                ∨ (s.chainage.move.drift = none ∧ r.noDetect = true ∧ o = .exempt)
                ∨ (s.chainage.move.drift = none ∧ r.noDetect = false ∧ o = .missed)) →
          t.reportOf (followAttention s (settle (admitSleeper (judgedState s o)))))
    ∧ (s.chainage.move.state = .firstMove → ¬ within → s.seq.state = .indexing →
        s.lining.state = .isOpen → s.lining.releaseAfterHeads = false →
        exec .halted s
          = .next (s.setChainage
              { s.chainage with
                move := { s.chainage.move with
                  state := .correctionMove, stopTolerance := s.params.stopTolerance
                  timer := some s.params.indexTime }
                line := some (.move (-error)) }))
    ∧ (s.chainage.move.state = .correctionMove → ¬ within → s.lining.releaseAfterHeads = false →
        s.seq.state = .indexing →
        ∃ t, exec .halted s = .next t ∧ t.reportOf (faulted s.chainage.line))
    ∧ (s.chainage.move.demandActive = true → s.chainage.move.timer.isSome = true →
        s.seq.state = .indexing →
        ∃ t, exec .indexTimerExpiry s = .next t ∧ t.reportOf (faulted (some .cancel)))
    ∧ (s.chainage.move.demandActive = false →
        exec .indexTimerExpiry s = .next s
        ∧ (s.seq.state ≠ .indexing → s.seq.state ≠ .correcting → s.seq.state ≠ .tamping →
            s.lining.releaseAfterHeads = false ∨ (∃ j : Fin 4, s.lining.awaited.get j = true) →
            exec .halted s = .next s)
        ∧ (settle s = s → exec .halted s = .next s))

/-! ## The run and its requests (06) -/

/-- START_RUN taken (06 R97, R98, 01 R14, 03 R49): every order-fault flag cleared, the workhead on the starting record,
its page ACTIVE, and then the front computed with no earlier position; carry, offset and both consecutive counts 0,
INDEXING, and the first MOVE sent at once, also before the first axis frame after a reset (06 R99). What the front
search does to the order-fault flags is the model's reading, log entry 26. -/
def Obligations.StartRunBeginsIndexing : Prop :=
  ∀ (s : State) (tag page index : Byte) (n : Fin 4) (r : SleeperRecord), s.linkReady → s.awaitLaw →
    s.seq.state = .idle ∨ s.seq.state = .ended → s.stop.first = none → s.inputs.chainClosed = true →
    s.lining.state = .isOpen → (∀ i : Fin 4, (s.heads.get i).state = .parked) →
    page.toNat = n.val → (s.plan.page n).state = .ready → (s.plan.page n).at? index.toNat = some r →
    r.chainage - s.chainage.running ≤ 3000 → s.chainage.running - r.chainage ≤ 3000 →
    let plan := s.plan.startRun ⟨n, index.toNat⟩ s.params.chordFront
    exec (.startRun tag page index) s
        = .next (State.answered ⟨tag, .startRun page index⟩ (.plain .ok)
            { s with
              plan := plan
              computer := ⟨0, 0, 0, 0, 0, 0⟩
              chainage :=
                { running := s.chainage.running
                  offset := 0
                  move := ⟨.firstMove, r.chainage, none, none, s.params.stopTolerance, some s.params.indexTime⟩
                  line := some (.move (r.chainage - s.chainage.running)) }
              seq := { s.seq with
                state := .indexing, hold := none, kind := .normal, pausePending := false
                skipPending := false, retained := none, advanceOwed := false, resumeAction := none
                missCount := 0, degradedCount := 0 }
              attention := ⟨.running, s.params.attentionPeriod⟩ })
      ∧ plan.workhead = some ⟨n, index.toNat⟩ ∧ (plan.page n).state = .active
      ∧ plan.workheadRecord = some r
      ∧ (let w : Pos := ⟨n, index.toNat⟩
        let placed : PlanStore :=
          { pages := .ofFn fun m : Fin 4 => { s.plan.page m with
              orderFault := false, state := if m = n then .active else (s.plan.page m).state }
            workhead := some w, front := none }
        plan = (placed.computeFront s.params.chordFront).1
          ∧ ((∀ m : Fin 4, (s.plan.page m).workable = true → (s.plan.page m).whole) → 0 ≤ s.params.chordFront →
              FrontComputed placed w r s.params.chordFront))
      ∧ ∀ (m : Fin 4) (i : Nat), (plan.page m).at? i = (s.plan.page m).at? i

/-- PAUSE is held pending from INDEXING to RELEASING (06 R110); it and the other requests of the run are
refused with WRONG_STATE, nothing changed, outside the states that take them (06 R110 to R116); START_RUN is
refused by its checks in their order (06 R97). -/
def Obligations.RunRequestsByState : Prop :=
  ∀ (s : State) (tag page index : Byte), s.linkReady →
    let refused := fun call => Host.Outcome.next (ρ := Refusal) (φ := Fault)
      (State.answered ⟨tag, call⟩ (.plain .wrongState) s)
    let inRun := s.seq.state = .indexing ∨ s.seq.state = .measuring ∨ s.seq.state = .correcting
      ∨ s.seq.state = .tamping ∨ s.seq.state = .releasing
    let start := fun code =>
      exec (.startRun tag page index) s
        = .next (State.answered ⟨tag, .startRun page index⟩ (.plain code) s)
    let mayStart := (s.seq.state = .idle ∨ s.seq.state = .ended) ∧ s.stop.first = none
      ∧ s.inputs.chainClosed = true ∧ s.lining.state = .isOpen
      ∧ ∀ i : Fin 4, (s.heads.get i).state = .parked
    (inRun → exec (.pause tag) s
      = .next (State.answered ⟨tag, .pause⟩ (.plain .ok)
          (s.setSeq { s.seq with pausePending := true })))
    ∧ (¬ inRun → exec (.pause tag) s = refused .pause)
    ∧ (s.seq.state ≠ .hold → s.seq.state ≠ .paused → exec (.resume tag) s = refused .resume)
    ∧ (s.seq.state = .hold → s.seq.hold = some .planExhausted ∨ s.seq.hold = some .resultFull
        ∨ s.seq.hold = some .confirmWait → exec (.resume tag) s = refused .resume)
    ∧ (s.seq.state ≠ .hold ∨ s.seq.hold ≠ some .confirmWait → exec (.confirm tag) s = refused .confirm)
    ∧ (s.seq.state ≠ .indexing → s.seq.state ≠ .hold → s.seq.state ≠ .paused →
        exec (.skipSleeper tag) s = refused .skipSleeper)
    ∧ (s.seq.state ≠ .measuring → s.seq.state ≠ .correcting → s.seq.state ≠ .tamping →
        exec (.abortSleeper tag) s = refused .abortSleeper)
    ∧ (s.seq.state ≠ .paused → exec (.retamp tag) s = refused .retamp)
    ∧ (s.seq.state = .idle → exec (.stopRun tag) s = refused .stopRun)
    ∧ (¬ mayStart → start .wrongState)
    ∧ (mayStart → 3 < page.toNat → start .badValue)
    ∧ ∀ n : Fin 4, mayStart → page.toNat = n.val →
      ((s.plan.page n).state ≠ .ready → start .pageState)
      ∧ ((s.plan.page n).state = .ready → (s.plan.page n).at? index.toNat = none → start .badValue)
      ∧ ∀ r : SleeperRecord, (s.plan.page n).state = .ready → (s.plan.page n).at? index.toNat = some r →
          3000 < r.chainage - s.chainage.running ∨ 3000 < s.chainage.running - r.chainage →
          start .badValue

/-- RESUME and RETAMP taken (06 R111, R115): what the sequencer does by the hold reason or the resume action.
READMIT admits a POSITIONED record at once, as a RETAMP where an advance is owed and as a READMISSION elsewhere, and
a FAULTED or CANCELLED record enters INDEXING (03 R55), where with the unit OPEN and the heads PARKED its move starts
in the same event. That a record whose move has not begun (NO_MOVE) enters INDEXING too is the model's reading, log
entry 16; that the attention timer is reloaded before the action is its choice, log entry 14. -/
def Obligations.ResumeByReason : Prop :=
  ∀ (s : State) (tag : Byte), s.linkReady →
    let ends := fun (call : Call) (c : Instr) (x : State) =>
      ∃ t, exec c s = .next t ∧ t.reportOf (s.moved ⟨tag, call⟩ (.plain .ok) (settle x))
    let resumes := ends .resume (.resume tag)
    let y := activity s
    let readmitted := fun x : State =>
      let q := { x.seq with kind := if x.seq.advanceOwed then .retamp else .readmission, resumeAction := none }
      if x.chainage.move.state = .positioned then admitSleeper (x.setSeq q)
      else x.setSeq { q with state := .indexing, hold := none }
    let clampFault := s.seq.hold = some .clampFault ∨ s.seq.hold = some .stopCleared
    (s.seq.state = .paused → resumes (advanceRun (y.setSeq { s.seq with resumeAction := none })))
    ∧ (s.seq.state = .hold → s.seq.hold = some .attentionLapse ∨ s.seq.hold = some .aborted
        ∨ s.seq.hold = some .positionFault → resumes (readmitted y))
    ∧ (s.seq.state = .hold → s.seq.hold = some .detectionLost →
        resumes (readmitted (y.setSeq { s.seq with missCount := 0 })))
    ∧ (s.seq.state = .hold → s.seq.hold = some .measureLost →
        resumes (readmitted (y.setSeq { s.seq with degradedCount := 0 })))
    ∧ (s.seq.state = .hold → clampFault → s.seq.resumeAction = some .readmit → resumes (readmitted y))
    ∧ (s.seq.state = .hold → clampFault → s.seq.resumeAction = some .advance →
        resumes (advanceRun (y.setSeq { s.seq with resumeAction := none })))
    ∧ (s.seq.state = .hold → clampFault → s.seq.resumeAction = some .retryRelease →
        resumes (releaseUnit (y.setSeq
          { s.seq with state := .releasing, hold := none, resumeAction := none })))
    ∧ (s.seq.state = .paused →
        ends .retamp (.retamp tag) (admitSleeper (s.setSeq { s.seq with kind := .retamp })))
    ∧ ∀ r : SleeperRecord, s.seq.state = .hold → s.seq.hold = some .positionFault →
        s.chainage.move.state = .faulted → s.lining.state = .isOpen → s.awaitLaw →
        (∀ i : Fin 4, (s.heads.get i).state = .parked) → s.plan.workheadRecord = some r →
        ∃ t, exec (.resume tag) s = .next t ∧ t.seq.state = .indexing ∧ t.seq.hold = none
          ∧ t.seq.kind = (if s.seq.advanceOwed then .retamp else .readmission)
          ∧ t.chainage.move.state = .firstMove
          ∧ t.chainage.move.target = r.chainage + s.chainage.offset
          ∧ t.chainage.line = some (.move (r.chainage + s.chainage.offset - s.chainage.running))
          ∧ t.chainage.running = s.chainage.running ∧ t.plan = s.plan ∧ t.heads = s.heads
          ∧ t.lining = s.lining ∧ t.results = s.results ∧ t.keepsStores s

/-- Where a track setpoint is held by an order to the unit: the sensed position of the last axis frame, and where it
stands before the first one after a reset (08 R139, R149, R151). -/
def heldTrack (s : State) : Track Int :=
  if s.awaitFrame then s.lining.setpoint else s.inputs.axisFrame.sensed.track

/-- Every axis under way HALTED, every track setpoint held (08 R149, R151). -/
def axesHalted (held : Track Int) (u : LiningUnit) : LiningUnit :=
  { u with
    axis := u.axis.map fun a => if a = .waiting ∨ a = .moving then .halted else a
    setpoint := held }

/-- The release order (08 R149): the axes HALTED, both marks cleared, all three clamps commanded OPEN, and OPEN at
once where every clamp is sensed open, else RELEASING with the clamp timer loaded. -/
def releaseOrder (i : Inputs) (held : Track Int) (u : LiningUnit) : LiningUnit :=
  let isOpen := i.clampClosed = ⟨false, false, false⟩
  { axesHalted held u with
    state := if isOpen then .isOpen else .releasing
    frozen := false, releaseAfterHeads := false, correctionTimer := none
    command := ⟨false, false, false⟩
    clampTimer := if isOpen then none else some u.settings.clampTime }

/-- The abort order (08 R151), by the state of the unit: a clamp pending cancelled, the timer of CLAMPING or of
APPROACHING stopped, an approach HALTED, and the release left to the heads `waiting`; OPEN and RELEASING stay. -/
def abortOrder (held : Track Int) (waiting : Quad Bool) (u : LiningUnit) : LiningUnit :=
  let v := { u with clampPending := false }
  let later := fun x : LiningUnit => { x with releaseAfterHeads := true, awaited := waiting }
  match u.state with
  | .isOpen => v
  | .releasing => v
  | .clamping => later { v with clampTimer := none }
  | .clamped => later v
  | .approaching => later { axesHalted held v with correctionTimer := none }
  | .holding => later v

/-- The order of STOP_RUN (06 R116, 08 R151, R152): the abort order, and a unit that releases or is frozen is
released once the heads `waiting` are PARKED (log entry 17). -/
def stopRunOrder (held : Track Int) (waiting : Quad Bool) (u : LiningUnit) : LiningUnit :=
  let v := abortOrder held waiting u
  if u.state = .releasing ∨ u.frozen = true then { v with releaseAfterHeads := true, awaited := waiting } else v

/-- The unit after an abort order that asks no release of it (08 R151): a clamp pending cancelled, and a head that parks
as it goes out, one in PREPARING (07 R135), no longer awaited. -/
def unitKept (s : State) : LiningUnit :=
  { s.lining with
    clampPending := false
    awaited := .ofFn fun i => s.lining.awaited.get i && decide ((s.heads.get i).state ≠ .preparing) }

/-- CONFIRM in HOLD(CONFIRM_WAIT) (06 R112, R102, 08 R140, 07 R125): MEASURING, the clamp order and the prepare orders.
A unit that is OPEN commands the clamps CLOSE and opens the PRE window at once where every clamp concerned is sensed
closed. Any other sets clamp pending: in RELEASING it releases again, in CLAMPING, CLAMPED, APPROACHING or HOLDING it
stops and releases once every head is PARKED, at once where every head is; a release that finds every clamp sensed open
is OPEN at once and clamps. Each engaged head is told to prepare: a PARKED one takes the order, any other holds it
pending. That a PARKED head holds it too before the first axis frame after a reset is the model's choice, log entry
11; the set of heads a release waits for is its reading, log entry 13. -/
def Obligations.ConfirmStartsMeasuring : Prop :=
  ∀ (s : State) (tag : Byte) (c : Context), s.linkReady → s.seq.state = .hold →
    s.seq.hold = some .confirmWait → s.seq.context = some c →
    s.measuring = .noWindow → (s.lining.state = .isOpen ∨ s.lining.state = .releasing →
      s.lining.releaseAfterHeads = false) →
    let closed := s.inputs.clampsClosed c.record.branch
    let ordered := { s.lining with
      settings := ⟨c.cycle.deadband, c.cycle.correctionTime, c.cycle.clampTime⟩
      hookConcerned := c.record.branch
      frozen := false
      approach := ⟨none, false, false⟩ }
    let clamped := fun u : LiningUnit => { u with
      state := if closed then .clamped else .clamping
      command := ⟨true, true, c.record.branch⟩
      clampTimer := if closed then none else some c.cycle.clampTime
      clampPending := false }
    let released := fun u : LiningUnit =>
      let v := releaseOrder s.inputs (heldTrack s) u
      if v.state = .isOpen then clamped v else v
    let waiting := s.heads.map fun h => decide (h.state ≠ .parked)
    let later := { abortOrder (heldTrack s) waiting ordered with clampPending := true }
    ∃ t, exec (.confirm tag) s = .next t
      ∧ t.seq = { s.seq with state := .measuring, hold := none }
      ∧ (s.lining.state = .isOpen → t.lining = clamped ordered
          ∧ t.measuring = (if closed then .window (.fresh .pre c) else .noWindow))
      ∧ (s.lining.state = .releasing →
          t.lining = released { ordered with clampPending := true } ∧ t.measuring = .noWindow)
      ∧ (s.lining.state ≠ .isOpen → s.lining.state ≠ .releasing →
          t.lining = (if waiting.anyTrue then later else released later) ∧ t.measuring = .noWindow)
      ∧ (∀ i : Fin 4, c.engaged i = false → t.heads.get i = s.heads.get i)
      ∧ (∀ i : Fin 4, c.engaged i = true → (s.heads.get i).state ≠ .parked ∨ s.awaitFrame = true →
          t.heads.get i = { s.heads.get i with preparePending := true })
      ∧ (∀ i : Fin 4, c.engaged i = true → (s.heads.get i).state = .parked → s.awaitFrame = false →
          t.heads.get i = { s.heads.get i with
            state := .preparing
            traverseTimer := some c.cycle.traverseTime
            tiltTimer := some c.cycle.tiltTime
            preparePending := false
            tiltDue := tiltsFor (armsOf c.enabled i)
            tilt := if s.inputs.raised.get i then (tiltsFor (armsOf c.enabled i)).map some
              else (s.heads.get i).tilt })
      ∧ t.plan = s.plan ∧ t.chainage = s.chainage ∧ t.computer = s.computer ∧ t.stop = s.stop
      ∧ t.results = s.results ∧ t.latches = s.latches ∧ t.counters = s.counters
      ∧ t.manualMask = s.manualMask ∧ t.keepsStores s

/-- SKIP_SLEEPER pends in INDEXING, PAUSED and every hold but CONFIRM_WAIT; there it records the sleeper
SKIPPED at once, and the run ends after the last record of an END page (06 R113, R108, 10 R167). That ENDED is entered
also while the unit is not OPEN is the model's choice, log entry 33. -/
def Obligations.SkipPendsOrRecords : Prop :=
  ∀ (s : State) (tag : Byte), s.linkReady →
    (s.seq.state = .indexing ∨ s.seq.state = .paused
        ∨ (s.seq.state = .hold ∧ s.seq.hold ≠ some .confirmWait) →
      exec (.skipSleeper tag) s
        = .next (State.answered ⟨tag, .skipSleeper⟩ (.plain .ok)
            (s.setSeq { s.seq with skipPending := true })))
    ∧ ∀ c : Context, s.seq.state = .hold → s.seq.hold = some .confirmWait → s.seq.context = some c →
        ∃ t, exec (.skipSleeper tag) s = .next t
          ∧ t.reportOf (s.moved ⟨tag, .skipSleeper⟩ (.plain .ok)
              (settle (afterRecording (recordSleeper .skipped s))))
          ∧ t.results = s.results ++ [formResult c s.heads .skipped]
          ∧ (formResult c s.heads .skipped).outcome = .skipped
          ∧ (formResult c s.heads .skipped).heads = .all4 ⟨.notEngaged, 0, 0, 0⟩
          ∧ t.seq.context = none ∧ t.seq.reservation = 0
          ∧ t.counters.get .sleepersSkipped = min 65535 (s.counters.get .sleepersSkipped + 1)
          ∧ (s.plan.atEnd = true → t.seq.state = .ended)
          ∧ (s.plan.atEnd = false → s.seq.pausePending = true → t.seq.state = .paused)

/-- A head that goes out (07 R135): a PARKED one only fixes its outcome, a PREPARING one parks, a READY one rises, one
in the ballast leaves it with the vibration off, one rising partway rises in full. ABORTED is the outcome of an
engaged head that had none. `k` is the head after it. -/
def GoesOut (e : HeadEnv) (h k : HeadRecord) : Prop :=
  let out := { h with outcome := if h.outcome = none then some .aborted else h.outcome, preparePending := false }
  match h.state with
  | .parked => k = if e.order.map HeadOrder.engaged = some true then out else { h with preparePending := false }
  | .preparing => k = { out with
      state := .parked, vibration := false
      verticalSet := if e.awaits then h.verticalSet else 0
      squeezeSet := if e.awaits then h.squeezeSet else 0
      traverseSet := if e.awaits then h.traverseSet else e.lateral
      traverseTimer := none, tiltTimer := none, penetrationTimer := none, squeezeTimer := none
      tiltDue := .all4 .tiltOut
      tilt := if e.raised then .all4 (some .tiltOut) else h.tilt }
  | .ready => k = { out with state := .rising .full }
  | .penetrating => k = { out with
      state := .rising .full, vibration := false, penetrationTimer := none, squeezeTimer := none }
  | .squeezing => k = { out with
      state := .opening, vibration := false, penetrationTimer := none, squeezeTimer := none }
  | .opening => k = out
  | .rising _ => k = { out with state := .rising .full }

/-- ABORT_SLEEPER (06 R114): the window discarded, the heads going out (07 R135), the sleeper recorded ABORTED,
HOLD(ABORTED), and the unit's abort order, with the release at once where no head is outside PARKED (08 R149,
R151). A unit RELEASING or OPEN loses a clamp pending and otherwise stands; of the heads it waits for, one that parks is
no longer awaited. That a release waits for a set of heads is the model's reading, log entry 13. -/
def Obligations.AbortRecordsSleeper : Prop :=
  ∀ (s : State) (tag : Byte) (c : Context), s.linkReady →
    s.seq.state = .measuring ∨ s.seq.state = .correcting ∨ s.seq.state = .tamping →
    s.seq.context = some c →
    ∃ t, exec (.abortSleeper tag) s = .next t
      ∧ t.seq = { s.seq with
          state := .hold, hold := some .aborted, context := none, reservation := 0
          retained := some c.record }
      ∧ t.measuring = .noWindow
      ∧ (∀ i : Fin 4, GoesOut (s.headEnv i) (s.heads.get i) (t.heads.get i))
      ∧ t.results = s.results ++ [formResult c t.heads .aborted]
      ∧ t.counters.get .sleepersAborted = min 65535 (s.counters.get .sleepersAborted + 1)
      ∧ t.latches.getLsbD 0 = true
      ∧ t.lining.clampPending = false
      ∧ (s.lining.state ≠ .isOpen → s.lining.state ≠ .releasing →
          let waiting := t.heads.map fun h => decide (h.state ≠ .parked)
          let u := abortOrder (heldTrack s) waiting s.lining
          t.lining = if waiting.anyTrue then u else releaseOrder s.inputs (heldTrack s) u)
      ∧ (s.lining.state = .isOpen ∨ s.lining.state = .releasing → s.lining.releaseAfterHeads = false →
          t.lining = unitKept s)
      ∧ t.plan = s.plan ∧ t.chainage = s.chainage ∧ t.computer = s.computer ∧ t.stop = s.stop
      ∧ t.manualMask = s.manualMask ∧ t.keepsStores s

/-- STOP_RUN (06 R116, 01 R25, 03 R63, 08 R151): any sleeper in flight recorded ABORTED, the travel demand
cancelled and its record cleared, every ACTIVE page READY, both pointers absent, the unit's abort order with the
release order of STOP_RUN, IDLE. A unit OPEN and not frozen loses a clamp pending and otherwise stands; a frozen one is
released in OPEN too. How the two orders join is the model's reading, log entry 17, and so is the set of heads a release
waits for, log entry 13. -/
def Obligations.StopRunReturnsToIdle : Prop :=
  ∀ (s : State) (tag : Byte), s.linkReady → s.seq.state ≠ .idle →
    ∃ t, exec (.stopRun tag) s = .next t
      ∧ t.seq = { s.seq with
          state := .idle, hold := none, context := none
          reservation := if s.seq.context.isSome then 0 else s.seq.reservation
          retained := none, pausePending := false, skipPending := false, advanceOwed := false
          resumeAction := none }
      ∧ (s.seq.context = none → t.results = s.results)
      ∧ (∀ c, s.seq.context = some c → t.results = s.results ++ [formResult c t.heads .aborted])
      ∧ t.chainage = { s.chainage with
          move := { s.chainage.move with
            state := .noMove, drift := none, outcome := none, timer := none }
          line := some .cancel }
      ∧ t.plan.workhead = none ∧ t.plan.front = none
      ∧ (∀ n : Fin 4, (s.plan.page n).state = .active →
          t.plan.page n = { s.plan.page n with state := .ready })
      ∧ (∀ n : Fin 4, (s.plan.page n).state ≠ .active → t.plan.page n = s.plan.page n)
      ∧ t.measuring = .noWindow
      ∧ (∀ i : Fin 4, GoesOut (s.headEnv i) (s.heads.get i) (t.heads.get i))
      ∧ t.lining.clampPending = false
      ∧ (s.lining.state ≠ .isOpen ∨ s.lining.frozen = true →
          let waiting := t.heads.map fun h => decide (h.state ≠ .parked)
          let u := stopRunOrder (heldTrack s) waiting s.lining
          t.lining = if waiting.anyTrue then u else releaseOrder s.inputs (heldTrack s) u)
      ∧ (s.lining.state = .isOpen → s.lining.frozen = false → s.lining.releaseAfterHeads = false →
          t.lining = unitKept s)
      ∧ (s.seq.state.attentive = true → t.attention.state = .disarmed)
      ∧ t.computer = s.computer ∧ t.stop = s.stop ∧ t.manualMask = s.manualMask ∧ t.keepsStores s

/-- CLEAR_STOP (09 R160, 06 R119): refused while the chain is open or the axis line silent; else the latch, its
further causes, the counts and the fault latches are cleared, and FAULT_STOP becomes HOLD(STOP_CLEARED). -/
def Obligations.ClearStopReleasesLatch : Prop :=
  ∀ (s : State) (tag : Byte), s.linkReady →
    let r : Request := ⟨tag, .clearStop⟩
    let x := { s with
      stop := { s.stop with first := none, further := 0 }, supervisor := { s.supervisor with count := .all16 0, latches := 0 } }
    (s.inputs.chainClosed = false ∨ s.stop.silent = true →
      exec (.clearStop tag) s = .next (State.answered r (.plain .wrongState) s))
    ∧ (s.inputs.chainClosed = true → s.stop.silent = false → s.stop.first = none →
        exec (.clearStop tag) s = .next (State.answered r (.plain .ok) s))
    ∧ (s.inputs.chainClosed = true → s.stop.silent = false → s.stop.first ≠ none →
        s.seq.state ≠ .faultStop →
        exec (.clearStop tag) s = .next (State.answered r (.plain .ok) x))
    ∧ (s.inputs.chainClosed = true → s.stop.silent = false → s.stop.first ≠ none →
        s.seq.state = .faultStop →
        ∃ t, exec (.clearStop tag) s = .next t
          ∧ t.reportOf (State.answered r (.plain .ok)
              { x with
                seq := { s.seq with state := .hold, hold := some .stopCleared }
                attention := ⟨.running, s.params.attentionPeriod⟩
                latches := s.latches ||| 0x01 }))

/-! ## The account of the work (10) -/

/-- RELEASE_RESULTS (10 R169): the n oldest records leave the queue, all of them with ADJUSTED where fewer
wait; in HOLD(RESULT_FULL) a release that removes a record retries the admission. That this admission comes before
the activity of the request, so that a lapse it would clear still holds, is the model's choice, log entry 14. -/
def Obligations.ReleasedResultsLeaveQueue : Prop :=
  ∀ (s : State) (tag n : Byte), s.linkReady →
    let r : Request := ⟨tag, .releaseResults n⟩
    let full := s.seq.state = .hold ∧ s.seq.hold = some .resultFull ∧ s.results ≠ []
    let y : Reply := if n.toNat ≤ s.results.length then ⟨.ok, [n]⟩
      else ⟨.adjusted, [BitVec.ofNat 8 s.results.length]⟩
    (n.toNat = 0 ∨ 32 < n.toNat →
      exec (.releaseResults tag n) s = .next (State.answered r (.plain .badValue) s))
    ∧ (1 ≤ n.toNat → n.toNat ≤ 32 → ¬ full →
        exec (.releaseResults tag n) s
          = .next (State.answered r y (s.setResults (s.results.drop n.toNat))))
    ∧ (1 ≤ n.toNat → n.toNat ≤ 32 → full →
        ∃ t, exec (.releaseResults tag n) s = .next t
          ∧ t.reportOf (s.moved r y (settle (admitSleeper (s.setResults (s.results.drop n.toNat))))))

/-- A pointer of the status body: its page and index, or page 0xFF and the index byte `absent`. -/
def pointerLayout (absent : Byte) : Option Pos → List Byte
  | none => [0xFF, absent]
  | some p => [BitVec.ofNat 8 p.page.val, BitVec.ofNat 8 p.index]

/-- The status body (10 R174, 11 "Status body"), with the index bytes `w` and `f` of absent pointers. -/
def statusLayout (s : State) (w f : Byte) : List Byte :=
  [codeIn [.idle, .indexing, .measuring, .correcting, .tamping, .releasing, .hold, .paused, .faultStop, .ended]
      s.seq.state,
    codeIn [none, some .planExhausted, some .resultFull, some .attentionLapse, some .detectionLost,
      some .measureLost, some .confirmWait, some .positionFault, some .clampFault, some .aborted,
      some .stopCleared] s.seq.hold,
    bitsByte [s.seq.pausePending, s.seq.skipPending, s.manualMask.isSome, s.stop.first.isSome,
      decide (s.supervisor.latches ≠ 0), !s.inputs.chainClosed, s.stop.silent],
    BitVec.ofNat 8 s.seq.missCount, BitVec.ofNat 8 s.seq.degradedCount]
  ++ wordBytes (s.manualMask.getD 0)
  ++ (match s.stop.first with
    | none => [0, 0]
    | some (.following a) => [1, BitVec.ofNat 8 a.number]
    | some .safetyChain => [2, 0]
    | some .axisLine => [3, 0]
    | some .attention => [4, 0])
  ++ [s.stop.further.setWidth 8] ++ wordBytes s.supervisor.latches
  ++ [codeIn [.disarmed, .running, .lapsedOnce] s.attention.state]
  ++ pointerLayout w s.plan.workhead ++ pointerLayout f s.plan.front
  ++ longBytes (BitVec.ofInt 32 s.chainage.running) ++ longBytes (BitVec.ofInt 32 s.chainage.offset)
  ++ ([0, 1, 2, 3].flatMap fun n : Fin 4 =>
    let p := s.plan.page n
    [codeIn [.empty, .loading, .ready, .active] p.state, BitVec.ofNat 8 p.count,
      bitsByte [p.endFlag, p.orderFault]])
  ++ [codeIn [.isOpen, .clamping, .clamped, .approaching, .holding, .releasing] s.lining.state]
  ++ ([0, 1, 2, 3].map fun i : Fin 4 =>
    codeIn [.parked, .preparing, .ready, .penetrating, .squeezing, .opening] (s.heads.get i).state)
  ++ [BitVec.ofNat 8 s.results.length, BitVec.ofNat 8 s.seq.reservation, s.latches]

/-- A channel group of a result record (11 "Result record"). -/
def groupLayout (g : Channels (Option Int)) : List Byte :=
  let values := [g.line, g.levelL, g.levelR, g.cross, g.levelB]
  bitsByte (values.map Option.isSome) :: values.flatMap fun v =>
    match v with
    | some x => wordBytes (BitVec.ofInt 16 x)
    | none => []

/-- A result record (10 R166, 11 "Result record"). -/
def resultLayout (r : ResultRecord) : List Byte :=
  let word := fun x : Int => wordBytes (BitVec.ofInt 16 x)
  BitVec.ofNat 8 (r.pos.page.val * 64 + r.pos.index) :: longBytes (BitVec.ofInt 32 r.chainage)
  ++ [codeIn [.tamped, .partly, .notTamped, .skipped, .skippedNoArms, .aborted] r.outcome,
    bitsByte [r.drift.isSome, r.commanded.isSome, (r.commanded.bind Commanded.lB).isSome, r.achieved.isSome,
      r.residual.isSome, r.retamp]]
  ++ wordBytes r.enabled
  ++ ([0, 1, 2, 3].flatMap fun i : Fin 4 =>
    let e := r.heads.get i
    let o := [HeadOutcome.notEngaged, .complete, .timeLimited, .struck, .tiltFault, .traverseFault, .aborted]
    BitVec.ofNat 8 (o.idxOf e.outcome * 16 + e.insertions) :: word e.depth ++ [BitVec.ofNat 8 (min 255 e.peak)])
  ++ wordBytes r.flags
  ++ (match r.drift with
    | some d => word d
    | none => [])
  ++ (match r.commanded with
    | some c => word c.lL ++ word c.lR ++ word c.s ++ (match c.lB with
      | some b => word b
      | none => [])
    | none => [])
  ++ (match r.achieved with
    | some g => groupLayout g
    | none => [])
  ++ (match r.residual with
    | some g => groupLayout g
    | none => [])

/-- A result record whose values its fields can carry. -/
def ResultFits (r : ResultRecord) : Prop :=
  let fits := fun v : Int => -32768 ≤ v ∧ v ≤ 32767
  let group := fun g : Channels (Option Int) => ∀ v, some v ∈ g.toList → fits v
  r.pos.index < 64 ∧ 0 ≤ r.chainage ∧ r.chainage ≤ 4294967295
    ∧ (∀ i : Fin 4, (r.heads.get i).insertions ≤ 15 ∧ 0 ≤ (r.heads.get i).depth ∧ (r.heads.get i).depth ≤ 65535)
    ∧ (∀ v, r.drift = some v → fits v)
    ∧ (∀ x, r.commanded = some x → fits x.lL ∧ fits x.lR ∧ fits x.s ∧ ∀ b, x.lB = some b → fits b)
    ∧ (∀ g, r.achieved = some g → group g) ∧ (∀ g, r.residual = some g → group g)

/-- READ_RESULTS, GET_STATUS, GET_COUNTERS and CLEAR_EVENTS (10 R168, R171, R174, R176): what each answers, byte for
byte in the layouts of 11 "Formats" where the values fit their fields, and the one thing two of them change. The index
byte of an absent pointer, and a value no field can carry, are free values, log entry 8. -/
def Obligations.AccountReadAndCleared : Prop :=
  ∀ (s : State) (tag n mask : Byte), s.linkReady →
    (n.toNat = 0 ∨ 4 < n.toNat →
      exec (.readResults tag n) s
        = .next (State.answered ⟨tag, .readResults n⟩ (.plain .badValue) s))
    ∧ (1 ≤ n.toNat → n.toNat ≤ 4 →
        ∃ bytes : List Byte, exec (.readResults tag n) s
            = .next (State.answered ⟨tag, .readResults n⟩
                ⟨.ok, BitVec.ofNat 8 (min n.toNat s.results.length) :: bytes⟩ s)
          ∧ ((∀ r ∈ s.results, ResultFits r) → bytes = (s.results.take n.toNat).flatMap resultLayout))
    ∧ (∃ bytes : List Byte, exec (.getStatus tag) s
          = .next (State.answered ⟨tag, .getStatus⟩ ⟨.ok, bytes⟩ s)
        ∧ ((∀ p : Pos, s.plan.workhead = some p ∨ s.plan.front = some p → p.index < 64) →
          -2147483648 ≤ s.chainage.running → s.chainage.running ≤ 2147483647 →
          -2147483648 ≤ s.chainage.offset → s.chainage.offset ≤ 2147483647 →
          ∃ w f : Byte, bytes = statusLayout s w f))
    ∧ (∃ bytes : List Byte,
        (s.counterLaw → bytes = [Counter.framesAccepted, .crcErrors, .lengthErrors, .gapErrors, .framingErrors,
          .queueFullRefusals, .reportsSuppressed, .sleepersTamped, .sleepersNotTamped, .sleepersSkipped,
          .sleepersAborted, .measureDegraded, .detectionsMissed, .detectionsSpurious, .followingFaults,
          .correctionsLimited, .headsStruck].flatMap fun k => wordBytes (BitVec.ofNat 16 (s.counters.get k)))
        ∧ (n = 0 → exec (.getCounters tag n) s
          = .next (State.answered ⟨tag, .getCounters n⟩ ⟨.ok, bytes⟩ s))
        ∧ (n = 1 → exec (.getCounters tag n) s
          = .next (State.answered ⟨tag, .getCounters n⟩ ⟨.ok, bytes⟩ (s.setCounters .zero))))
    ∧ (1 < n.toNat → exec (.getCounters tag n) s
        = .next (State.answered ⟨tag, .getCounters n⟩ (.plain .badValue) s))
    ∧ exec (.clearEvents tag mask) s
        = .next (State.answered ⟨tag, .clearEvents mask⟩ ⟨.ok, [s.latches &&& ~~~mask]⟩
            (s.setLatches (s.latches &&& ~~~mask)))

/-- A recording (06 R106, R107, 05 R94, 10 R165 to R170): the record joins at the newest end and the reservation
goes, the counter of the outcome rises (SLEEPERS_TAMPED for TAMPED and PARTIAL, SLEEPERS_NOT_TAMPED for NOT_TAMPED,
SLEEPERS_SKIPPED for SKIPPED and SKIPPED_NO_ARMS, SLEEPERS_ABORTED for ABORTED), RESULTS_WAITING and CORRECTION_LIMITED are set as due, and the carry takes the
commanded values exactly where the sleeper was tamped. That a head without an outcome is written ABORTED is the
model's reading, log entry 15. -/
def Obligations.RecordingEntersOneResult : Prop :=
  ∀ (s : State) (c : Context) (o : SleeperOutcome), s.seq.context = some c →
    let t := recordSleeper o s
    let limited := c.flags &&& 0x07C0 ≠ 0
    t.results = s.results ++ [formResult c s.heads o]
      ∧ t.seq = { s.seq with context := none, reservation := 0, retained := some c.record }
      ∧ t.latches = s.latches
          ||| (if s.params.resultsThreshold ≤ s.results.length + 1 then 0x10 else 0)
          ||| (if limited then 0x80 else 0)
      ∧ (∀ k : Counter, t.counters.get k
          = if (k = .sleepersTamped ∧ (o = .tamped ∨ o = .partly)) ∨ (k = .sleepersNotTamped ∧ o = .notTamped)
              ∨ (k = .sleepersSkipped ∧ (o = .skipped ∨ o = .skippedNoArms)) ∨ (k = .sleepersAborted ∧ o = .aborted)
              ∨ (k = .correctionsLimited ∧ limited) then min 65535 (s.counters.get k + 1)
            else s.counters.get k)
      ∧ (∀ x : Correction, c.correction = some x → o = .tamped ∨ o = .partly →
          t.computer = { s.computer with
            cL := x.lL, cR := x.lR, cS := x.s, cB := x.lB.getD s.computer.cB })
      ∧ (c.correction = none ∨ (o ≠ .tamped ∧ o ≠ .partly) → t.computer = s.computer)
      ∧ (let e := formResult c s.heads o
        e.pos = c.pos ∧ e.chainage = c.record.chainage ∧ e.outcome = o ∧ e.enabled = c.enabled
          ∧ e.flags = c.flags ∧ e.drift = c.drift ∧ e.achieved = c.achieved ∧ e.residual = c.residual
          ∧ (e.retamp = true ↔ c.kind = .retamp)
          ∧ e.commanded = c.correction.map (fun x => ⟨x.lL, x.lR, x.s, x.lB⟩)
          ∧ ∀ i : Fin 4, e.heads.get i = if o = .skipped ∨ o = .skippedNoArms then ⟨.notEngaged, 0, 0, 0⟩
              else ⟨(s.heads.get i).outcome.getD .aborted, (s.heads.get i).begun, (s.heads.get i).depth,
                (s.heads.get i).peak⟩)
      ∧ t.plan = s.plan ∧ t.chainage = s.chainage ∧ t.measuring = s.measuring ∧ t.heads = s.heads
      ∧ t.lining = s.lining ∧ t.stop = s.stop ∧ t.attention = s.attention ∧ t.link = s.link
      ∧ t.manualMask = s.manualMask ∧ t.keepsStores s

/-- The outcome of a sleeper that reached TAMPING (06 R107): TAMPED when every engaged head completed, NOT_TAMPED
when none did, PARTIAL otherwise. -/
def Obligations.OutcomeSelectedFromHeads : Prop :=
  ∀ (c : Context) (heads : Quad HeadRecord), (∃ i : Fin 4, c.engaged i = true) →
    let done := fun i => (heads.get i).outcome = some .complete ∨ (heads.get i).outcome = some .timeLimited
    (tampOutcome c heads = .tamped ↔ ∀ i : Fin 4, c.engaged i = true → done i)
    ∧ (tampOutcome c heads = .notTamped ↔ ∀ i : Fin 4, c.engaged i = true → ¬ done i)
    ∧ (tampOutcome c heads = .partly ↔
        (∃ i : Fin 4, c.engaged i = true ∧ done i) ∧ ∃ i : Fin 4, c.engaged i = true ∧ ¬ done i)

/-- The steps after a recording other than ABORTED (06 R108, R109, 01 R15, R20, R25): ENDED after the last record of
an END page, with every ACTIVE page EMPTY; else PAUSED where a pause is pending; else the next record or the crossing
and INDEXING; a crossing refused, for want of a page or by its order check, is HOLD(PLAN_EXHAUSTED) with PAGE_NEEDED
and the advance owed. That ENDED and PAUSED are entered also while the unit is not OPEN is the model's choice, log
entry 33. -/
def Obligations.RunContinuesAfterRecording : Prop :=
  ∀ (s : State) (w : Pos), s.plan.workhead = some w →
    let t := afterRecording s
    let last := w.index + 1 = (s.plan.page w.page).count
    ((s.plan.page w.page).endFlag = true → last →
      t.seq.state = .ended ∧ t.plan.workhead = none ∧ t.plan.front = none
      ∧ (∀ n : Fin 4, (s.plan.page n).state = .active → t.plan.page n = Page.cleared)
      ∧ (∀ n : Fin 4, (s.plan.page n).state ≠ .active → t.plan.page n = s.plan.page n)
      ∧ t.chainage.move.state = .noMove ∧ t.seq.pausePending = false ∧ t.seq.skipPending = false
      ∧ t.seq.advanceOwed = false ∧ t.seq.resumeAction = none ∧ t.latches = s.latches ||| 0x04)
    ∧ (¬ ((s.plan.page w.page).endFlag = true ∧ last) → s.seq.pausePending = true →
        t = s.setSeq { s.seq with
          state := .paused, hold := none, pausePending := false, advanceOwed := true })
    ∧ (w.index + 1 < (s.plan.page w.page).count → s.seq.pausePending = false →
        t.plan.workhead = some ⟨w.page, w.index + 1⟩
        ∧ (∀ (m : Fin 4) (i : Nat), (t.plan.page m).at? i = (s.plan.page m).at? i)
        ∧ t.seq = { s.seq with state := .indexing, hold := none, advanceOwed := false, kind := .normal }
        ∧ t.chainage.move.state = .noMove ∧ t.latches = s.latches)
    ∧ ((s.plan.page w.page).endFlag = false → (s.plan.page w.page).count ≤ w.index + 1 →
        s.seq.pausePending = false →
        (s.plan.page (w.page + 1)).state = .empty ∨ (s.plan.page (w.page + 1)).state = .loading →
        t.plan = s.plan ∧ t.seq = { s.seq with
          state := .hold, hold := some .planExhausted, advanceOwed := true }
        ∧ t.latches = s.latches ||| 0x08 ||| 0x01)
    ∧ ∀ a b : SleeperRecord, (s.plan.page w.page).endFlag = false → (s.plan.page w.page).count ≤ w.index + 1 →
        s.seq.pausePending = false →
        (s.plan.page (w.page + 1)).state = .ready ∨ (s.plan.page (w.page + 1)).state = .active →
        (s.plan.page w.page).last? = some a → (s.plan.page (w.page + 1)).at? 0 = some b →
        (a.chainage < b.chainage →
          t = { s with
            plan := (s.plan.cross w s.params.chordFront).1
            chainage := { s.chainage with
              move := { s.chainage.move with state := .noMove, drift := none, outcome := none, timer := none } }
            seq := { s.seq with state := .indexing, hold := none, advanceOwed := false, kind := .normal } }
          ∧ t.plan.workhead = some ⟨w.page + 1, 0⟩ ∧ (t.plan.page w.page).state = .empty)
        ∧ (b.chainage ≤ a.chainage →
          t = { s with
            plan := s.plan.setOrderFault (w.page + 1) true
            seq := { s.seq with state := .hold, hold := some .planExhausted, advanceOwed := true }
            latches := s.latches ||| 0x08 ||| 0x01 })

/-- An admission (06 R100, R101, 02 R34, R42): the four checks in order, each with its hold and nothing consumed;
then the context formed and the mask and skip consumed, and the record skipped, left without arms, held for
CONFIRM or measured. -/
def Obligations.AdmissionChecksThenWorks : Prop :=
  ∀ s : State,
    let held := fun r => admitSleeper s = { s with
      seq := { s.seq with state := .hold, hold := some r }, latches := s.latches ||| 0x01 }
    (32 ≤ s.results.length + s.seq.reservation → held .resultFull)
    ∧ (s.results.length + s.seq.reservation < 32 →
      (s.attention.state = .lapsedOnce → held .attentionLapse)
      ∧ (s.attention.state ≠ .lapsedOnce →
        (3 ≤ s.seq.missCount → held .detectionLost)
        ∧ (s.seq.missCount < 3 →
          (3 ≤ s.seq.degradedCount → held .measureLost)
          ∧ ∀ (r : SleeperRecord) (pos : Pos), s.seq.degradedCount < 3 → s.plan.workhead = some pos →
            (if s.seq.kind = .retamp then s.seq.retained else s.plan.workheadRecord) = some r →
            let front := s.plan.computeFront s.params.chordFront
            let c := formContext s r pos s.seq.kind front.2
            let x := takeContext r pos s
            x.seq = { s.seq with context := some c, reservation := 1, skipPending := false }
              ∧ x.manualMask = none ∧ x.plan = front.1
              ∧ (∀ i : Fin 4, x.heads.get i = { s.heads.get i with
                  planned := c.insertions, begun := 0, results := [], depth := 0, peak := 0
                  outcome := if c.engaged i then none else some .notEngaged })
              ∧ x.results = s.results ∧ x.chainage = s.chainage ∧ x.lining = s.lining
              ∧ admitSleeper s =
                if c.skip then afterRecording (recordSleeper .skipped x)
                else if c.enabled = 0 then afterRecording (recordSleeper .skippedNoArms x)
                else if c.confirm then enterHold .confirmWait x
                else enterMeasuring c x)))

/-- The reports of an event (10 R172, R173): the latches set and enabled now and not before, in ascending number;
each sends a report with the status at the end of the event while five places are free, and the rest are counted
as suppressed. -/
def Obligations.ReportsOfAnEvent : Prop :=
  ∀ before after : State,
    let due := (List.range 8).filter fun n =>
      (after.latches &&& after.reportEnable).getLsbD n
        && !(before.latches &&& before.reportEnable).getLsbD n
    let sent := due.take (4 - after.link.tx.length)
    let t := report before after
    t.link = { after.link with
        tx := after.link.tx
          ++ sent.map fun n => ⟨.report, 0, BitVec.ofNat 8 n, statusBytes after⟩ }
      ∧ (after.counters.reportsSuppressed ≤ 65535 → t.counters.reportsSuppressed
          = min 65535 (after.counters.reportsSuppressed + (due.length - sent.length)))
      ∧ t.reportOf after

/-- What follows at the end of an event (06 R99, R103, R104, 03 R49, 08 R149, R151, R152): nothing where nothing is due;
the tamp start once the unit is HOLDING and every engaged head done with its preparing; the release once every engaged
head is PARKED with its outcome fixed; the release that waited for the heads, in every state that has one; in INDEXING
the release of a unit frozen outside OPEN once every head is PARKED; and the index move in the event in which the unit
is OPEN and every head PARKED. The release order itself: RELEASING with the clamp timer loaded, or OPEN at once, which
takes a clamp pending, opens the FINAL window at the end of TAMPING, and at a release retry lets the run go on with the
steps that follow a recording (06 R105, R108). That the release waits for the heads that stood
outside PARKED when it was ordered, whatever they do on a new prepare order, is the model's reading, log entry 13; that
PAUSED and ENDED can be entered while it waits is its choice, log entry 33. -/
def Obligations.PhasesFollowOneAnother : Prop :=
  ∀ s : State,
    (s.lining.releaseAfterHeads = false → s.seq.state ≠ .indexing → s.seq.state ≠ .correcting →
      s.seq.state ≠ .tamping → settle s = s)
    ∧ (s.seq.state = .correcting → s.lining.state ≠ .holding → s.lining.releaseAfterHeads = false →
        settle s = s)
    ∧ (∀ c : Context, s.seq.context = some c → s.seq.state = .correcting → s.lining.state = .holding →
        (∀ i : Fin 4, c.engaged i = true → (s.heads.get i).state = .ready
          ∨ ((s.heads.get i).state = .parked ∧ ((s.heads.get i).outcome = some .traverseFault
            ∨ (s.heads.get i).outcome = some .tiltFault))) →
        settle s
          = startIndexMove (releaseFrozen (releaseAfterHeads (endTamping
              ((s.setSeq { s.seq with state := .tamping, hold := none }).headsTampStart)))))
    ∧ (∀ c : Context, s.seq.context = some c → s.seq.state = .tamping →
        s.lining.releaseAfterHeads = false →
        (∀ i : Fin 4, c.engaged i = true →
          (s.heads.get i).state = .parked ∧ (s.heads.get i).outcome ≠ none) →
        settle s = releaseUnit (s.setSeq { s.seq with state := .releasing, hold := none }))
    ∧ (s.lining.releaseAfterHeads = true → (∀ i : Fin 4, s.lining.awaited.get i = false) →
        (s.seq.state = .idle ∨ s.seq.state = .measuring ∨ s.seq.state = .hold ∨ s.seq.state = .paused
            ∨ s.seq.state = .ended → settle s = releaseUnit s)
        ∧ (s.seq.state = .indexing → settle s = startIndexMove (releaseUnit s)))
    ∧ (s.lining.releaseAfterHeads = true → (∃ i : Fin 4, s.lining.awaited.get i = true) →
        s.seq.state = .idle ∨ s.seq.state = .measuring ∨ s.seq.state = .hold ∨ s.seq.state = .paused
          ∨ s.seq.state = .ended → settle s = s)
    ∧ (s.seq.state = .indexing → s.lining.releaseAfterHeads = false → s.lining.frozen = true →
        s.lining.state ≠ .isOpen →
        ((∀ i : Fin 4, (s.heads.get i).state = .parked) → settle s = startIndexMove (releaseUnit s))
        ∧ ((∃ i : Fin 4, (s.heads.get i).state ≠ .parked) → settle s = s))
    ∧ (let order := releaseOrder s.inputs (heldTrack s) s.lining
      let stopped := match s.measuring with
        | .live _ => .noWindow
        | m => m
      (order.state = .releasing → releaseUnit s = { s with lining := order, measuring := stopped })
      ∧ (order.state = .isOpen → s.lining.clampPending = false → s.seq.state ≠ .releasing →
          releaseUnit s = { s with lining := order, measuring := stopped })
      ∧ (∀ c : Context, order.state = .isOpen → s.lining.clampPending = false → s.seq.state = .releasing →
          s.seq.context = some c →
          releaseUnit s = { s with lining := order, measuring := .window (.fresh .final c) })
      ∧ (order.state = .isOpen → s.lining.clampPending = false → s.seq.state = .releasing →
          s.seq.context = none → s.seq.advanceOwed = true →
          releaseUnit s = afterRecording { s with lining := order, measuring := stopped })
      ∧ (order.state = .isOpen → s.lining.clampPending = true →
          releaseUnit s = { s with
            lining := { order with
              state := .clamping, command := ⟨true, true, s.lining.hookConcerned⟩
              clampTimer := some s.lining.settings.clampTime, clampPending := false }
            measuring := stopped }))
    ∧ (s.seq.state = .indexing → s.lining.releaseAfterHeads = false → settle s = startIndexMove (releaseFrozen s))
    ∧ ∀ r : SleeperRecord, s.plan.workheadRecord = some r → s.seq.state = .indexing →
        startIndexMove s =
          if s.lining.state = .isOpen ∧ s.chainage.move.demandActive = false
              ∧ ∀ i : Fin 4, (s.heads.get i).state = .parked then
            s.setChainage
              { s.chainage with
                move := { s.chainage.move with
                  state := .firstMove, target := r.chainage + s.chainage.offset
                  stopTolerance := s.params.stopTolerance, timer := some s.params.indexTime }
                line := some (.move (r.chainage + s.chainage.offset - s.chainage.running)) }
          else s

/-! ## The squeeze pressure and the correction computer (02, 05) -/

/-- The squeeze pressure of a context (02 R37): the floor of SQUEEZE_PRESSURE × (100 − r) ÷ 100, never below 40,
SQUEEZE_PRESSURE itself for r = 0, and from 40 to 140; with the five rows of the rule's table. -/
def Obligations.SqueezePressureReduced : Prop :=
  (∀ (s : State) (record : SleeperRecord) (pos : Pos) (kind : AdmissionKind) (front : FrontResult) (q : Int),
    s.paramLaw →
    let c := formContext s record pos kind front
    0 ≤ c.rule.reduction → c.rule.reduction ≤ 50 →
    100 * q ≤ s.params.squeezePressure * (100 - c.rule.reduction) →
    s.params.squeezePressure * (100 - c.rule.reduction) < 100 * (q + 1) →
    c.squeezePressure = (if q < 40 then 40 else q)
      ∧ (c.rule.reduction = 0 → c.squeezePressure = s.params.squeezePressure)
      ∧ 40 ≤ c.squeezePressure ∧ c.squeezePressure ≤ 140)
  ∧ squeezePressureOf 110 0 = 110 ∧ squeezePressureOf 110 30 = 77 ∧ squeezePressureOf 110 35 = 71
  ∧ squeezePressureOf 110 50 = 55 ∧ squeezePressureOf 50 30 = 40

/-- The whole number nearest to `num ÷ n`, a tie going away from zero (00 "Arithmetic"). -/
def NearestAway (num : Int) (n : Nat) (f : Int) : Prop :=
  2 * |n * f - num| ≤ n ∧ (2 * |n * f - num| = n → |num| < n * |f|)

/-- Stages 1 to 7 (05 R81 to R87), for the front terms `fL` and `fV` of stage 1. The raw shift and the reference lift:
the measured value, the override in its place with OVERRIDE_USED, 0 for a channel invalid in PRE; an inhibit or a
run-out makes the shift 0, each with its flag. The other main rail follows by the cant difference; a reference channel
invalid in PRE or a run-out makes both main lifts 0. The floor (05 R86): where the smaller main lift is below 0 its
magnitude is added to both and LIFT_FLOOR is raised, the lower lift becomes 0 and the difference is kept; else the
lifts stand and the flag is not raised. The branch lift exists only with BRANCH and LEVEL_B valid, and is 0 under
run-out, else the record's, else the higher main lift after the floor. -/
def Obligations.LiftsAndShiftBeforeLimits : Prop :=
  ∀ (chord : Chord) (carry : CorrectionComputer) (c : Context) (m : Channels (Option Int)),
    let l := liftsBeforeFloor chord c m
    let floored := floorLifts l
    let has := hasFlag (computeCorrection chord carry c m).flags
    let hRef := match c.record.refRail with
      | .left => m.levelL
      | .right => m.levelR
    let cant := match m.cross with
      | some cm => c.record.cd - cm
      | none => 0
    let branch := branchLift c m floored
    (l.left < 0 ∨ l.right < 0 →
      floored.left = l.left + -(min l.left l.right) ∧ floored.right = l.right + -(min l.left l.right)
      ∧ min floored.left floored.right = 0
      ∧ floored.right - floored.left = l.right - l.left ∧ has .liftFloor = true)
    ∧ (0 ≤ l.left → 0 ≤ l.right → floored = l ∧ has .liftFloor = false)
    ∧ 0 ≤ floored.left ∧ 0 ≤ floored.right
    ∧ (∀ fL fV : Int, 0 < chord.b → NearestAway (c.eF * chord.a) (chord.a + chord.b) fL →
        NearestAway (c.eFv * chord.aV) (chord.aV + chord.b) fV →
        shiftBeforeLimits chord c m
          = (if c.record.runOut = true ∨ c.rule.shiftInhibit = true then 0
            else match c.record.shiftOverride, m.line with
              | some v, _ => v
              | none, some v => c.record.vd - v - fL
              | none, none => 0)
        ∧ ∀ h lRef : Int, c.record.runOut = false → hRef = some h →
            lRef = c.record.liftOverride.getD (c.cycle.baseLift + c.record.vvd - h - fV) →
            l = match c.record.refRail with
              | .left => ⟨lRef, lRef + cant⟩
              | .right => ⟨lRef - cant, lRef⟩)
    ∧ (c.record.runOut = true ∨ hRef = none → l = ⟨0, 0⟩)
    ∧ (branch ≠ none ↔ c.record.branch = true ∧ m.levelB ≠ none)
    ∧ (∀ b, branch = some b →
        b = if c.record.runOut then 0 else c.record.branchLift.getD (max floored.left floored.right))
    ∧ (has .overrideUsed = true ↔ c.record.shiftOverride ≠ none ∨ c.record.liftOverride ≠ none)
    ∧ (has .shiftInhibited = true ↔ c.rule.shiftInhibit = true)
    ∧ (has .runOut = true ↔ c.record.runOut = true)

/-- Stages 8 to 10 (05 R88 to R90): each lift and the shift clamped, held within SLOPE_LIMIT of its carry and
clamped again; LIFT_CLAMPED, SHIFT_CLAMPED and SLOPE_LIMITED raised exactly where such a stage moved a value; and
the two laws of R90 over the commanded values. Stage 11 (05 R91, R92): the target of each channel valid in PRE, the
axes driven, and TARGET_NOT_REACHED in its three cases. -/
def Obligations.CommandedValuesWithinLimits : Prop :=
  ∀ (chord : Chord) (carry : CorrectionComputer) (c : Context) (m : Channels (Option Int)),
    0 ≤ c.maxLift → 0 ≤ c.shiftLimit → 0 ≤ c.cycle.slopeLimit →
    let x := computeCorrection chord carry c m
    let k := x.correction
    let d := c.cycle.slopeLimit
    let lifts := floorLifts (liftsBeforeFloor chord c m)
    let branch := branchLift c m lifts
    let shift := shiftBeforeLimits chord c m
    let ranged := fun v => max 0 (min c.maxLift v)
    let between := fun v => max (-c.shiftLimit) (min c.shiftLimit v)
    let sloped := fun v carried => max (carried - d) (min (carried + d) v)
    let clamped := fun v carried => ranged v ≠ v ∨ ranged (sloped (ranged v) carried) ≠ sloped (ranged v) carried
    let limited := fun v carried => sloped (ranged v) carried ≠ ranged v
    let hRef := match c.record.refRail with
      | .left => m.levelL
      | .right => m.levelR
    let other := match c.record.refRail with
      | .left => m.levelR
      | .right => m.levelL
    let near := fun v carried limit => (carried - d ≤ v ∧ v ≤ carried + d) ∨ (v = limit ∧ limit < carried - d)
    k.lL = ranged (sloped (ranged lifts.left) carry.cL)
    ∧ k.lR = ranged (sloped (ranged lifts.right) carry.cR)
    ∧ k.lB = (branch.map fun b => ranged (sloped (ranged b) carry.cB))
    ∧ k.s = between (sloped (between shift) carry.cS)
    ∧ (hasFlag x.flags .liftClamped = true ↔
        clamped lifts.left carry.cL ∨ clamped lifts.right carry.cR ∨ ∃ b, branch = some b ∧ clamped b carry.cB)
    ∧ (hasFlag x.flags .shiftClamped = true ↔
        between shift ≠ shift ∨ between (sloped (between shift) carry.cS) ≠ sloped (between shift) carry.cS)
    ∧ (hasFlag x.flags .slopeLimited = true ↔
        limited lifts.left carry.cL ∨ limited lifts.right carry.cR ∨ (∃ b, branch = some b ∧ limited b carry.cB)
          ∨ sloped (between shift) carry.cS ≠ between shift)
    ∧ 0 ≤ k.lL ∧ k.lL ≤ c.maxLift ∧ 0 ≤ k.lR ∧ k.lR ≤ c.maxLift
    ∧ (∀ b, k.lB = some b → 0 ≤ b ∧ b ≤ c.maxLift)
    ∧ -c.shiftLimit ≤ k.s ∧ k.s ≤ c.shiftLimit
    ∧ (0 ≤ carry.cL → near k.lL carry.cL c.maxLift) ∧ (0 ≤ carry.cR → near k.lR carry.cR c.maxLift)
    ∧ (∀ b, k.lB = some b → 0 ≤ carry.cB → near b carry.cB c.maxLift)
    ∧ (near k.s carry.cS c.shiftLimit ∨ (k.s = -c.shiftLimit ∧ carry.cS + d < -c.shiftLimit))
    ∧ k.targets.line = m.line.map (· + k.s) ∧ k.targets.levelL = m.levelL.map (· + k.lL)
    ∧ k.targets.levelR = m.levelR.map (· + k.lR) ∧ k.targets.cross = m.cross.map (fun _ => c.record.cd)
    ∧ (k.lB = none → k.targets.levelB = none)
    ∧ (∀ b h, k.lB = some b → m.levelB = some h → k.targets.levelB = some (h + b))
    ∧ (k.driven.line = true ↔ m.line ≠ none ∧ k.s ≠ 0)
    ∧ (k.driven.liftL = true ↔ hRef ≠ none ∧ m.levelL ≠ none ∧ k.lL ≠ 0)
    ∧ (k.driven.liftR = true ↔ hRef ≠ none ∧ m.levelR ≠ none ∧ k.lR ≠ 0)
    ∧ (k.driven.liftB = true ↔ ∃ b, k.lB = some b ∧ b ≠ 0)
    ∧ (hasFlag x.flags .targetNotReached = true ↔
        (other = none ∧ hRef ≠ none) ∨ (hRef = none ∧ (k.lL ≠ 0 ∨ k.lR ≠ 0)) ∨ (m.line = none ∧ k.s ≠ 0))

/-! ## Measuring and the approach (04, 08) -/

/-- The value of one channel, in channel order (00 "Measuring channels"). -/
def channelAt {α : Type} (c : Channels α) : Fin 5 → α
  | 0 => c.line
  | 1 => c.levelL
  | 2 => c.levelR
  | 3 => c.cross
  | 4 => c.levelB

/-- The samples of a frame (04 R64, R65): one is valid exactly when the frame has its 17 bytes, saw no framing fault
and passes its check, the status of the sample is OK and its value lies within the range of its channel. -/
def SamplesTaken (bytes : List Byte) (intact : Bool) (samples : Channels (Option Int)) : Prop :=
  ∀ k : Fin 5,
    let byte := fun i : Nat => bytes.getD (3 * k.val + i) 0
    let v := (word2 (byte 0) (byte 1)).toInt
    let range := if k = 0 ∨ k = 3 then 2000 else 1000
    channelAt samples k
      = if bytes.length = 17 ∧ intact = true
          ∧ crc16 (bytes.take 15) = word2 (bytes.getD 15 0) (bytes.getD 16 0)
          ∧ byte 2 = 0 ∧ -range ≤ v ∧ v ≤ range then some v else none

/-- A frame taken into a window (04 R68, R69): it is counted; a valid sample of a channel in use that has fewer than
N joins that channel's sum; and the window closes when every channel in use has N or after 3 × N frames. -/
def WindowFrame (w filled : Window) (samples : Channels (Option Int)) : Prop :=
  filled = { w with frames := w.frames + 1, tally := filled.tally }
    ∧ (∀ k : Fin 5, channelAt filled.tally k
        = match channelAt samples k with
          | none => channelAt w.tally k
          | some v =>
            if channelAt w.inUse k = true ∧ (channelAt w.tally k).count < w.length then
              ⟨(channelAt w.tally k).count + 1, (channelAt w.tally k).sum + v⟩
            else channelAt w.tally k)
    ∧ (filled.closes = true ↔
        (∀ k : Fin 5, channelAt w.inUse k = true → (channelAt filled.tally k).count = w.length)
          ∨ 3 * w.length ≤ w.frames + 1)

/-- The settled values of a window (04 R69, R71): of each channel in use with N samples, the sum divided by N, rounded
to nearest with ties away from zero; none of any other. -/
def WindowSettled (w : Window) (settled : Channels (Option Int)) : Prop :=
  ∀ k : Fin 5,
    let full := channelAt w.inUse k = true ∧ (channelAt w.tally k).count = w.length
    (full → ∃ v : Int, channelAt settled k = some v ∧ NearestAway (channelAt w.tally k).sum w.length v)
    ∧ (¬ full → channelAt settled k = none)

/-- A settle window (04 R65, R68 to R71, R76, R77, 06 R102, 08 R142): a frame that does not close it is counted in
each channel in use below N; the frame that closes a PRE window, and the silence limit, hand its settled values
to the correction computer, and the unit enters APPROACHING with the targets and driven axes it computed. That the
degraded count stays at 3 is the model's reading, log entry 28. -/
def Obligations.PreWindowFillsAndCloses : Prop :=
  ∀ (s : State) (bytes : List Byte) (intact : Bool) (w : Window) (c : Context), s.resetLow = false →
    s.measuring = .window w → w.kind = .pre → s.seq.state = .measuring → s.seq.context = some c →
    s.lining.releaseAfterHeads = false →
    let filled := w.take (validSamples bytes intact)
    SamplesTaken bytes intact (validSamples bytes intact) ∧ WindowFrame w filled (validSamples bytes intact)
    ∧ (0 < w.length → WindowSettled w w.settled ∧ WindowSettled filled filled.settled)
    ∧ (degradedBy w.inUse w.settled = true ↔
        ∃ k : Fin 5, channelAt w.inUse k = true ∧ channelAt w.settled k = none) ∧
    let closed := fun (v : Window) (t : State) =>
      let m := v.settled
      let degraded := degradedBy v.inUse m
      let x := computeCorrection (Chord.sample s.params) s.computer c m
      t.seq = { s.seq with
          state := .correcting, hold := none
          context := some { c with
            settled := some m, correction := some x.correction
            flags := c.flags ||| (if degraded then 0x0200 else 0) ||| x.flags }
          degradedCount := if degraded then min 3 (s.seq.degradedCount + 1) else 0 }
        ∧ t.lining = { s.lining with
            state := .approaching, targets := x.correction.targets
            axis := x.correction.driven.map fun d => if d then .waiting else .notDriven
            lineRight := decide (0 < x.correction.s)
            correctionTimer := some s.lining.settings.correctionTime }
        ∧ t.measuring = .live (.fresh (channelsFor c.record.branch))
        ∧ t.computer = { s.computer with eF := c.eF, eFv := c.eFv }
        ∧ (∀ k : Counter, t.counters.get k
            = if k = .measureDegraded ∧ degraded = true then min 65535 (s.counters.get k + 1)
              else s.counters.get k)
        ∧ t.heads = s.heads ∧ t.plan = s.plan ∧ t.chainage = s.chainage ∧ t.results = s.results
        ∧ t.stop = s.stop ∧ t.attention = s.attention ∧ t.latches = s.latches ∧ t.link = s.link
        ∧ t.manualMask = s.manualMask ∧ t.keepsStores s
    (filled.closes = false →
      exec (.measuringFrame bytes intact) s = .next (s.setMeasuring (.window filled)))
    ∧ (filled.closes = true → ∃ t, exec (.measuringFrame bytes intact) s = .next t ∧ closed filled t)
    ∧ (∃ t, exec .silenceLimitExpiry s = .next t ∧ closed w t)

/-- The FINAL window (04 R68 to R71, 06 R105, R107, 05 R94): it fills and closes as a PRE window does; its close forms
the residuals, of each channel the FINAL settled value minus the target, present only where both are, and records the
sleeper with the outcome its heads select, and the carry follows. -/
def Obligations.FinalWindowRecordsSleeper : Prop :=
  ∀ (s : State) (bytes : List Byte) (intact : Bool) (w : Window) (c : Context) (x : Correction),
    s.resetLow = false → s.measuring = .window w → w.kind = .final → s.seq.state = .releasing →
    s.seq.context = some c → c.correction = some x → s.lining.releaseAfterHeads = false →
    let filled := w.take (validSamples bytes intact)
    let closed := fun (v : Window) (t : State) =>
      (∃ residual : Channels (Option Int),
          (∀ k : Fin 5, channelAt residual k = match channelAt v.settled k, channelAt x.targets k with
            | some a, some b => some (a - b)
            | _, _ => none)
          ∧ t.results = s.results ++ [formResult { c with residual := some residual } s.heads
              (tampOutcome c s.heads)])
        ∧ t.seq.context = none ∧ t.seq.reservation = 0 ∧ t.seq.retained = some c.record
        ∧ t.measuring = .noWindow
        ∧ t.computer = s.computer.commit (tampOutcome c s.heads) (some x)
        ∧ (t.seq.state = .ended ∨ t.seq.state = .paused ∨ t.seq.state = .indexing
          ∨ (t.seq.state = .hold ∧ t.seq.hold = some .planExhausted))
        ∧ t.heads = s.heads ∧ t.stop = s.stop ∧ t.manualMask = s.manualMask ∧ t.keepsStores s
    SamplesTaken bytes intact (validSamples bytes intact) ∧ WindowFrame w filled (validSamples bytes intact)
    ∧ (0 < w.length → WindowSettled w w.settled ∧ WindowSettled filled filled.settled)
    ∧ (filled.closes = false →
      exec (.measuringFrame bytes intact) s = .next (s.setMeasuring (.window filled)))
    ∧ (filled.closes = true → ∃ t, exec (.measuringFrame bytes intact) s = .next t ∧ closed filled t)
    ∧ (∃ t, exec .silenceLimitExpiry s = .next t ∧ closed w t)

/-- The channel of a track axis (04 R73). -/
def channelOf : TrackAxis → Fin 5
  | .liftL => 1
  | .liftR => 2
  | .liftB => 4
  | .line => 0

/-- A live record at a frame (04 R73, R74): of each channel in use a valid sample becomes the last live value and clears
the invalid count; an invalid one is counted, and in APPROACHING the tenth in a row loses the channel. -/
def LiveFrame (approaching : Bool) (l taken : Live) (samples : Channels (Option Int)) : Prop :=
  taken.inUse = l.inUse ∧ ∀ k : Fin 5, channelAt taken.channel k =
    let c := channelAt l.channel k
    if channelAt l.inUse k = true then
      match channelAt samples k with
      | some v => ⟨some v, 0, c.lost⟩
      | none => ⟨c.last, c.invalid + 1, c.lost || (approaching && decide (10 ≤ c.invalid + 1))⟩
    else c

/-- The axes of the unit at a frame of APPROACHING (04 R74, 08 R143, R144). An axis not under way stands. One whose
channel is lost is HALTED at its sensed position, with TARGET_NOT_REACHED. One with a valid sample and a target is
STOPPED at its sensed position, for a lift at DEADBAND below the target or above, for LINE within DEADBAND of it or
beyond it in its direction, and else stepped 1 mm from its sensed position. Any other waits. Before the first axis
frame after a reset no setpoint is sent (08 R139). -/
def ApproachFrame (s : State) (u : LiningUnit) (lost : Channels LiveChannel) (samples : Channels (Option Int)) :
    Prop :=
  let d := s.lining.settings.deadband
  let underWay := fun a => trackGet s.lining.axis a = .waiting ∨ trackGet s.lining.axis a = .moving
  u = { s.lining with axis := u.axis, setpoint := u.setpoint, approach := u.approach }
  ∧ u.approach.achieved = s.lining.approach.achieved ∧ u.approach.overlift = s.lining.approach.overlift
  ∧ (u.approach.targetNotReached = true ↔ s.lining.approach.targetNotReached = true
      ∨ ∃ a : TrackAxis, underWay a ∧ (channelAt lost (channelOf a)).lost = true)
  ∧ ∀ a : TrackAxis,
    let sensed := trackGet s.inputs.axisFrame.sensed.track a
    let goes := fun (status : AxisStatus) (sp : Int) =>
      trackGet u.axis a = status ∧ trackGet u.setpoint a = if s.awaitFrame then trackGet s.lining.setpoint a else sp
    let stays := trackGet u.axis a = trackGet s.lining.axis a ∧ trackGet u.setpoint a = trackGet s.lining.setpoint a
    (¬ underWay a → stays)
    ∧ (underWay a → (channelAt lost (channelOf a)).lost = true → goes .halted sensed)
    ∧ (underWay a → (channelAt lost (channelOf a)).lost = false →
      (channelAt samples (channelOf a) = none ∨ channelAt s.lining.targets (channelOf a) = none → stays)
      ∧ ∀ v x : Int, channelAt samples (channelOf a) = some v →
        channelAt s.lining.targets (channelOf a) = some x →
        let reached := if a = .line then |v - x| ≤ d ∨ (s.lining.lineRight = true ∧ x ≤ v)
            ∨ (s.lining.lineRight = false ∧ v ≤ x)
          else x - d ≤ v
        (reached → goes .stopped sensed)
        ∧ (¬ reached → goes .moving (if a = .line ∧ s.lining.lineRight = false then sensed - 1 else sensed + 1)))

/-- The approach (04 R66, R73, R74, 08 R143 to R148): a measuring frame steps the driven axes and leaves the unit
APPROACHING while one is under way; the frame that stops the last, and the correction timer, enter HOLDING with
the achieved values, the timer with every axis under way HALTED at its sensed position and TARGET_NOT_REACHED. Stated
while a head is still preparing. In HOLDING a frame goes into the live record and steps no axis, and a count of ten
loses no channel; in NO_WINDOW it changes nothing. That the timer raises its flag with no axis driven too is the model's reading, log
entry 31. -/
def Obligations.ApproachStepsAndHolds : Prop :=
  (∀ (s : State) (bytes : List Byte) (intact : Bool), s.resetLow = false → s.measuring = .noWindow →
    settle s = s → exec (.measuringFrame bytes intact) s = .next s)
  ∧ (∀ (s : State) (bytes : List Byte) (intact : Bool) (l : Live) (c : Context) (i : Fin 4),
    s.resetLow = false → s.measuring = .live l → s.lining.state = .holding →
    s.lining.releaseAfterHeads = false → s.seq.context = some c → c.engaged i = true →
    (s.seq.state = .correcting ∧ (s.heads.get i).state = .preparing)
      ∨ (s.seq.state = .tamping ∧ (s.heads.get i).state ≠ .parked) →
    ∃ taken : Live, SamplesTaken bytes intact (validSamples bytes intact)
      ∧ LiveFrame false l taken (validSamples bytes intact)
      ∧ exec (.measuringFrame bytes intact) s = .next (s.setMeasuring (.live taken)))
  ∧ ∀ (s : State) (bytes : List Byte) (intact : Bool) (l : Live) (c : Context) (i : Fin 4),
    s.resetLow = false → s.measuring = .live l → s.lining.state = .approaching →
    s.seq.state = .correcting → s.seq.context = some c → s.lining.releaseAfterHeads = false →
    c.engaged i = true → (s.heads.get i).state = .preparing →
    let samples := validSamples bytes intact
    ∃ (taken : Live) (u : LiningUnit), LiveFrame true l taken samples ∧ ApproachFrame s u taken.channel samples
    ∧ (∀ (last settled : Channels (Option Int)) (k : Fin 5), channelAt (achievedValues last settled) k
        = match channelAt last k, channelAt settled k with
          | some x, some y => some (x - y)
          | _, _ => none)
    ∧ (∀ (before : LiningUnit) (last : Channels (Option Int)), before.anyOverlift last = true ↔
        ∃ (a : TrackAxis) (h x : Int), a ≠ .line ∧ channelAt last (channelOf a) = some h
          ∧ channelAt before.targets (channelOf a) = some x ∧ x + 2 * before.settings.deadband < h) ∧
    let underWay := ∃ a : TrackAxis, trackGet u.axis a = .waiting ∨ trackGet u.axis a = .moving
    let holds := fun (before : LiningUnit) (last : Channels (Option Int)) (m : Measuring) =>
      let achieved := achievedValues last (c.settled.getD (.all5 none))
      { s with
        measuring := m
        lining := { before with
          state := .holding, correctionTimer := none
          approach := ⟨some achieved, before.approach.targetNotReached, before.anyOverlift last⟩ }
        seq := { s.seq with context := some { c with
          achieved := some achieved
          flags := c.flags ||| ((if before.approach.targetNotReached then 0x0400 else 0)
            ||| (if before.anyOverlift last then 0x0800 else 0)) } } }
    (underWay → exec (.measuringFrame bytes intact) s
      = .next { s with measuring := .live taken, lining := u })
    ∧ (¬ underWay → exec (.measuringFrame bytes intact) s
        = .next (holds u (taken.channel.map LiveChannel.last) (.live taken)))
    ∧ (s.lining.correctionTimer.isSome = true → exec .correctionTimerExpiry s
        = .next (holds
            { s.lining with
              axis := s.lining.axis.map fun a => if a = .waiting ∨ a = .moving then .halted else a
              setpoint := ((s.lining.axis.map fun a => decide (a = .waiting ∨ a = .moving)).zip
                (fun g x => (g, x)) s.lining.setpoint).zip (fun g x => if g.1 then x else g.2) (heldTrack s)
              approach := { s.lining.approach with targetNotReached := true } }
            (l.channel.map LiveChannel.last) (.live l)))

/-- The reports of the clamp sensors (08 R140, R141, R149, R152, 06 R102, R105): in CLAMPING the report that closes the
last clamp concerned enters CLAMPED and opens the PRE window. In RELEASING the one that opens the last clamp enters OPEN:
with a clamp pending the unit clamps; at the end of TAMPING the FINAL window opens; at a release retry the run goes on
with the steps that follow a recording; after an abort, STOP_RUN or a reset, and in INDEXING, the unit is only OPEN, and
an index move that waits for it starts. Any other report, and every report to a frozen unit, is taken with no effect but
its level: a late one in CLAMPING after the clamp timer expired too. A unit that waits for heads to be PARKED before it
releases is moved by the same reports. That a report in CLAMPING changes nothing either where an order stopped the timer
is the model's choice, log entry 32; that a report of the level that stands is tested like any other is its choice, log
entry 24; the set of heads a release waits for is its reading, log entry 13. -/
def Obligations.ClampReportsMoveTheUnit : Prop :=
  ∀ (s : State) (clamp : Clamp) (closed : Bool), s.resetLow = false →
    let i := clampLevel clamp closed s.inputs
    let e := exec (.clampSensorReport clamp closed) s
    let live := s.lining.frozen = false
      ∧ (s.lining.releaseAfterHeads = false ∨ ∃ j : Fin 4, s.lining.awaited.get j = true)
    let opened := { s with inputs := i, lining := { s.lining with state := .isOpen, clampTimer := none } }
    (∀ c : Context, live → s.seq.context = some c →
        s.seq.state = .measuring → s.lining.state = .clamping → s.lining.clampTimer.isSome = true →
        i.clampsClosed s.lining.hookConcerned = true →
        e = .next { s with
          inputs := i, lining := { s.lining with state := .clamped, clampTimer := none }
          measuring := .window (.fresh .pre c) })
    ∧ (live → s.seq.state ≠ .tamping → s.lining.state = .clamping →
        s.lining.clampTimer = none ∨ i.clampsClosed s.lining.hookConcerned = false → e = .next (s.setInputs i))
    ∧ (live → s.seq.state = .measuring → s.lining.state = .releasing → s.lining.clampPending = true →
        i.clampsOpen = true →
        e = .next { s with
          inputs := i
          lining := { s.lining with
            state := .clamping, command := ⟨true, true, s.lining.hookConcerned⟩
            clampTimer := some s.lining.settings.clampTime, clampPending := false } })
    ∧ (∀ c : Context, live → s.seq.context = some c → s.seq.state = .releasing → s.lining.state = .releasing →
        s.lining.clampPending = false → i.clampsOpen = true →
        e = .next { opened with measuring := .window (.fresh .final c) })
    ∧ (live → s.seq.context = none → s.seq.advanceOwed = true → s.seq.state = .releasing →
        s.lining.state = .releasing → s.lining.clampPending = false → i.clampsOpen = true →
        ∃ t, e = .next t ∧ t.reportOf (followAttention s (settle (afterRecording opened))))
    ∧ (live → s.seq.state = .idle ∨ s.seq.state = .hold ∨ s.seq.state = .paused ∨ s.seq.state = .ended →
        s.lining.state = .releasing → s.lining.clampPending = false → i.clampsOpen = true → e = .next opened)
    ∧ (live → s.seq.state = .indexing → s.lining.state = .releasing → s.lining.clampPending = false →
        i.clampsOpen = true → e = .next (startIndexMove opened))
    ∧ (live → s.seq.state ≠ .tamping → s.lining.state = .releasing → i.clampsOpen = false → e = .next (s.setInputs i))
    ∧ (s.lining.frozen = true ∨ s.lining.state = .isOpen ∨ s.lining.state = .clamped
          ∨ s.lining.state = .approaching ∨ s.lining.state = .holding →
        settle (s.setInputs i) = s.setInputs i → e = .next (s.setInputs i))

/-- The clamp timer (06 R105, R117, 08 R141, R150): in CLAMPING, and in RELEASING with a clamp pending, a clamp failure
records the sleeper ABORTED with READMIT to come; in RELEASING at the end of TAMPING a release failure records it with
RELEASE_FAULT and its own outcome, with the retry to come; at a retry nothing is recorded; any other release that fails
only stops the timer; a stopped timer has no expiry. The set of heads a release waits for is the model's reading, log
entry 13. -/
def Obligations.ClampTimerFailures : Prop :=
  ∀ s : State, s.resetLow = false →
    (s.lining.clampTimer = none → settle s = s → exec .clampTimerExpiry s = .next s)
    ∧ (∀ c : Context, s.lining.clampTimer.isSome = true →
        s.lining.state = .clamping ∨ (s.lining.state = .releasing ∧ s.lining.clampPending = true
          ∧ s.lining.releaseAfterHeads = false) →
        s.seq.state = .measuring → s.seq.context = some c →
        ∃ t, exec .clampTimerExpiry s = .next t
          ∧ t.seq = { s.seq with
              state := .hold, hold := some .clampFault, context := none, reservation := 0
              retained := some c.record, resumeAction := some .readmit }
          ∧ t.results = s.results ++ [formResult c t.heads .aborted] ∧ t.measuring = .noWindow
          ∧ (∀ i : Fin 4, GoesOut (s.headEnv i) (s.heads.get i) (t.heads.get i))
          ∧ (s.lining.state = .clamping →
            let waiting := t.heads.map fun h => decide (h.state ≠ .parked)
            let u := abortOrder (heldTrack s) waiting { s.lining with clampTimer := none }
            t.lining = if waiting.anyTrue then u else releaseOrder s.inputs (heldTrack s) u)
          ∧ (s.lining.state = .releasing → ∃ a : Quad Bool,
              t.lining = { s.lining with clampTimer := none, clampPending := false, awaited := a })
          ∧ t.computer = s.computer ∧ t.plan = s.plan ∧ t.chainage = s.chainage ∧ t.stop = s.stop
          ∧ t.manualMask = s.manualMask ∧ t.keepsStores s)
    ∧ (∀ c : Context, s.lining.clampTimer.isSome = true → s.lining.state = .releasing →
        s.lining.clampPending = false → s.lining.releaseAfterHeads = false →
        s.seq.state = .releasing → s.seq.context = some c →
        let o := tampOutcome c s.heads
        ∃ t, exec .clampTimerExpiry s = .next t
          ∧ t.seq = { s.seq with
              state := .hold, hold := some .clampFault, context := none, reservation := 0
              retained := some c.record, advanceOwed := true, resumeAction := some .retryRelease }
          ∧ t.results = s.results ++ [formResult { c with flags := c.flags ||| 0x2000 } s.heads o]
          ∧ t.computer = s.computer.commit o c.correction
          ∧ t.lining = { s.lining with clampTimer := none }
          ∧ t.plan = s.plan ∧ t.chainage = s.chainage ∧ t.heads = s.heads ∧ t.measuring = s.measuring
          ∧ t.stop = s.stop ∧ t.manualMask = s.manualMask ∧ t.keepsStores s)
    ∧ (s.lining.clampTimer.isSome = true → s.lining.state = .releasing →
        s.lining.clampPending = false → s.lining.releaseAfterHeads = false →
        s.seq.state = .releasing → s.seq.context = none →
        ∃ t, exec .clampTimerExpiry s = .next t
          ∧ t.reportOf { s with
              lining := { s.lining with clampTimer := none }
              seq := { s.seq with
                state := .hold, hold := some .clampFault, resumeAction := some .retryRelease }
              latches := s.latches ||| 0x01 })
    ∧ (s.lining.clampTimer.isSome = true → s.lining.state = .releasing →
        s.lining.clampPending = false → s.lining.releaseAfterHeads = false → s.lining.frozen = false →
        s.seq.state ≠ .releasing → s.seq.state ≠ .correcting → s.seq.state ≠ .tamping →
        exec .clampTimerExpiry s = .next (s.setLining { s.lining with clampTimer := none }))

/-! ## Stops, axis supervision and the attention timer (09) -/

/-- The entry to FAULT_STOP (06 R118, 03 R63, 07 R135, 08 R152): the resume action fixed by the state left, a sleeper
in flight recorded ABORTED, the travel demand cancelled, the heads going out, the unit frozen where it stands, a
window or live delivery discarded, and the rest as it was. -/
def FaultStopEntered (s t : State) : Prop :=
  let q := s.seq
  t.seq = { q with
      state := .faultStop, hold := none, context := none
      reservation := if q.context.isSome then 0 else q.reservation
      retained := (q.context.map Context.record).or q.retained
      resumeAction := t.seq.resumeAction }
    ∧ (q.state = .indexing ∨ q.state = .measuring ∨ q.state = .correcting ∨ q.state = .tamping
        ∨ (q.state = .releasing ∧ q.context ≠ none)
        ∨ (q.state = .hold ∧ ∃ r ∈ [HoldReason.resultFull, .attentionLapse, .detectionLost, .measureLost,
            .confirmWait, .aborted, .positionFault], q.hold = some r) →
      t.seq.resumeAction = some .readmit)
    ∧ (q.state = .releasing → q.context = none → t.seq.resumeAction = some .retryRelease)
    ∧ (q.state = .paused ∨ (q.state = .hold ∧ q.hold = some .planExhausted) →
        t.seq.resumeAction = some .advance)
    ∧ (q.state = .hold → q.hold = some .clampFault ∨ q.hold = some .stopCleared →
        t.seq.resumeAction = q.resumeAction)
    ∧ (q.context = none → t.results = s.results)
    ∧ (∀ c, q.context = some c → t.results = s.results ++ [formResult c t.heads .aborted])
    ∧ t.chainage = { s.chainage with
        move := { s.chainage.move with
          state := if s.chainage.move.state = .firstMove ∨ s.chainage.move.state = .correctionMove then .cancelled
            else s.chainage.move.state
          timer := none }
        line := some .cancel }
    ∧ (∀ i : Fin 4, GoesOut (s.headEnv i) (s.heads.get i) (t.heads.get i))
    ∧ (∃ a : Quad Bool, t.lining = { s.lining with
        frozen := true, clampTimer := none, correctionTimer := none, clampPending := false
        releaseAfterHeads := false, awaited := a })
    ∧ t.measuring = .noWindow
    ∧ t.plan = s.plan ∧ t.computer = s.computer ∧ t.manualMask = s.manualMask ∧ t.params = s.params
    ∧ t.rules = s.rules ∧ t.inputs = s.inputs ∧ t.awaitFrame = s.awaitFrame

/-- What an axis frame brings to every block (09 R156, 11 R184): the watch LIVE, the values sensed, and
FOLLOW_TOL_TRAVERSE as sampled at the frame. -/
def frameSensed (s : State) (f : AxisFrame) : State :=
  { s with
    stop := { s.stop with silent := false }
    inputs := { s.inputs with axisFrame := f }
    supervisor := { s.supervisor with traverseTol := s.params.followTolTraverse } }

/-- The first axis frame after a reset at one head (07 R137 steps 3 to 6): every setpoint at the sensed position, and
OPENING, a full rise or PARKED by what is sensed; a head that becomes PARKED settles as at any entry to PARKED and
takes a prepare order that waits. `k` is the head after it, and `e` what it senses at the frame. -/
def FirstFrameAtHead (e : HeadEnv) (h k : HeadRecord) : Prop :=
  let moved := fun st : HeadState => { h with
    state := st, vibration := false
    verticalSet := e.lowering, squeezeSet := e.closing, traverseSet := e.lateral
    traverseTimer := none, tiltTimer := none, penetrationTimer := none, squeezeTimer := none }
  (e.tolSqueeze < e.closing → k = moved .opening)
  ∧ (e.closing ≤ e.tolSqueeze → e.raised = false ∨ e.tolHead < e.lowering → k = moved (.rising .full))
  ∧ (e.closing ≤ e.tolSqueeze → e.raised = true → e.lowering ≤ e.tolHead →
      h.preparePending = false ∨ e.order = none →
      k = { moved .parked with
        verticalSet := 0, squeezeSet := 0, tiltDue := .all4 .tiltOut, tilt := .all4 (some .tiltOut) })
  ∧ ∀ o : HeadOrder, e.closing ≤ e.tolSqueeze → e.raised = true → e.lowering ≤ e.tolHead →
      h.preparePending = true → e.order = some o →
      k.state = .preparing ∧ k.preparePending = false ∧ k.traverseTimer = some o.traverseTime
        ∧ k.tiltTimer = some o.tiltTime ∧ k.tilt = (tiltsFor o.arms).map some

/-- An axis frame (09 R153 to R156, 07 R137, 08 R139): every axis of the sixteen is compared with the setpoint last
sent, its count follows, and an axis at FOLLOW_COUNT latches, counts a following fault and raises its stop; the first
of them in axis order is the first cause where no stop stands, and a run state is then left for FAULT_STOP; any other
joins the further causes. Then each
head takes the frame. The first frame after a reset is not checked: it gives each head its state and the heads and the
unit their setpoints. The order supervisor, heads, unit is the model's choice, log entry 9; that a first frame which
takes a head out of PARKED cancels a travel demand is its choice too, log entry 11. -/
def Obligations.AxisFrameSupervised : Prop :=
  ∀ (s : State) (f : AxisFrame), s.resetLow = false →
    let outside := fun a => toleranceOf s.params a < |s.setpointOf a - axesGet f.sensed a|
    let count := fun a => if outside a then min 20 (axesGet s.supervisor.count a + 1) else 0
    let faulted := fun a => s.params.followCount ≤ count a ∧ s.supervisor.latches.getLsbD a.number = false
    let x := frameSensed s f
    ∃ (y z t : State), exec (.axisFrame f) s = .next t ∧ t.reportOf (followAttention s (settle z))
      ∧ t.inputs = x.inputs ∧ t.stop = y.stop ∧ t.supervisor = y.supervisor ∧ t.awaitFrame = false
      ∧ t.params = s.params ∧ t.rules = s.rules ∧ t.pending = s.pending ∧ t.computer = s.computer
      ∧ (s.awaitFrame = true → y = { x with awaitFrame := false }
          ∧ (∃ a : Quad Bool, z = { y with
              heads := z.heads, lining := { s.lining with setpoint := f.sensed.track, awaited := a }
              chainage :=
                if s.chainage.move.demandActive = true ∧ ∃ i : Fin 4, (z.heads.get i).state ≠ .parked then
                  { s.chainage with
                    move := { s.chainage.move with state := .cancelled, timer := none }, line := some .cancel }
                else s.chainage })
          ∧ ∀ i : Fin 4, FirstFrameAtHead (y.headEnv i) (s.heads.get i) (z.heads.get i))
      ∧ (s.awaitFrame = false →
          (∃ a : Quad Bool, z = { y with heads := z.heads, lining := { y.lining with awaited := a } })
          ∧ (∀ i : Fin 4, z.heads.get i = ((y.heads.get i).onFrame (y.headEnv i)).1)
          ∧ y.inputs = x.inputs ∧ y.stop.silent = false
          ∧ y.supervisor.traverseTol = s.params.followTolTraverse
          ∧ (∀ a : Axis, axesGet y.supervisor.count a = count a)
          ∧ (∀ a : Axis, y.supervisor.latches.getLsbD a.number = true
              ↔ s.supervisor.latches.getLsbD a.number = true ∨ faulted a)
          ∧ (∀ l : List Axis, l.Nodup → (∀ a : Axis, a ∈ l ↔ faulted a) →
              s.counters.get .followingFaults ≤ 65535 →
              y.counters.get .followingFaults = min 65535 (s.counters.get .followingFaults + l.length))
          ∧ ((∀ a : Axis, ¬ faulted a) → y = x.setSupervisor y.supervisor)
          ∧ (∀ c : StopCause, s.stop.first = some c → y.stop.first = some c
              ∧ ∀ a : Axis, faulted a → y.stop.further = s.stop.further ||| 1)
          ∧ (∀ a : Axis, s.stop.first = none → faulted a →
              (∀ b : Axis, b.number < a.number → ¬ faulted b) → y.stop.first = some (.following a)
                ∧ ((∃ b : Axis, faulted b ∧ b ≠ a) → y.stop.further = 1)
                ∧ ((∀ b : Axis, faulted b → b = a) → y.stop.further = 0)
                ∧ y.latches.getLsbD 1 = true)
          ∧ (s.stop.first ≠ none ∨ s.seq.state.isRun = false ∨ (∀ a : Axis, ¬ faulted a) →
              y.seq = s.seq ∧ y.heads = s.heads ∧ y.lining = s.lining ∧ y.chainage = s.chainage
                ∧ y.results = s.results ∧ y.measuring = s.measuring ∧ y.plan = s.plan)
          ∧ (∀ a : Axis, s.stop.first = none → faulted a → s.seq.state.isRun = true → FaultStopEntered x y))

/-- A stop raised by the axis line watch, by the safety chain or by a second attention lapse (09 R156 to R158,
R164, 06 R118, 03 R63, 07 R135, 08 R152): with no stop latched it becomes the first cause, and a run state is left
for FAULT_STOP with its resume action fixed, the demand cancelled, the heads going out, a sleeper in flight recorded
ABORTED, the unit frozen and the window discarded; a further cause joins the mask and moves nothing. -/
def Obligations.StopEntersFaultStop : Prop :=
  ∀ (s x : State) (cmd : Instr) (cause : StopCause), s.resetLow = false →
    (cmd = .axisLineSilenceExpiry ∧ cause = .axisLine ∧ s.stop.silent = false
        ∧ x = s.setStop { s.stop with silent := true })
      ∨ (cmd = .safetyChainChange false ∧ cause = .safetyChain ∧ s.inputs.chainClosed = true
        ∧ x = s.setInputs { s.inputs with chainClosed := false })
      ∨ (cmd = .attentionTimerExpiry ∧ cause = .attention ∧ s.attention.state = .lapsedOnce ∧ x = s) →
    (∀ c, s.stop.first = some c →
      ∃ t, exec cmd s = .next t
        ∧ t = x.setStop { x.stop with further := s.stop.further ||| cause.mask })
    ∧ (s.stop.first = none → s.seq.state.isRun = false →
        ∃ t, exec cmd s = .next t
          ∧ t.reportOf { x with
              stop := { x.stop with first := some cause, further := 0 }
              latches := s.latches ||| 0x02 })
    ∧ (s.stop.first = none → s.seq.state.isRun = true →
        ∃ t, exec cmd s = .next t
          ∧ t.stop = { x.stop with first := some cause, further := 0 }
          ∧ t.latches.getLsbD 1 = true
          ∧ FaultStopEntered x t
          ∧ (s.seq.state.attentive = true → t.attention.state = .disarmed)
          ∧ t.supervisor = s.supervisor)

/-- The attention timer and the inputs that only watch (09 R156, R157, R161 to R163): the first lapse waits with
ATTENTION_LAPSE set, an enabled operator input reloads the timer and clears the lapse, a disarmed timer takes
neither; a silent axis line lapses once, a chain that closes moves nothing, and one that is open and reported open again
raises nothing more. Activity reloads a timer that runs. An executed request is activity where ANY_REQUEST is enabled, a
CONFIRM where CONFIRM is, and a RESUME that is refused where RESUME is; a RESUME that is taken whatever the mask. The
timer is armed where the sequencer passes into a state in which it runs, and disarmed where it passes out of one; that
the period last loaded then stands is the model's choice, log entry 7; that a CONFIRM or a RESUME of the wrong length
counts too is its choice, log entry 14. -/
def Obligations.AttentionTimerAndWatches : Prop :=
  ∀ (s : State) (input : OperatorInput), s.resetLow = false →
    let bit := match input with | .pedal => 0 | .joystick => 1 | .ackButton => 2
    (s.attention.state = .disarmed →
      exec .attentionTimerExpiry s = .next s ∧ exec (.operatorInputActive input) s = .next s)
    ∧ (s.attention.state = .running →
        ∃ t, exec .attentionTimerExpiry s = .next t
          ∧ t.reportOf { s with
              attention := ⟨.lapsedOnce, s.params.attentionPeriod⟩, latches := s.latches ||| 0x20 })
    ∧ (s.attention.state ≠ .disarmed →
        exec (.operatorInputActive input) s
          = .next (if (BitVec.ofInt 6 s.params.attentionSources).getLsbD bit then
              s.setAttention ⟨.running, s.params.attentionPeriod⟩ else s))
    ∧ (s.stop.silent = true → exec .axisLineSilenceExpiry s = .next s)
    ∧ exec (.safetyChainChange true) s = .next (s.setInputs { s.inputs with chainClosed := true })
    ∧ (s.inputs.chainClosed = false → exec (.safetyChainChange false) s = .next s)
    ∧ (let reloaded := fun x : State => x.setAttention ⟨.running, x.params.attentionPeriod⟩
      let runs := fun x : State => x.seq.state = .indexing ∨ x.seq.state = .measuring ∨ x.seq.state = .correcting
        ∨ x.seq.state = .tamping ∨ x.seq.state = .releasing ∨ x.seq.state = .hold
      activity s = (if s.attention.state = .disarmed then s else reloaded s)
      ∧ (∀ (r : Request) (y : Reply),
          let enabled := fun n => (BitVec.ofInt 6 s.params.attentionSources).getLsbD n = true
          requestActivity r y s =
            if s.attention.state ≠ .disarmed
                ∧ (enabled 5 ∨ (callCode r.call = 0x33 ∧ enabled 3)
                  ∨ (callCode r.call = 0x32 ∧ y.code ≠ .ok ∧ enabled 4))
            then reloaded s else s)
      ∧ (∀ tag : Byte, s.linkReady → s.seq.state = .hold → s.attention.state ≠ .disarmed →
          s.seq.hold = some .attentionLapse ∨ s.seq.hold = some .aborted ∨ s.seq.hold = some .positionFault →
          ∃ t, exec (.resume tag) s = .next t
            ∧ (runs t → t.attention = ⟨.running, s.params.attentionPeriod⟩))
      ∧ ∀ before : State,
        (¬ runs before → runs s → followAttention before s = reloaded s)
        ∧ (runs before → ¬ runs s → followAttention before s = s.setAttention { s.attention with state := .disarmed })
        ∧ ((runs before ↔ runs s) → followAttention before s = s))

/-! ## Workheads (07) -/

/-- The sensors and timers of one head (07 R123, R126, R128, R130, R131, R134, R137): the change of its record, and
what follows at the end of the event. Before the first axis frame after a reset no setpoint is sent, and a head takes
its state from its head-raised sensor; that it then holds a prepare order on, and that a head out of PARKED cancels a
travel demand, are the model's choices, log entry 11. After it the raised report that ends a full rise takes a prepare
order that is pending. That a report of the level that stands is tested like one that changes it is the model's choice,
log entry 24. -/
def Obligations.HeadSensorsAndTimers : Prop :=
  ∀ (s : State) (i arm : Fin 4) (report : TiltReport) (raised : Bool), s.resetLow = false →
    let h := s.heads.get i
    let put := fun (x : State) (k : HeadRecord) => x.setHeads (s.heads.set i k)
    let parked := fun (x : State) (k : HeadRecord) =>
      (put x k).setLining { s.lining with awaited := s.lining.awaited.set i false }
    let follows := fun (c : Instr) (x : State) =>
      ∃ t, exec c s = .next t ∧ t.reportOf (followAttention s (settle x))
    let x := s.setInputs (tiltLevel i arm report s.inputs)
    let lifted := s.setInputs (raisedLevel i raised s.inputs)
    let given := if raised then { h with tilt := h.tiltDue.map some } else h
    ((h.working = true → (x.headEnv i).guard = false →
        follows (.tiltSensorReport i arm report)
          (put x { h with
            state := if h.state = .penetrating then .rising .full else .opening
            outcome := some .tiltFault, vibration := false, penetrationTimer := none
            squeezeTimer := none }))
      ∧ (h.working = true → (x.headEnv i).guard = true →
          follows (.tiltSensorReport i arm report) x)
      ∧ (h.working = false → h.state ≠ .preparing → follows (.tiltSensorReport i arm report) x)
      ∧ ∀ o : HeadOrder, h.state = .preparing → (x.headEnv i).order = some o →
          follows (.tiltSensorReport i arm report)
            (if |s.inputs.axisFrame.sensed.trav.get i - o.target| ≤ s.supervisor.traverseTol
                ∧ ∀ k : Fin 4, (x.inputs.tilt.get i).get k = (if o.arms.get k then .tiltIn else .tiltOut)
              then put x { h with
                state := .ready, traverseTimer := none, tiltTimer := none
                traverseSet := if s.awaitFrame then h.traverseSet else o.target }
              else x))
    ∧ (s.awaitFrame = false →
        (h.state = .rising .full → h.verticalSet = 0 → raised = true →
          h.preparePending = false ∨ s.seq.context = none →
          follows (.headRaisedSensorReport i raised)
            (parked lifted { given with
              state := .parked, vibration := false, verticalSet := 0, squeezeSet := 0
              traverseSet := s.inputs.axisFrame.sensed.trav.get i
              traverseTimer := none, tiltTimer := none, penetrationTimer := none, squeezeTimer := none
              tiltDue := .all4 .tiltOut, tilt := .all4 (some .tiltOut) }))
        ∧ (∀ o : HeadOrder, (s.headEnv i).order = some o → h.state = .rising .full → h.verticalSet = 0 →
            raised = true → h.preparePending = true →
            follows (.headRaisedSensorReport i raised)
              (parked lifted { given with
                state := .preparing, vibration := false, verticalSet := 0, squeezeSet := 0
                traverseSet := s.inputs.axisFrame.sensed.trav.get i
                traverseTimer := some o.traverseTime, tiltTimer := some o.tiltTime
                penetrationTimer := none, squeezeTimer := none, preparePending := false
                tiltDue := tiltsFor o.arms, tilt := (tiltsFor o.arms).map some }))
        ∧ (h.state ≠ .rising .full ∨ h.verticalSet ≠ 0 ∨ raised = false →
            follows (.headRaisedSensorReport i raised) (put lifted given)))
    ∧ (s.awaitFrame = true →
        let rests := fun st : HeadState => { given with
          state := st, vibration := false
          traverseTimer := none, tiltTimer := none, penetrationTimer := none, squeezeTimer := none }
        let kept := fun y : State =>
          if s.chainage.move.demandActive = true ∧ ∃ j : Fin 4, (y.heads.get j).state ≠ .parked then
            y.setChainage { s.chainage with
              move := { s.chainage.move with state := .cancelled, timer := none }, line := some .cancel }
          else y
        (raised = false →
          follows (.headRaisedSensorReport i raised) (kept (put lifted (rests (.rising .full)))))
        ∧ (raised = true → h.state = .parked →
            follows (.headRaisedSensorReport i raised) (kept (put lifted given)))
        ∧ (raised = true → h.state ≠ .parked →
            follows (.headRaisedSensorReport i raised)
              (kept (parked lifted { rests .parked with
                tiltDue := .all4 .tiltOut, tilt := .all4 (some .tiltOut) }))))
    ∧ (h.state = .preparing → h.preparePending = false →
        let fault := fun o : HeadOutcome => parked s { h with
          state := .parked, outcome := some o, vibration := false
          verticalSet := if s.awaitFrame then h.verticalSet else 0
          squeezeSet := if s.awaitFrame then h.squeezeSet else 0
          traverseSet := if s.awaitFrame then h.traverseSet else s.inputs.axisFrame.sensed.trav.get i
          traverseTimer := none, tiltTimer := none, penetrationTimer := none, squeezeTimer := none
          tiltDue := .all4 .tiltOut
          tilt := if s.inputs.raised.get i then .all4 (some .tiltOut) else h.tilt }
        (h.traverseTimer.isSome = true → follows (.traverseTimerExpiry i) (fault .traverseFault))
        ∧ (h.tiltTimer.isSome = true → follows (.tiltTimerExpiry i) (fault .tiltFault)))
    ∧ (h.state ≠ .preparing →
        exec (.traverseTimerExpiry i) s = .next s ∧ exec (.tiltTimerExpiry i) s = .next s)
    ∧ (h.state = .penetrating → h.penetrationTimer.isSome = true →
        exec (.penetrationTimerExpiry i) s
          = .next ((put s { h with
              state := .rising .full, outcome := some .struck, vibration := false
              penetrationTimer := none, squeezeTimer := none }).setCounters
                (s.counters.bump .headsStruck)))
    ∧ (h.state ≠ .penetrating → exec (.penetrationTimerExpiry i) s = .next s)
    ∧ (h.state = .squeezing → h.squeezeTimer.isSome = true →
        exec (.squeezeTimerExpiry i) s
          = .next (put s { h with
              state := .opening, vibration := false, squeezeTimer := none
              results := h.results ++ [.timeLimited]
              outcome := if h.planned ≤ h.results.length + 1 then some .timeLimited else h.outcome }))
    ∧ (h.state ≠ .squeezing → exec (.squeezeTimerExpiry i) s = .next s)

/-- The strokes of a head at an axis frame (07 R122, R125, R126, R129, R131, R132, R134 to R137): a working stroke leads
the sensed position by half the tolerance and stops at its end, a traverse setpoint waits 260 mm short of a neighbour in
its way, a return stroke steps by 3 mm or 2 mm, and each phase ends as its rule says. The return strokes of OPENING and
of a full rise are those of a head with no sleeper in flight too, after a going out or a reset. That the frame that ends
a phase steps the stroke first, and that a new phase steps from the next frame on, is the model's choice, log entry 10.
The tamp start begins the insertion of a READY head whose guard holds, and parks one whose guard does not with
TILT_FAULT; a head in another state ignores it (07 R127, R129). The guard is the unit HOLDING and every arm outside the
enabled mask confirmed tilted out. -/
def Obligations.HeadStrokesAtFrame : Prop :=
  (∀ (s : State) (i : Fin 4),
    s.headsTampStart.heads.get i = ((s.heads.get i).tampStart (s.headEnv i)).1
    ∧ ((s.headEnv i).guard = true ↔ s.lining.state = .holding
        ∧ ∃ c : Context, s.seq.context = some c
          ∧ ∀ k : Fin 4, armIn c.enabled i k = false → (s.inputs.tilt.get i).get k = .tiltOut))
  ∧ (∀ (e : HeadEnv) (h : HeadRecord), e.awaits = false →
    let up := if 0 < h.verticalSet then max 0 (h.verticalSet - 3) else min 0 (h.verticalSet + 3)
    let raised := { h with
      vibration := false, verticalSet := 0, squeezeSet := 0, traverseSet := e.lateral
      penetrationTimer := none, squeezeTimer := none }
    (h.state = .parked ∨ h.state = .ready → h.onFrame e = (h, false))
    ∧ (h.state = .opening → ∃ k : HeadRecord, h.onFrame e = (k, false)
        ∧ k.squeezeSet = (if 0 < h.squeezeSet then max 0 (h.squeezeSet - 2)
            else min 0 (h.squeezeSet + 2))
        ∧ k = { h with squeezeSet := k.squeezeSet, state := k.state }
        ∧ (k.squeezeSet = 0 ∧ |e.closing| ≤ e.tolSqueeze →
            k.state = .rising
              (if h.begun = 1 ∧ h.planned = 2 ∧ h.outcome = none then .partway else .full))
        ∧ (¬ (k.squeezeSet = 0 ∧ |e.closing| ≤ e.tolSqueeze) → k.state = .opening))
    ∧ (h.state = .rising .full → up ≠ 0 ∨ e.raised = false → h.onFrame e = ({ h with verticalSet := up }, false))
    ∧ (h.state = .rising .full → up = 0 → e.raised = true → h.preparePending = false ∨ e.order = none →
        h.onFrame e = ({ raised with
          state := .parked, traverseTimer := none, tiltTimer := none
          tiltDue := .all4 .tiltOut, tilt := .all4 (some .tiltOut) }, true))
    ∧ (∀ o : HeadOrder, h.state = .rising .full → up = 0 → e.raised = true → h.preparePending = true →
        e.order = some o →
        h.onFrame e = ({ raised with
          state := .preparing, preparePending := false
          traverseTimer := some o.traverseTime, tiltTimer := some o.tiltTime
          tiltDue := tiltsFor o.arms, tilt := (tiltsFor o.arms).map some }, true)))
  ∧ ∀ (e : HeadEnv) (h : HeadRecord) (o : HeadOrder), e.order = some o → e.awaits = false →
    (h.state ≠ .ready → h.tampStart e = (h, false))
    ∧ (h.state = .ready → e.guard = true → h.tampStart e
        = ({ h with state := .penetrating, begun := h.begun + 1, vibration := true
                    penetrationTimer := some o.penetrationTime }, false))
    ∧ (h.state = .ready → e.guard = false → h.preparePending = false → h.tampStart e
        = ({ h with
            state := .parked, outcome := some .tiltFault, vibration := false
            verticalSet := 0, squeezeSet := 0, traverseSet := e.lateral
            traverseTimer := none, tiltTimer := none, penetrationTimer := none, squeezeTimer := none
            tiltDue := .all4 .tiltOut, tilt := if e.raised then .all4 (some .tiltOut) else h.tilt }, true))
    ∧ (h.state = .preparing →
        let sp := if e.lateral ≤ o.target then min o.target (e.lateral + e.tolTraverse / 2)
          else max o.target (e.lateral - e.tolTraverse / 2)
        (∀ l, e.below = some l → l + 260 ≤ sp) → (∀ u, e.above = some u → sp ≤ u - 260) →
        h.onFrame e = (if |e.lateral - o.target| ≤ e.tolTraverse
              ∧ ∀ k : Fin 4, e.tilt.get k = (if o.arms.get k then .tiltIn else .tiltOut)
            then { h with
              state := .ready, traverseTimer := none, tiltTimer := none, traverseSet := o.target }
            else { h with traverseSet := sp }, false))
    ∧ (h.state = .preparing →
        let sp := if e.lateral ≤ o.target then min o.target (e.lateral + e.tolTraverse / 2)
          else max o.target (e.lateral - e.tolTraverse / 2)
        let below := match e.above with
          | some u => min sp (u - 260)
          | none => sp
        let waits := match e.below with
          | some l => max below (l + 260)
          | none => below
        (∀ l, e.below = some l → l + 260 ≤ e.lateral) → (∀ u, e.above = some u → e.lateral ≤ u - 260) →
        h.onFrame e = (if |e.lateral - o.target| ≤ e.tolTraverse
              ∧ ∀ k : Fin 4, e.tilt.get k = (if o.arms.get k then .tiltIn else .tiltOut)
            then { h with
              state := .ready, traverseTimer := none, tiltTimer := none, traverseSet := o.target }
            else { h with traverseSet := waits }, false))
    ∧ (h.state = .penetrating → e.lowering < o.depth →
        h.onFrame e = ({ h with
          depth := max h.depth e.lowering
          verticalSet := min (o.depth + e.tolHead / 2) (e.lowering + e.tolHead / 2) }, false))
    ∧ (h.state = .penetrating → o.depth ≤ e.lowering →
        h.onFrame e = ({ h with
          state := .squeezing, depth := max h.depth e.lowering, penetrationTimer := none
          verticalSet := o.depth, squeezeTimer := some o.squeezeTime }, false))
    ∧ (h.state = .squeezing → (e.pressure : Int) < o.pressure →
        h.onFrame e = ({ h with
          depth := max h.depth e.lowering, peak := max h.peak e.pressure
          squeezeSet := min 200 (e.closing + e.tolSqueeze / 2) }, false))
    ∧ (h.state = .squeezing → o.pressure ≤ (e.pressure : Int) →
        ∃ k : HeadRecord, h.onFrame e = (k, false) ∧ k.state = .opening ∧ k.vibration = false
          ∧ k.squeezeTimer = none ∧ k.results = h.results ++ [.complete]
          ∧ k.depth = max h.depth e.lowering ∧ k.peak = max h.peak e.pressure
          ∧ (h.planned ≤ h.results.length + 1 → k.outcome
              = some (if SqueezeResult.timeLimited ∈ h.results then .timeLimited else .complete))
          ∧ (h.results.length + 1 < h.planned → k.outcome = h.outcome))
    ∧ (h.state = .rising .partway → ∃ k : HeadRecord, h.onFrame e = (k, false)
        ∧ k.verticalSet = (if o.depth - 150 < h.verticalSet then
            max (o.depth - 150) (h.verticalSet - 3) else min (o.depth - 150) (h.verticalSet + 3))
        ∧ (let back := k.verticalSet = o.depth - 150
              ∧ |e.lowering - (o.depth - 150)| ≤ e.tolHead
          (¬ back → k = { h with verticalSet := k.verticalSet })
          ∧ (back → e.guard = true → k.state = .penetrating ∧ k.begun = h.begun + 1
              ∧ k.vibration = true ∧ k.penetrationTimer = some o.penetrationTime)
          ∧ (back → e.guard = false → k.state = .rising .full ∧ k.outcome = some .tiltFault)))

/-! ## What every step keeps -/

/-- The queues of the link, the counters, the parameters and the consecutive counts keep their bounds at every
step (11 R178, R182, R184, 10 R175, 03 R60, 04 R77, 09 R153). That the miss and degraded counts stay at 3 is the
model's reading, log entry 28. -/
def Obligations.StepKeepsBounds : Prop :=
  ∀ s t : State, step s = .next t →
    (s.linkLaw → t.linkLaw) ∧ (s.counterLaw → t.counterLaw) ∧ (s.paramLaw → t.paramLaw)
    ∧ (s.countLaw → t.countLaw)

/-- The records of the result queue with the reservation never exceed 32, and the reservation stands exactly while
a sleeper is in flight (10 R165, 06 R95). -/
def Obligations.StepKeepsResultLaw : Prop :=
  ∀ s t : State, step s = .next t → s.flightLaw → s.resultLaw → t.flightLaw ∧ t.resultLaw

/-- INDEXING, MEASURING, CORRECTING and TAMPING imply a clear stop latch (06 R118); kept together with the two
facts it rests on: a demand is active only in INDEXING, and a context stands only with a sleeper in flight. -/
def Obligations.StepKeepsStopLaw : Prop :=
  ∀ s t : State, step s = .next t → s.cycleLaw → t.cycleLaw

/-- The attention timer is DISARMED exactly in the states in which it does not run (09 R161). -/
def Obligations.StepKeepsAttentionLaw : Prop :=
  ∀ s t : State, step s = .next t →
    (s.attention.state = .disarmed ↔ s.seq.state.attentive = false) →
    (t.attention.state = .disarmed ↔ t.seq.state.attentive = false)

/-- Vibration is on exactly in PENETRATING and SQUEEZING (07 R121). A release after heads waits for a head that is
not PARKED, the law the start of a run rests on: the set of awaited heads is the model's reading of 08 R151, log
entry 13. -/
def Obligations.StepKeepsHeadLaws : Prop :=
  ∀ s t : State, step s = .next t → (s.vibrationLaw → t.vibrationLaw) ∧ (s.awaitLaw → t.awaitLaw)

/-- The law of the travel line (03 R47): a demand is active only while the unit is OPEN and every head PARKED, before
the first axis frame after a reset too. That a demand is cancelled where the sensors take a head out of PARKED in that
time, and at that frame, is the model's choice, log entry 11. -/
def Obligations.StepKeepsTravelLaw : Prop :=
  ∀ s t : State, step s = .next t → s.cycleLaw → s.awaitLaw → s.travelLaw → t.travelLaw

/-- A page is ACTIVE exactly where a pointer stands in it; READY and ACTIVE pages hold their records without a gap and
in rising chainage; a pointer stands on a record, and the pointers stand exactly while a run is in progress, the front
never behind the workhead (01 R2, R7, R17, R25). The laws of the cycle and of the unit rule out a window or a demand
that no run has. -/
def Obligations.StepKeepsPlanLaw : Prop :=
  ∀ s t : State, step s = .next t → s.paramLaw → s.cycleLaw → s.unitPhaseLaw → s.planLaw → t.planLaw

/-- The penetration guard (07 R127): a head is in PENETRATING or SQUEEZING only while the unit is HOLDING and every arm
of it outside the enabled mask is confirmed tilted out. It is kept together with what the heads and the unit do by the
state of the sequencer. That the law is asked only while the reset line is not held low, that heads are awaited by a
set, and what stands before the first axis frame after a reset, are the model's choices, log entries 5, 13 and 11. -/
def Obligations.StepKeepsGuardLaw : Prop :=
  ∀ s t : State, step s = .next t → s.cycleLaw → s.awaitLaw → s.headPhaseLaw → s.unitPhaseLaw →
    s.firstFrameLaw → s.guardLaw →
    t.headPhaseLaw ∧ t.unitPhaseLaw ∧ t.firstFrameLaw ∧ t.guardLaw

/-- Right after reset every law of the steps holds. -/
def Obligations.ResetKeepsEveryLaw : Prop :=
  State.reset.linkLaw ∧ State.reset.counterLaw ∧ State.reset.paramLaw ∧ State.reset.countLaw
    ∧ State.reset.flightLaw ∧ State.reset.resultLaw ∧ State.reset.cycleLaw
    ∧ (State.reset.attention.state = .disarmed ↔ State.reset.seq.state.attentive = false)
    ∧ State.reset.vibrationLaw ∧ State.reset.awaitLaw ∧ State.reset.travelLaw
    ∧ State.reset.planLaw ∧ State.reset.headPhaseLaw ∧ State.reset.unitPhaseLaw
    ∧ State.reset.firstFrameLaw ∧ State.reset.guardLaw
end

