-- ==== Sys2Proof/Laws/State.lean ====
section
/-! SUPPORT. One lemma per field per update of the state, and what each change of one block is as an update. -/

namespace Sys2Proof.Machine

variable (s : State)

/-! ### `State.setPending` -/

@[simp] theorem State.setPending_pending (x : List Instr) : (s.setPending x).pending = x := rfl
@[simp] theorem State.setPending_resetLow (x : List Instr) : (s.setPending x).resetLow = s.resetLow := rfl
@[simp] theorem State.setPending_inputs (x : List Instr) : (s.setPending x).inputs = s.inputs := rfl
@[simp] theorem State.setPending_awaitFrame (x : List Instr) : (s.setPending x).awaitFrame = s.awaitFrame := rfl
@[simp] theorem State.setPending_link (x : List Instr) : (s.setPending x).link = s.link := rfl
@[simp] theorem State.setPending_params (x : List Instr) : (s.setPending x).params = s.params := rfl
@[simp] theorem State.setPending_plan (x : List Instr) : (s.setPending x).plan = s.plan := rfl
@[simp] theorem State.setPending_rules (x : List Instr) : (s.setPending x).rules = s.rules := rfl
@[simp] theorem State.setPending_manualMask (x : List Instr) : (s.setPending x).manualMask = s.manualMask := rfl
@[simp] theorem State.setPending_chainage (x : List Instr) : (s.setPending x).chainage = s.chainage := rfl
@[simp] theorem State.setPending_measuring (x : List Instr) : (s.setPending x).measuring = s.measuring := rfl
@[simp] theorem State.setPending_computer (x : List Instr) : (s.setPending x).computer = s.computer := rfl
@[simp] theorem State.setPending_seq (x : List Instr) : (s.setPending x).seq = s.seq := rfl
@[simp] theorem State.setPending_heads (x : List Instr) : (s.setPending x).heads = s.heads := rfl
@[simp] theorem State.setPending_lining (x : List Instr) : (s.setPending x).lining = s.lining := rfl
@[simp] theorem State.setPending_supervisor (x : List Instr) : (s.setPending x).supervisor = s.supervisor := rfl
@[simp] theorem State.setPending_stop (x : List Instr) : (s.setPending x).stop = s.stop := rfl
@[simp] theorem State.setPending_attention (x : List Instr) : (s.setPending x).attention = s.attention := rfl
@[simp] theorem State.setPending_results (x : List Instr) : (s.setPending x).results = s.results := rfl
@[simp] theorem State.setPending_latches (x : List Instr) : (s.setPending x).latches = s.latches := rfl
@[simp] theorem State.setPending_counters (x : List Instr) : (s.setPending x).counters = s.counters := rfl

/-! ### `State.setResetLow` -/

@[simp] theorem State.setResetLow_pending (x : Bool) : (s.setResetLow x).pending = s.pending := rfl
@[simp] theorem State.setResetLow_resetLow (x : Bool) : (s.setResetLow x).resetLow = x := rfl
@[simp] theorem State.setResetLow_inputs (x : Bool) : (s.setResetLow x).inputs = s.inputs := rfl
@[simp] theorem State.setResetLow_awaitFrame (x : Bool) : (s.setResetLow x).awaitFrame = s.awaitFrame := rfl
@[simp] theorem State.setResetLow_link (x : Bool) : (s.setResetLow x).link = s.link := rfl
@[simp] theorem State.setResetLow_params (x : Bool) : (s.setResetLow x).params = s.params := rfl
@[simp] theorem State.setResetLow_plan (x : Bool) : (s.setResetLow x).plan = s.plan := rfl
@[simp] theorem State.setResetLow_rules (x : Bool) : (s.setResetLow x).rules = s.rules := rfl
@[simp] theorem State.setResetLow_manualMask (x : Bool) : (s.setResetLow x).manualMask = s.manualMask := rfl
@[simp] theorem State.setResetLow_chainage (x : Bool) : (s.setResetLow x).chainage = s.chainage := rfl
@[simp] theorem State.setResetLow_measuring (x : Bool) : (s.setResetLow x).measuring = s.measuring := rfl
@[simp] theorem State.setResetLow_computer (x : Bool) : (s.setResetLow x).computer = s.computer := rfl
@[simp] theorem State.setResetLow_seq (x : Bool) : (s.setResetLow x).seq = s.seq := rfl
@[simp] theorem State.setResetLow_heads (x : Bool) : (s.setResetLow x).heads = s.heads := rfl
@[simp] theorem State.setResetLow_lining (x : Bool) : (s.setResetLow x).lining = s.lining := rfl
@[simp] theorem State.setResetLow_supervisor (x : Bool) : (s.setResetLow x).supervisor = s.supervisor := rfl
@[simp] theorem State.setResetLow_stop (x : Bool) : (s.setResetLow x).stop = s.stop := rfl
@[simp] theorem State.setResetLow_attention (x : Bool) : (s.setResetLow x).attention = s.attention := rfl
@[simp] theorem State.setResetLow_results (x : Bool) : (s.setResetLow x).results = s.results := rfl
@[simp] theorem State.setResetLow_latches (x : Bool) : (s.setResetLow x).latches = s.latches := rfl
@[simp] theorem State.setResetLow_counters (x : Bool) : (s.setResetLow x).counters = s.counters := rfl

/-! ### `State.setInputs` -/

@[simp] theorem State.setInputs_pending (x : Inputs) : (s.setInputs x).pending = s.pending := rfl
@[simp] theorem State.setInputs_resetLow (x : Inputs) : (s.setInputs x).resetLow = s.resetLow := rfl
@[simp] theorem State.setInputs_inputs (x : Inputs) : (s.setInputs x).inputs = x := rfl
@[simp] theorem State.setInputs_awaitFrame (x : Inputs) : (s.setInputs x).awaitFrame = s.awaitFrame := rfl
@[simp] theorem State.setInputs_link (x : Inputs) : (s.setInputs x).link = s.link := rfl
@[simp] theorem State.setInputs_params (x : Inputs) : (s.setInputs x).params = s.params := rfl
@[simp] theorem State.setInputs_plan (x : Inputs) : (s.setInputs x).plan = s.plan := rfl
@[simp] theorem State.setInputs_rules (x : Inputs) : (s.setInputs x).rules = s.rules := rfl
@[simp] theorem State.setInputs_manualMask (x : Inputs) : (s.setInputs x).manualMask = s.manualMask := rfl
@[simp] theorem State.setInputs_chainage (x : Inputs) : (s.setInputs x).chainage = s.chainage := rfl
@[simp] theorem State.setInputs_measuring (x : Inputs) : (s.setInputs x).measuring = s.measuring := rfl
@[simp] theorem State.setInputs_computer (x : Inputs) : (s.setInputs x).computer = s.computer := rfl
@[simp] theorem State.setInputs_seq (x : Inputs) : (s.setInputs x).seq = s.seq := rfl
@[simp] theorem State.setInputs_heads (x : Inputs) : (s.setInputs x).heads = s.heads := rfl
@[simp] theorem State.setInputs_lining (x : Inputs) : (s.setInputs x).lining = s.lining := rfl
@[simp] theorem State.setInputs_supervisor (x : Inputs) : (s.setInputs x).supervisor = s.supervisor := rfl
@[simp] theorem State.setInputs_stop (x : Inputs) : (s.setInputs x).stop = s.stop := rfl
@[simp] theorem State.setInputs_attention (x : Inputs) : (s.setInputs x).attention = s.attention := rfl
@[simp] theorem State.setInputs_results (x : Inputs) : (s.setInputs x).results = s.results := rfl
@[simp] theorem State.setInputs_latches (x : Inputs) : (s.setInputs x).latches = s.latches := rfl
@[simp] theorem State.setInputs_counters (x : Inputs) : (s.setInputs x).counters = s.counters := rfl

/-! ### `State.setAwaitFrame` -/

@[simp] theorem State.setAwaitFrame_pending (x : Bool) : (s.setAwaitFrame x).pending = s.pending := rfl
@[simp] theorem State.setAwaitFrame_resetLow (x : Bool) : (s.setAwaitFrame x).resetLow = s.resetLow := rfl
@[simp] theorem State.setAwaitFrame_inputs (x : Bool) : (s.setAwaitFrame x).inputs = s.inputs := rfl
@[simp] theorem State.setAwaitFrame_awaitFrame (x : Bool) : (s.setAwaitFrame x).awaitFrame = x := rfl
@[simp] theorem State.setAwaitFrame_link (x : Bool) : (s.setAwaitFrame x).link = s.link := rfl
@[simp] theorem State.setAwaitFrame_params (x : Bool) : (s.setAwaitFrame x).params = s.params := rfl
@[simp] theorem State.setAwaitFrame_plan (x : Bool) : (s.setAwaitFrame x).plan = s.plan := rfl
@[simp] theorem State.setAwaitFrame_rules (x : Bool) : (s.setAwaitFrame x).rules = s.rules := rfl
@[simp] theorem State.setAwaitFrame_manualMask (x : Bool) : (s.setAwaitFrame x).manualMask = s.manualMask := rfl
@[simp] theorem State.setAwaitFrame_chainage (x : Bool) : (s.setAwaitFrame x).chainage = s.chainage := rfl
@[simp] theorem State.setAwaitFrame_measuring (x : Bool) : (s.setAwaitFrame x).measuring = s.measuring := rfl
@[simp] theorem State.setAwaitFrame_computer (x : Bool) : (s.setAwaitFrame x).computer = s.computer := rfl
@[simp] theorem State.setAwaitFrame_seq (x : Bool) : (s.setAwaitFrame x).seq = s.seq := rfl
@[simp] theorem State.setAwaitFrame_heads (x : Bool) : (s.setAwaitFrame x).heads = s.heads := rfl
@[simp] theorem State.setAwaitFrame_lining (x : Bool) : (s.setAwaitFrame x).lining = s.lining := rfl
@[simp] theorem State.setAwaitFrame_supervisor (x : Bool) : (s.setAwaitFrame x).supervisor = s.supervisor := rfl
@[simp] theorem State.setAwaitFrame_stop (x : Bool) : (s.setAwaitFrame x).stop = s.stop := rfl
@[simp] theorem State.setAwaitFrame_attention (x : Bool) : (s.setAwaitFrame x).attention = s.attention := rfl
@[simp] theorem State.setAwaitFrame_results (x : Bool) : (s.setAwaitFrame x).results = s.results := rfl
@[simp] theorem State.setAwaitFrame_latches (x : Bool) : (s.setAwaitFrame x).latches = s.latches := rfl
@[simp] theorem State.setAwaitFrame_counters (x : Bool) : (s.setAwaitFrame x).counters = s.counters := rfl

/-! ### `State.setLink` -/

@[simp] theorem State.setLink_pending (x : Link) : (s.setLink x).pending = s.pending := rfl
@[simp] theorem State.setLink_resetLow (x : Link) : (s.setLink x).resetLow = s.resetLow := rfl
@[simp] theorem State.setLink_inputs (x : Link) : (s.setLink x).inputs = s.inputs := rfl
@[simp] theorem State.setLink_awaitFrame (x : Link) : (s.setLink x).awaitFrame = s.awaitFrame := rfl
@[simp] theorem State.setLink_link (x : Link) : (s.setLink x).link = x := rfl
@[simp] theorem State.setLink_params (x : Link) : (s.setLink x).params = s.params := rfl
@[simp] theorem State.setLink_plan (x : Link) : (s.setLink x).plan = s.plan := rfl
@[simp] theorem State.setLink_rules (x : Link) : (s.setLink x).rules = s.rules := rfl
@[simp] theorem State.setLink_manualMask (x : Link) : (s.setLink x).manualMask = s.manualMask := rfl
@[simp] theorem State.setLink_chainage (x : Link) : (s.setLink x).chainage = s.chainage := rfl
@[simp] theorem State.setLink_measuring (x : Link) : (s.setLink x).measuring = s.measuring := rfl
@[simp] theorem State.setLink_computer (x : Link) : (s.setLink x).computer = s.computer := rfl
@[simp] theorem State.setLink_seq (x : Link) : (s.setLink x).seq = s.seq := rfl
@[simp] theorem State.setLink_heads (x : Link) : (s.setLink x).heads = s.heads := rfl
@[simp] theorem State.setLink_lining (x : Link) : (s.setLink x).lining = s.lining := rfl
@[simp] theorem State.setLink_supervisor (x : Link) : (s.setLink x).supervisor = s.supervisor := rfl
@[simp] theorem State.setLink_stop (x : Link) : (s.setLink x).stop = s.stop := rfl
@[simp] theorem State.setLink_attention (x : Link) : (s.setLink x).attention = s.attention := rfl
@[simp] theorem State.setLink_results (x : Link) : (s.setLink x).results = s.results := rfl
@[simp] theorem State.setLink_latches (x : Link) : (s.setLink x).latches = s.latches := rfl
@[simp] theorem State.setLink_counters (x : Link) : (s.setLink x).counters = s.counters := rfl

/-! ### `State.setParams` -/

@[simp] theorem State.setParams_pending (x : Params) : (s.setParams x).pending = s.pending := rfl
@[simp] theorem State.setParams_resetLow (x : Params) : (s.setParams x).resetLow = s.resetLow := rfl
@[simp] theorem State.setParams_inputs (x : Params) : (s.setParams x).inputs = s.inputs := rfl
@[simp] theorem State.setParams_awaitFrame (x : Params) : (s.setParams x).awaitFrame = s.awaitFrame := rfl
@[simp] theorem State.setParams_link (x : Params) : (s.setParams x).link = s.link := rfl
@[simp] theorem State.setParams_params (x : Params) : (s.setParams x).params = x := rfl
@[simp] theorem State.setParams_plan (x : Params) : (s.setParams x).plan = s.plan := rfl
@[simp] theorem State.setParams_rules (x : Params) : (s.setParams x).rules = s.rules := rfl
@[simp] theorem State.setParams_manualMask (x : Params) : (s.setParams x).manualMask = s.manualMask := rfl
@[simp] theorem State.setParams_chainage (x : Params) : (s.setParams x).chainage = s.chainage := rfl
@[simp] theorem State.setParams_measuring (x : Params) : (s.setParams x).measuring = s.measuring := rfl
@[simp] theorem State.setParams_computer (x : Params) : (s.setParams x).computer = s.computer := rfl
@[simp] theorem State.setParams_seq (x : Params) : (s.setParams x).seq = s.seq := rfl
@[simp] theorem State.setParams_heads (x : Params) : (s.setParams x).heads = s.heads := rfl
@[simp] theorem State.setParams_lining (x : Params) : (s.setParams x).lining = s.lining := rfl
@[simp] theorem State.setParams_supervisor (x : Params) : (s.setParams x).supervisor = s.supervisor := rfl
@[simp] theorem State.setParams_stop (x : Params) : (s.setParams x).stop = s.stop := rfl
@[simp] theorem State.setParams_attention (x : Params) : (s.setParams x).attention = s.attention := rfl
@[simp] theorem State.setParams_results (x : Params) : (s.setParams x).results = s.results := rfl
@[simp] theorem State.setParams_latches (x : Params) : (s.setParams x).latches = s.latches := rfl
@[simp] theorem State.setParams_counters (x : Params) : (s.setParams x).counters = s.counters := rfl

/-! ### `State.setPlan` -/

@[simp] theorem State.setPlan_pending (x : PlanStore) : (s.setPlan x).pending = s.pending := rfl
@[simp] theorem State.setPlan_resetLow (x : PlanStore) : (s.setPlan x).resetLow = s.resetLow := rfl
@[simp] theorem State.setPlan_inputs (x : PlanStore) : (s.setPlan x).inputs = s.inputs := rfl
@[simp] theorem State.setPlan_awaitFrame (x : PlanStore) : (s.setPlan x).awaitFrame = s.awaitFrame := rfl
@[simp] theorem State.setPlan_link (x : PlanStore) : (s.setPlan x).link = s.link := rfl
@[simp] theorem State.setPlan_params (x : PlanStore) : (s.setPlan x).params = s.params := rfl
@[simp] theorem State.setPlan_plan (x : PlanStore) : (s.setPlan x).plan = x := rfl
@[simp] theorem State.setPlan_rules (x : PlanStore) : (s.setPlan x).rules = s.rules := rfl
@[simp] theorem State.setPlan_manualMask (x : PlanStore) : (s.setPlan x).manualMask = s.manualMask := rfl
@[simp] theorem State.setPlan_chainage (x : PlanStore) : (s.setPlan x).chainage = s.chainage := rfl
@[simp] theorem State.setPlan_measuring (x : PlanStore) : (s.setPlan x).measuring = s.measuring := rfl
@[simp] theorem State.setPlan_computer (x : PlanStore) : (s.setPlan x).computer = s.computer := rfl
@[simp] theorem State.setPlan_seq (x : PlanStore) : (s.setPlan x).seq = s.seq := rfl
@[simp] theorem State.setPlan_heads (x : PlanStore) : (s.setPlan x).heads = s.heads := rfl
@[simp] theorem State.setPlan_lining (x : PlanStore) : (s.setPlan x).lining = s.lining := rfl
@[simp] theorem State.setPlan_supervisor (x : PlanStore) : (s.setPlan x).supervisor = s.supervisor := rfl
@[simp] theorem State.setPlan_stop (x : PlanStore) : (s.setPlan x).stop = s.stop := rfl
@[simp] theorem State.setPlan_attention (x : PlanStore) : (s.setPlan x).attention = s.attention := rfl
@[simp] theorem State.setPlan_results (x : PlanStore) : (s.setPlan x).results = s.results := rfl
@[simp] theorem State.setPlan_latches (x : PlanStore) : (s.setPlan x).latches = s.latches := rfl
@[simp] theorem State.setPlan_counters (x : PlanStore) : (s.setPlan x).counters = s.counters := rfl

/-! ### `State.setRules` -/

@[simp] theorem State.setRules_pending (x : List ZoneRule) : (s.setRules x).pending = s.pending := rfl
@[simp] theorem State.setRules_resetLow (x : List ZoneRule) : (s.setRules x).resetLow = s.resetLow := rfl
@[simp] theorem State.setRules_inputs (x : List ZoneRule) : (s.setRules x).inputs = s.inputs := rfl
@[simp] theorem State.setRules_awaitFrame (x : List ZoneRule) : (s.setRules x).awaitFrame = s.awaitFrame := rfl
@[simp] theorem State.setRules_link (x : List ZoneRule) : (s.setRules x).link = s.link := rfl
@[simp] theorem State.setRules_params (x : List ZoneRule) : (s.setRules x).params = s.params := rfl
@[simp] theorem State.setRules_plan (x : List ZoneRule) : (s.setRules x).plan = s.plan := rfl
@[simp] theorem State.setRules_rules (x : List ZoneRule) : (s.setRules x).rules = x := rfl
@[simp] theorem State.setRules_manualMask (x : List ZoneRule) : (s.setRules x).manualMask = s.manualMask := rfl
@[simp] theorem State.setRules_chainage (x : List ZoneRule) : (s.setRules x).chainage = s.chainage := rfl
@[simp] theorem State.setRules_measuring (x : List ZoneRule) : (s.setRules x).measuring = s.measuring := rfl
@[simp] theorem State.setRules_computer (x : List ZoneRule) : (s.setRules x).computer = s.computer := rfl
@[simp] theorem State.setRules_seq (x : List ZoneRule) : (s.setRules x).seq = s.seq := rfl
@[simp] theorem State.setRules_heads (x : List ZoneRule) : (s.setRules x).heads = s.heads := rfl
@[simp] theorem State.setRules_lining (x : List ZoneRule) : (s.setRules x).lining = s.lining := rfl
@[simp] theorem State.setRules_supervisor (x : List ZoneRule) : (s.setRules x).supervisor = s.supervisor := rfl
@[simp] theorem State.setRules_stop (x : List ZoneRule) : (s.setRules x).stop = s.stop := rfl
@[simp] theorem State.setRules_attention (x : List ZoneRule) : (s.setRules x).attention = s.attention := rfl
@[simp] theorem State.setRules_results (x : List ZoneRule) : (s.setRules x).results = s.results := rfl
@[simp] theorem State.setRules_latches (x : List ZoneRule) : (s.setRules x).latches = s.latches := rfl
@[simp] theorem State.setRules_counters (x : List ZoneRule) : (s.setRules x).counters = s.counters := rfl

/-! ### `State.setManualMask` -/

@[simp] theorem State.setManualMask_pending (x : Option TineMask) : (s.setManualMask x).pending = s.pending := rfl
@[simp] theorem State.setManualMask_resetLow (x : Option TineMask) : (s.setManualMask x).resetLow = s.resetLow := rfl
@[simp] theorem State.setManualMask_inputs (x : Option TineMask) : (s.setManualMask x).inputs = s.inputs := rfl
@[simp] theorem State.setManualMask_awaitFrame (x : Option TineMask) : (s.setManualMask x).awaitFrame = s.awaitFrame := rfl
@[simp] theorem State.setManualMask_link (x : Option TineMask) : (s.setManualMask x).link = s.link := rfl
@[simp] theorem State.setManualMask_params (x : Option TineMask) : (s.setManualMask x).params = s.params := rfl
@[simp] theorem State.setManualMask_plan (x : Option TineMask) : (s.setManualMask x).plan = s.plan := rfl
@[simp] theorem State.setManualMask_rules (x : Option TineMask) : (s.setManualMask x).rules = s.rules := rfl
@[simp] theorem State.setManualMask_manualMask (x : Option TineMask) : (s.setManualMask x).manualMask = x := rfl
@[simp] theorem State.setManualMask_chainage (x : Option TineMask) : (s.setManualMask x).chainage = s.chainage := rfl
@[simp] theorem State.setManualMask_measuring (x : Option TineMask) : (s.setManualMask x).measuring = s.measuring := rfl
@[simp] theorem State.setManualMask_computer (x : Option TineMask) : (s.setManualMask x).computer = s.computer := rfl
@[simp] theorem State.setManualMask_seq (x : Option TineMask) : (s.setManualMask x).seq = s.seq := rfl
@[simp] theorem State.setManualMask_heads (x : Option TineMask) : (s.setManualMask x).heads = s.heads := rfl
@[simp] theorem State.setManualMask_lining (x : Option TineMask) : (s.setManualMask x).lining = s.lining := rfl
@[simp] theorem State.setManualMask_supervisor (x : Option TineMask) : (s.setManualMask x).supervisor = s.supervisor := rfl
@[simp] theorem State.setManualMask_stop (x : Option TineMask) : (s.setManualMask x).stop = s.stop := rfl
@[simp] theorem State.setManualMask_attention (x : Option TineMask) : (s.setManualMask x).attention = s.attention := rfl
@[simp] theorem State.setManualMask_results (x : Option TineMask) : (s.setManualMask x).results = s.results := rfl
@[simp] theorem State.setManualMask_latches (x : Option TineMask) : (s.setManualMask x).latches = s.latches := rfl
@[simp] theorem State.setManualMask_counters (x : Option TineMask) : (s.setManualMask x).counters = s.counters := rfl

/-! ### `State.setChainage` -/

@[simp] theorem State.setChainage_pending (x : ChainageUnit) : (s.setChainage x).pending = s.pending := rfl
@[simp] theorem State.setChainage_resetLow (x : ChainageUnit) : (s.setChainage x).resetLow = s.resetLow := rfl
@[simp] theorem State.setChainage_inputs (x : ChainageUnit) : (s.setChainage x).inputs = s.inputs := rfl
@[simp] theorem State.setChainage_awaitFrame (x : ChainageUnit) : (s.setChainage x).awaitFrame = s.awaitFrame := rfl
@[simp] theorem State.setChainage_link (x : ChainageUnit) : (s.setChainage x).link = s.link := rfl
@[simp] theorem State.setChainage_params (x : ChainageUnit) : (s.setChainage x).params = s.params := rfl
@[simp] theorem State.setChainage_plan (x : ChainageUnit) : (s.setChainage x).plan = s.plan := rfl
@[simp] theorem State.setChainage_rules (x : ChainageUnit) : (s.setChainage x).rules = s.rules := rfl
@[simp] theorem State.setChainage_manualMask (x : ChainageUnit) : (s.setChainage x).manualMask = s.manualMask := rfl
@[simp] theorem State.setChainage_chainage (x : ChainageUnit) : (s.setChainage x).chainage = x := rfl
@[simp] theorem State.setChainage_measuring (x : ChainageUnit) : (s.setChainage x).measuring = s.measuring := rfl
@[simp] theorem State.setChainage_computer (x : ChainageUnit) : (s.setChainage x).computer = s.computer := rfl
@[simp] theorem State.setChainage_seq (x : ChainageUnit) : (s.setChainage x).seq = s.seq := rfl
@[simp] theorem State.setChainage_heads (x : ChainageUnit) : (s.setChainage x).heads = s.heads := rfl
@[simp] theorem State.setChainage_lining (x : ChainageUnit) : (s.setChainage x).lining = s.lining := rfl
@[simp] theorem State.setChainage_supervisor (x : ChainageUnit) : (s.setChainage x).supervisor = s.supervisor := rfl
@[simp] theorem State.setChainage_stop (x : ChainageUnit) : (s.setChainage x).stop = s.stop := rfl
@[simp] theorem State.setChainage_attention (x : ChainageUnit) : (s.setChainage x).attention = s.attention := rfl
@[simp] theorem State.setChainage_results (x : ChainageUnit) : (s.setChainage x).results = s.results := rfl
@[simp] theorem State.setChainage_latches (x : ChainageUnit) : (s.setChainage x).latches = s.latches := rfl
@[simp] theorem State.setChainage_counters (x : ChainageUnit) : (s.setChainage x).counters = s.counters := rfl

/-! ### `State.setMeasuring` -/

@[simp] theorem State.setMeasuring_pending (x : Measuring) : (s.setMeasuring x).pending = s.pending := rfl
@[simp] theorem State.setMeasuring_resetLow (x : Measuring) : (s.setMeasuring x).resetLow = s.resetLow := rfl
@[simp] theorem State.setMeasuring_inputs (x : Measuring) : (s.setMeasuring x).inputs = s.inputs := rfl
@[simp] theorem State.setMeasuring_awaitFrame (x : Measuring) : (s.setMeasuring x).awaitFrame = s.awaitFrame := rfl
@[simp] theorem State.setMeasuring_link (x : Measuring) : (s.setMeasuring x).link = s.link := rfl
@[simp] theorem State.setMeasuring_params (x : Measuring) : (s.setMeasuring x).params = s.params := rfl
@[simp] theorem State.setMeasuring_plan (x : Measuring) : (s.setMeasuring x).plan = s.plan := rfl
@[simp] theorem State.setMeasuring_rules (x : Measuring) : (s.setMeasuring x).rules = s.rules := rfl
@[simp] theorem State.setMeasuring_manualMask (x : Measuring) : (s.setMeasuring x).manualMask = s.manualMask := rfl
@[simp] theorem State.setMeasuring_chainage (x : Measuring) : (s.setMeasuring x).chainage = s.chainage := rfl
@[simp] theorem State.setMeasuring_measuring (x : Measuring) : (s.setMeasuring x).measuring = x := rfl
@[simp] theorem State.setMeasuring_computer (x : Measuring) : (s.setMeasuring x).computer = s.computer := rfl
@[simp] theorem State.setMeasuring_seq (x : Measuring) : (s.setMeasuring x).seq = s.seq := rfl
@[simp] theorem State.setMeasuring_heads (x : Measuring) : (s.setMeasuring x).heads = s.heads := rfl
@[simp] theorem State.setMeasuring_lining (x : Measuring) : (s.setMeasuring x).lining = s.lining := rfl
@[simp] theorem State.setMeasuring_supervisor (x : Measuring) : (s.setMeasuring x).supervisor = s.supervisor := rfl
@[simp] theorem State.setMeasuring_stop (x : Measuring) : (s.setMeasuring x).stop = s.stop := rfl
@[simp] theorem State.setMeasuring_attention (x : Measuring) : (s.setMeasuring x).attention = s.attention := rfl
@[simp] theorem State.setMeasuring_results (x : Measuring) : (s.setMeasuring x).results = s.results := rfl
@[simp] theorem State.setMeasuring_latches (x : Measuring) : (s.setMeasuring x).latches = s.latches := rfl
@[simp] theorem State.setMeasuring_counters (x : Measuring) : (s.setMeasuring x).counters = s.counters := rfl

/-! ### `State.setComputer` -/

@[simp] theorem State.setComputer_pending (x : CorrectionComputer) : (s.setComputer x).pending = s.pending := rfl
@[simp] theorem State.setComputer_resetLow (x : CorrectionComputer) : (s.setComputer x).resetLow = s.resetLow := rfl
@[simp] theorem State.setComputer_inputs (x : CorrectionComputer) : (s.setComputer x).inputs = s.inputs := rfl
@[simp] theorem State.setComputer_awaitFrame (x : CorrectionComputer) : (s.setComputer x).awaitFrame = s.awaitFrame := rfl
@[simp] theorem State.setComputer_link (x : CorrectionComputer) : (s.setComputer x).link = s.link := rfl
@[simp] theorem State.setComputer_params (x : CorrectionComputer) : (s.setComputer x).params = s.params := rfl
@[simp] theorem State.setComputer_plan (x : CorrectionComputer) : (s.setComputer x).plan = s.plan := rfl
@[simp] theorem State.setComputer_rules (x : CorrectionComputer) : (s.setComputer x).rules = s.rules := rfl
@[simp] theorem State.setComputer_manualMask (x : CorrectionComputer) : (s.setComputer x).manualMask = s.manualMask := rfl
@[simp] theorem State.setComputer_chainage (x : CorrectionComputer) : (s.setComputer x).chainage = s.chainage := rfl
@[simp] theorem State.setComputer_measuring (x : CorrectionComputer) : (s.setComputer x).measuring = s.measuring := rfl
@[simp] theorem State.setComputer_computer (x : CorrectionComputer) : (s.setComputer x).computer = x := rfl
@[simp] theorem State.setComputer_seq (x : CorrectionComputer) : (s.setComputer x).seq = s.seq := rfl
@[simp] theorem State.setComputer_heads (x : CorrectionComputer) : (s.setComputer x).heads = s.heads := rfl
@[simp] theorem State.setComputer_lining (x : CorrectionComputer) : (s.setComputer x).lining = s.lining := rfl
@[simp] theorem State.setComputer_supervisor (x : CorrectionComputer) : (s.setComputer x).supervisor = s.supervisor := rfl
@[simp] theorem State.setComputer_stop (x : CorrectionComputer) : (s.setComputer x).stop = s.stop := rfl
@[simp] theorem State.setComputer_attention (x : CorrectionComputer) : (s.setComputer x).attention = s.attention := rfl
@[simp] theorem State.setComputer_results (x : CorrectionComputer) : (s.setComputer x).results = s.results := rfl
@[simp] theorem State.setComputer_latches (x : CorrectionComputer) : (s.setComputer x).latches = s.latches := rfl
@[simp] theorem State.setComputer_counters (x : CorrectionComputer) : (s.setComputer x).counters = s.counters := rfl

/-! ### `State.setSeq` -/

@[simp] theorem State.setSeq_pending (x : Sequencer) : (s.setSeq x).pending = s.pending := rfl
@[simp] theorem State.setSeq_resetLow (x : Sequencer) : (s.setSeq x).resetLow = s.resetLow := rfl
@[simp] theorem State.setSeq_inputs (x : Sequencer) : (s.setSeq x).inputs = s.inputs := rfl
@[simp] theorem State.setSeq_awaitFrame (x : Sequencer) : (s.setSeq x).awaitFrame = s.awaitFrame := rfl
@[simp] theorem State.setSeq_link (x : Sequencer) : (s.setSeq x).link = s.link := rfl
@[simp] theorem State.setSeq_params (x : Sequencer) : (s.setSeq x).params = s.params := rfl
@[simp] theorem State.setSeq_plan (x : Sequencer) : (s.setSeq x).plan = s.plan := rfl
@[simp] theorem State.setSeq_rules (x : Sequencer) : (s.setSeq x).rules = s.rules := rfl
@[simp] theorem State.setSeq_manualMask (x : Sequencer) : (s.setSeq x).manualMask = s.manualMask := rfl
@[simp] theorem State.setSeq_chainage (x : Sequencer) : (s.setSeq x).chainage = s.chainage := rfl
@[simp] theorem State.setSeq_measuring (x : Sequencer) : (s.setSeq x).measuring = s.measuring := rfl
@[simp] theorem State.setSeq_computer (x : Sequencer) : (s.setSeq x).computer = s.computer := rfl
@[simp] theorem State.setSeq_seq (x : Sequencer) : (s.setSeq x).seq = x := rfl
@[simp] theorem State.setSeq_heads (x : Sequencer) : (s.setSeq x).heads = s.heads := rfl
@[simp] theorem State.setSeq_lining (x : Sequencer) : (s.setSeq x).lining = s.lining := rfl
@[simp] theorem State.setSeq_supervisor (x : Sequencer) : (s.setSeq x).supervisor = s.supervisor := rfl
@[simp] theorem State.setSeq_stop (x : Sequencer) : (s.setSeq x).stop = s.stop := rfl
@[simp] theorem State.setSeq_attention (x : Sequencer) : (s.setSeq x).attention = s.attention := rfl
@[simp] theorem State.setSeq_results (x : Sequencer) : (s.setSeq x).results = s.results := rfl
@[simp] theorem State.setSeq_latches (x : Sequencer) : (s.setSeq x).latches = s.latches := rfl
@[simp] theorem State.setSeq_counters (x : Sequencer) : (s.setSeq x).counters = s.counters := rfl

/-! ### `State.setHeads` -/

@[simp] theorem State.setHeads_pending (x : Quad HeadRecord) : (s.setHeads x).pending = s.pending := rfl
@[simp] theorem State.setHeads_resetLow (x : Quad HeadRecord) : (s.setHeads x).resetLow = s.resetLow := rfl
@[simp] theorem State.setHeads_inputs (x : Quad HeadRecord) : (s.setHeads x).inputs = s.inputs := rfl
@[simp] theorem State.setHeads_awaitFrame (x : Quad HeadRecord) : (s.setHeads x).awaitFrame = s.awaitFrame := rfl
@[simp] theorem State.setHeads_link (x : Quad HeadRecord) : (s.setHeads x).link = s.link := rfl
@[simp] theorem State.setHeads_params (x : Quad HeadRecord) : (s.setHeads x).params = s.params := rfl
@[simp] theorem State.setHeads_plan (x : Quad HeadRecord) : (s.setHeads x).plan = s.plan := rfl
@[simp] theorem State.setHeads_rules (x : Quad HeadRecord) : (s.setHeads x).rules = s.rules := rfl
@[simp] theorem State.setHeads_manualMask (x : Quad HeadRecord) : (s.setHeads x).manualMask = s.manualMask := rfl
@[simp] theorem State.setHeads_chainage (x : Quad HeadRecord) : (s.setHeads x).chainage = s.chainage := rfl
@[simp] theorem State.setHeads_measuring (x : Quad HeadRecord) : (s.setHeads x).measuring = s.measuring := rfl
@[simp] theorem State.setHeads_computer (x : Quad HeadRecord) : (s.setHeads x).computer = s.computer := rfl
@[simp] theorem State.setHeads_seq (x : Quad HeadRecord) : (s.setHeads x).seq = s.seq := rfl
@[simp] theorem State.setHeads_heads (x : Quad HeadRecord) : (s.setHeads x).heads = x := rfl
@[simp] theorem State.setHeads_lining (x : Quad HeadRecord) : (s.setHeads x).lining = s.lining := rfl
@[simp] theorem State.setHeads_supervisor (x : Quad HeadRecord) : (s.setHeads x).supervisor = s.supervisor := rfl
@[simp] theorem State.setHeads_stop (x : Quad HeadRecord) : (s.setHeads x).stop = s.stop := rfl
@[simp] theorem State.setHeads_attention (x : Quad HeadRecord) : (s.setHeads x).attention = s.attention := rfl
@[simp] theorem State.setHeads_results (x : Quad HeadRecord) : (s.setHeads x).results = s.results := rfl
@[simp] theorem State.setHeads_latches (x : Quad HeadRecord) : (s.setHeads x).latches = s.latches := rfl
@[simp] theorem State.setHeads_counters (x : Quad HeadRecord) : (s.setHeads x).counters = s.counters := rfl

/-! ### `State.setLining` -/

@[simp] theorem State.setLining_pending (x : LiningUnit) : (s.setLining x).pending = s.pending := rfl
@[simp] theorem State.setLining_resetLow (x : LiningUnit) : (s.setLining x).resetLow = s.resetLow := rfl
@[simp] theorem State.setLining_inputs (x : LiningUnit) : (s.setLining x).inputs = s.inputs := rfl
@[simp] theorem State.setLining_awaitFrame (x : LiningUnit) : (s.setLining x).awaitFrame = s.awaitFrame := rfl
@[simp] theorem State.setLining_link (x : LiningUnit) : (s.setLining x).link = s.link := rfl
@[simp] theorem State.setLining_params (x : LiningUnit) : (s.setLining x).params = s.params := rfl
@[simp] theorem State.setLining_plan (x : LiningUnit) : (s.setLining x).plan = s.plan := rfl
@[simp] theorem State.setLining_rules (x : LiningUnit) : (s.setLining x).rules = s.rules := rfl
@[simp] theorem State.setLining_manualMask (x : LiningUnit) : (s.setLining x).manualMask = s.manualMask := rfl
@[simp] theorem State.setLining_chainage (x : LiningUnit) : (s.setLining x).chainage = s.chainage := rfl
@[simp] theorem State.setLining_measuring (x : LiningUnit) : (s.setLining x).measuring = s.measuring := rfl
@[simp] theorem State.setLining_computer (x : LiningUnit) : (s.setLining x).computer = s.computer := rfl
@[simp] theorem State.setLining_seq (x : LiningUnit) : (s.setLining x).seq = s.seq := rfl
@[simp] theorem State.setLining_heads (x : LiningUnit) : (s.setLining x).heads = s.heads := rfl
@[simp] theorem State.setLining_lining (x : LiningUnit) : (s.setLining x).lining = x := rfl
@[simp] theorem State.setLining_supervisor (x : LiningUnit) : (s.setLining x).supervisor = s.supervisor := rfl
@[simp] theorem State.setLining_stop (x : LiningUnit) : (s.setLining x).stop = s.stop := rfl
@[simp] theorem State.setLining_attention (x : LiningUnit) : (s.setLining x).attention = s.attention := rfl
@[simp] theorem State.setLining_results (x : LiningUnit) : (s.setLining x).results = s.results := rfl
@[simp] theorem State.setLining_latches (x : LiningUnit) : (s.setLining x).latches = s.latches := rfl
@[simp] theorem State.setLining_counters (x : LiningUnit) : (s.setLining x).counters = s.counters := rfl

/-! ### `State.setSupervisor` -/

@[simp] theorem State.setSupervisor_pending (x : Supervisor) : (s.setSupervisor x).pending = s.pending := rfl
@[simp] theorem State.setSupervisor_resetLow (x : Supervisor) : (s.setSupervisor x).resetLow = s.resetLow := rfl
@[simp] theorem State.setSupervisor_inputs (x : Supervisor) : (s.setSupervisor x).inputs = s.inputs := rfl
@[simp] theorem State.setSupervisor_awaitFrame (x : Supervisor) : (s.setSupervisor x).awaitFrame = s.awaitFrame := rfl
@[simp] theorem State.setSupervisor_link (x : Supervisor) : (s.setSupervisor x).link = s.link := rfl
@[simp] theorem State.setSupervisor_params (x : Supervisor) : (s.setSupervisor x).params = s.params := rfl
@[simp] theorem State.setSupervisor_plan (x : Supervisor) : (s.setSupervisor x).plan = s.plan := rfl
@[simp] theorem State.setSupervisor_rules (x : Supervisor) : (s.setSupervisor x).rules = s.rules := rfl
@[simp] theorem State.setSupervisor_manualMask (x : Supervisor) : (s.setSupervisor x).manualMask = s.manualMask := rfl
@[simp] theorem State.setSupervisor_chainage (x : Supervisor) : (s.setSupervisor x).chainage = s.chainage := rfl
@[simp] theorem State.setSupervisor_measuring (x : Supervisor) : (s.setSupervisor x).measuring = s.measuring := rfl
@[simp] theorem State.setSupervisor_computer (x : Supervisor) : (s.setSupervisor x).computer = s.computer := rfl
@[simp] theorem State.setSupervisor_seq (x : Supervisor) : (s.setSupervisor x).seq = s.seq := rfl
@[simp] theorem State.setSupervisor_heads (x : Supervisor) : (s.setSupervisor x).heads = s.heads := rfl
@[simp] theorem State.setSupervisor_lining (x : Supervisor) : (s.setSupervisor x).lining = s.lining := rfl
@[simp] theorem State.setSupervisor_supervisor (x : Supervisor) : (s.setSupervisor x).supervisor = x := rfl
@[simp] theorem State.setSupervisor_stop (x : Supervisor) : (s.setSupervisor x).stop = s.stop := rfl
@[simp] theorem State.setSupervisor_attention (x : Supervisor) : (s.setSupervisor x).attention = s.attention := rfl
@[simp] theorem State.setSupervisor_results (x : Supervisor) : (s.setSupervisor x).results = s.results := rfl
@[simp] theorem State.setSupervisor_latches (x : Supervisor) : (s.setSupervisor x).latches = s.latches := rfl
@[simp] theorem State.setSupervisor_counters (x : Supervisor) : (s.setSupervisor x).counters = s.counters := rfl

/-! ### `State.setStop` -/

@[simp] theorem State.setStop_pending (x : StopBlock) : (s.setStop x).pending = s.pending := rfl
@[simp] theorem State.setStop_resetLow (x : StopBlock) : (s.setStop x).resetLow = s.resetLow := rfl
@[simp] theorem State.setStop_inputs (x : StopBlock) : (s.setStop x).inputs = s.inputs := rfl
@[simp] theorem State.setStop_awaitFrame (x : StopBlock) : (s.setStop x).awaitFrame = s.awaitFrame := rfl
@[simp] theorem State.setStop_link (x : StopBlock) : (s.setStop x).link = s.link := rfl
@[simp] theorem State.setStop_params (x : StopBlock) : (s.setStop x).params = s.params := rfl
@[simp] theorem State.setStop_plan (x : StopBlock) : (s.setStop x).plan = s.plan := rfl
@[simp] theorem State.setStop_rules (x : StopBlock) : (s.setStop x).rules = s.rules := rfl
@[simp] theorem State.setStop_manualMask (x : StopBlock) : (s.setStop x).manualMask = s.manualMask := rfl
@[simp] theorem State.setStop_chainage (x : StopBlock) : (s.setStop x).chainage = s.chainage := rfl
@[simp] theorem State.setStop_measuring (x : StopBlock) : (s.setStop x).measuring = s.measuring := rfl
@[simp] theorem State.setStop_computer (x : StopBlock) : (s.setStop x).computer = s.computer := rfl
@[simp] theorem State.setStop_seq (x : StopBlock) : (s.setStop x).seq = s.seq := rfl
@[simp] theorem State.setStop_heads (x : StopBlock) : (s.setStop x).heads = s.heads := rfl
@[simp] theorem State.setStop_lining (x : StopBlock) : (s.setStop x).lining = s.lining := rfl
@[simp] theorem State.setStop_supervisor (x : StopBlock) : (s.setStop x).supervisor = s.supervisor := rfl
@[simp] theorem State.setStop_stop (x : StopBlock) : (s.setStop x).stop = x := rfl
@[simp] theorem State.setStop_attention (x : StopBlock) : (s.setStop x).attention = s.attention := rfl
@[simp] theorem State.setStop_results (x : StopBlock) : (s.setStop x).results = s.results := rfl
@[simp] theorem State.setStop_latches (x : StopBlock) : (s.setStop x).latches = s.latches := rfl
@[simp] theorem State.setStop_counters (x : StopBlock) : (s.setStop x).counters = s.counters := rfl

/-! ### `State.setAttention` -/

@[simp] theorem State.setAttention_pending (x : Attention) : (s.setAttention x).pending = s.pending := rfl
@[simp] theorem State.setAttention_resetLow (x : Attention) : (s.setAttention x).resetLow = s.resetLow := rfl
@[simp] theorem State.setAttention_inputs (x : Attention) : (s.setAttention x).inputs = s.inputs := rfl
@[simp] theorem State.setAttention_awaitFrame (x : Attention) : (s.setAttention x).awaitFrame = s.awaitFrame := rfl
@[simp] theorem State.setAttention_link (x : Attention) : (s.setAttention x).link = s.link := rfl
@[simp] theorem State.setAttention_params (x : Attention) : (s.setAttention x).params = s.params := rfl
@[simp] theorem State.setAttention_plan (x : Attention) : (s.setAttention x).plan = s.plan := rfl
@[simp] theorem State.setAttention_rules (x : Attention) : (s.setAttention x).rules = s.rules := rfl
@[simp] theorem State.setAttention_manualMask (x : Attention) : (s.setAttention x).manualMask = s.manualMask := rfl
@[simp] theorem State.setAttention_chainage (x : Attention) : (s.setAttention x).chainage = s.chainage := rfl
@[simp] theorem State.setAttention_measuring (x : Attention) : (s.setAttention x).measuring = s.measuring := rfl
@[simp] theorem State.setAttention_computer (x : Attention) : (s.setAttention x).computer = s.computer := rfl
@[simp] theorem State.setAttention_seq (x : Attention) : (s.setAttention x).seq = s.seq := rfl
@[simp] theorem State.setAttention_heads (x : Attention) : (s.setAttention x).heads = s.heads := rfl
@[simp] theorem State.setAttention_lining (x : Attention) : (s.setAttention x).lining = s.lining := rfl
@[simp] theorem State.setAttention_supervisor (x : Attention) : (s.setAttention x).supervisor = s.supervisor := rfl
@[simp] theorem State.setAttention_stop (x : Attention) : (s.setAttention x).stop = s.stop := rfl
@[simp] theorem State.setAttention_attention (x : Attention) : (s.setAttention x).attention = x := rfl
@[simp] theorem State.setAttention_results (x : Attention) : (s.setAttention x).results = s.results := rfl
@[simp] theorem State.setAttention_latches (x : Attention) : (s.setAttention x).latches = s.latches := rfl
@[simp] theorem State.setAttention_counters (x : Attention) : (s.setAttention x).counters = s.counters := rfl

/-! ### `State.setResults` -/

@[simp] theorem State.setResults_pending (x : List ResultRecord) : (s.setResults x).pending = s.pending := rfl
@[simp] theorem State.setResults_resetLow (x : List ResultRecord) : (s.setResults x).resetLow = s.resetLow := rfl
@[simp] theorem State.setResults_inputs (x : List ResultRecord) : (s.setResults x).inputs = s.inputs := rfl
@[simp] theorem State.setResults_awaitFrame (x : List ResultRecord) : (s.setResults x).awaitFrame = s.awaitFrame := rfl
@[simp] theorem State.setResults_link (x : List ResultRecord) : (s.setResults x).link = s.link := rfl
@[simp] theorem State.setResults_params (x : List ResultRecord) : (s.setResults x).params = s.params := rfl
@[simp] theorem State.setResults_plan (x : List ResultRecord) : (s.setResults x).plan = s.plan := rfl
@[simp] theorem State.setResults_rules (x : List ResultRecord) : (s.setResults x).rules = s.rules := rfl
@[simp] theorem State.setResults_manualMask (x : List ResultRecord) : (s.setResults x).manualMask = s.manualMask := rfl
@[simp] theorem State.setResults_chainage (x : List ResultRecord) : (s.setResults x).chainage = s.chainage := rfl
@[simp] theorem State.setResults_measuring (x : List ResultRecord) : (s.setResults x).measuring = s.measuring := rfl
@[simp] theorem State.setResults_computer (x : List ResultRecord) : (s.setResults x).computer = s.computer := rfl
@[simp] theorem State.setResults_seq (x : List ResultRecord) : (s.setResults x).seq = s.seq := rfl
@[simp] theorem State.setResults_heads (x : List ResultRecord) : (s.setResults x).heads = s.heads := rfl
@[simp] theorem State.setResults_lining (x : List ResultRecord) : (s.setResults x).lining = s.lining := rfl
@[simp] theorem State.setResults_supervisor (x : List ResultRecord) : (s.setResults x).supervisor = s.supervisor := rfl
@[simp] theorem State.setResults_stop (x : List ResultRecord) : (s.setResults x).stop = s.stop := rfl
@[simp] theorem State.setResults_attention (x : List ResultRecord) : (s.setResults x).attention = s.attention := rfl
@[simp] theorem State.setResults_results (x : List ResultRecord) : (s.setResults x).results = x := rfl
@[simp] theorem State.setResults_latches (x : List ResultRecord) : (s.setResults x).latches = s.latches := rfl
@[simp] theorem State.setResults_counters (x : List ResultRecord) : (s.setResults x).counters = s.counters := rfl

/-! ### `State.setLatches` -/

@[simp] theorem State.setLatches_pending (x : Byte) : (s.setLatches x).pending = s.pending := rfl
@[simp] theorem State.setLatches_resetLow (x : Byte) : (s.setLatches x).resetLow = s.resetLow := rfl
@[simp] theorem State.setLatches_inputs (x : Byte) : (s.setLatches x).inputs = s.inputs := rfl
@[simp] theorem State.setLatches_awaitFrame (x : Byte) : (s.setLatches x).awaitFrame = s.awaitFrame := rfl
@[simp] theorem State.setLatches_link (x : Byte) : (s.setLatches x).link = s.link := rfl
@[simp] theorem State.setLatches_params (x : Byte) : (s.setLatches x).params = s.params := rfl
@[simp] theorem State.setLatches_plan (x : Byte) : (s.setLatches x).plan = s.plan := rfl
@[simp] theorem State.setLatches_rules (x : Byte) : (s.setLatches x).rules = s.rules := rfl
@[simp] theorem State.setLatches_manualMask (x : Byte) : (s.setLatches x).manualMask = s.manualMask := rfl
@[simp] theorem State.setLatches_chainage (x : Byte) : (s.setLatches x).chainage = s.chainage := rfl
@[simp] theorem State.setLatches_measuring (x : Byte) : (s.setLatches x).measuring = s.measuring := rfl
@[simp] theorem State.setLatches_computer (x : Byte) : (s.setLatches x).computer = s.computer := rfl
@[simp] theorem State.setLatches_seq (x : Byte) : (s.setLatches x).seq = s.seq := rfl
@[simp] theorem State.setLatches_heads (x : Byte) : (s.setLatches x).heads = s.heads := rfl
@[simp] theorem State.setLatches_lining (x : Byte) : (s.setLatches x).lining = s.lining := rfl
@[simp] theorem State.setLatches_supervisor (x : Byte) : (s.setLatches x).supervisor = s.supervisor := rfl
@[simp] theorem State.setLatches_stop (x : Byte) : (s.setLatches x).stop = s.stop := rfl
@[simp] theorem State.setLatches_attention (x : Byte) : (s.setLatches x).attention = s.attention := rfl
@[simp] theorem State.setLatches_results (x : Byte) : (s.setLatches x).results = s.results := rfl
@[simp] theorem State.setLatches_latches (x : Byte) : (s.setLatches x).latches = x := rfl
@[simp] theorem State.setLatches_counters (x : Byte) : (s.setLatches x).counters = s.counters := rfl

/-! ### `State.setCounters` -/

@[simp] theorem State.setCounters_pending (x : Counters) : (s.setCounters x).pending = s.pending := rfl
@[simp] theorem State.setCounters_resetLow (x : Counters) : (s.setCounters x).resetLow = s.resetLow := rfl
@[simp] theorem State.setCounters_inputs (x : Counters) : (s.setCounters x).inputs = s.inputs := rfl
@[simp] theorem State.setCounters_awaitFrame (x : Counters) : (s.setCounters x).awaitFrame = s.awaitFrame := rfl
@[simp] theorem State.setCounters_link (x : Counters) : (s.setCounters x).link = s.link := rfl
@[simp] theorem State.setCounters_params (x : Counters) : (s.setCounters x).params = s.params := rfl
@[simp] theorem State.setCounters_plan (x : Counters) : (s.setCounters x).plan = s.plan := rfl
@[simp] theorem State.setCounters_rules (x : Counters) : (s.setCounters x).rules = s.rules := rfl
@[simp] theorem State.setCounters_manualMask (x : Counters) : (s.setCounters x).manualMask = s.manualMask := rfl
@[simp] theorem State.setCounters_chainage (x : Counters) : (s.setCounters x).chainage = s.chainage := rfl
@[simp] theorem State.setCounters_measuring (x : Counters) : (s.setCounters x).measuring = s.measuring := rfl
@[simp] theorem State.setCounters_computer (x : Counters) : (s.setCounters x).computer = s.computer := rfl
@[simp] theorem State.setCounters_seq (x : Counters) : (s.setCounters x).seq = s.seq := rfl
@[simp] theorem State.setCounters_heads (x : Counters) : (s.setCounters x).heads = s.heads := rfl
@[simp] theorem State.setCounters_lining (x : Counters) : (s.setCounters x).lining = s.lining := rfl
@[simp] theorem State.setCounters_supervisor (x : Counters) : (s.setCounters x).supervisor = s.supervisor := rfl
@[simp] theorem State.setCounters_stop (x : Counters) : (s.setCounters x).stop = s.stop := rfl
@[simp] theorem State.setCounters_attention (x : Counters) : (s.setCounters x).attention = s.attention := rfl
@[simp] theorem State.setCounters_results (x : Counters) : (s.setCounters x).results = s.results := rfl
@[simp] theorem State.setCounters_latches (x : Counters) : (s.setCounters x).latches = s.latches := rfl
@[simp] theorem State.setCounters_counters (x : Counters) : (s.setCounters x).counters = x := rfl

/-! ### Changes of one block -/

@[simp] theorem State.modSeq_eq (f : Sequencer → Sequencer) : s.modSeq f = s.setSeq (f s.seq) := rfl
@[simp] theorem State.modLining_eq (f : LiningUnit → LiningUnit) : s.modLining f = s.setLining (f s.lining) := rfl
@[simp] theorem State.modChainage_eq (f : ChainageUnit → ChainageUnit) :
    s.modChainage f = s.setChainage (f s.chainage) := rfl
@[simp] theorem State.modMove_eq (f : IndexMove → IndexMove) :
    s.modMove f = s.setChainage { s.chainage with move := f s.chainage.move } := rfl
@[simp] theorem State.modLink_eq (f : Link → Link) : s.modLink f = s.setLink (f s.link) := rfl
@[simp] theorem State.modContext_eq (f : Context → Context) :
    s.modContext f = s.setSeq { s.seq with context := s.seq.context.map f } := rfl
@[simp] theorem State.setHead_eq (i : Fin 4) (h : HeadRecord) : s.setHead i h = s.setHeads (s.heads.set i h) := rfl
@[simp] theorem State.bump_eq (k : Counter) : s.bump k = s.setCounters (s.counters.bump k) := rfl
@[simp] theorem State.setLatch_eq (l : Latch) : s.setLatch l = s.setLatches (s.latches ||| l.mask) := rfl

/-! ### An update that changes nothing -/

@[simp] theorem State.setPending_same : s.setPending s.pending = s := rfl
@[simp] theorem State.setResetLow_same : s.setResetLow s.resetLow = s := rfl
@[simp] theorem State.setInputs_same : s.setInputs s.inputs = s := rfl
@[simp] theorem State.setAwaitFrame_same : s.setAwaitFrame s.awaitFrame = s := rfl
@[simp] theorem State.setLink_same : s.setLink s.link = s := rfl
@[simp] theorem State.setParams_same : s.setParams s.params = s := rfl
@[simp] theorem State.setPlan_same : s.setPlan s.plan = s := rfl
@[simp] theorem State.setRules_same : s.setRules s.rules = s := rfl
@[simp] theorem State.setManualMask_same : s.setManualMask s.manualMask = s := rfl
@[simp] theorem State.setChainage_same : s.setChainage s.chainage = s := rfl
@[simp] theorem State.setMeasuring_same : s.setMeasuring s.measuring = s := rfl
@[simp] theorem State.setComputer_same : s.setComputer s.computer = s := rfl
@[simp] theorem State.setSeq_same : s.setSeq s.seq = s := rfl
@[simp] theorem State.setHeads_same : s.setHeads s.heads = s := rfl
@[simp] theorem State.setLining_same : s.setLining s.lining = s := rfl
@[simp] theorem State.setSupervisor_same : s.setSupervisor s.supervisor = s := rfl
@[simp] theorem State.setStop_same : s.setStop s.stop = s := rfl
@[simp] theorem State.setAttention_same : s.setAttention s.attention = s := rfl
@[simp] theorem State.setResults_same : s.setResults s.results = s := rfl
@[simp] theorem State.setLatches_same : s.setLatches s.latches = s := rfl
@[simp] theorem State.setCounters_same : s.setCounters s.counters = s := rfl

/-! ### The later of two updates of a block stands -/

@[simp] theorem State.setPending_setPending (x y : List Instr) : (s.setPending x).setPending y = s.setPending y := rfl
@[simp] theorem State.setResetLow_setResetLow (x y : Bool) : (s.setResetLow x).setResetLow y = s.setResetLow y := rfl
@[simp] theorem State.setInputs_setInputs (x y : Inputs) : (s.setInputs x).setInputs y = s.setInputs y := rfl
@[simp] theorem State.setAwaitFrame_setAwaitFrame (x y : Bool) : (s.setAwaitFrame x).setAwaitFrame y = s.setAwaitFrame y := rfl
@[simp] theorem State.setLink_setLink (x y : Link) : (s.setLink x).setLink y = s.setLink y := rfl
@[simp] theorem State.setParams_setParams (x y : Params) : (s.setParams x).setParams y = s.setParams y := rfl
@[simp] theorem State.setPlan_setPlan (x y : PlanStore) : (s.setPlan x).setPlan y = s.setPlan y := rfl
@[simp] theorem State.setRules_setRules (x y : List ZoneRule) : (s.setRules x).setRules y = s.setRules y := rfl
@[simp] theorem State.setManualMask_setManualMask (x y : Option TineMask) : (s.setManualMask x).setManualMask y = s.setManualMask y := rfl
@[simp] theorem State.setChainage_setChainage (x y : ChainageUnit) : (s.setChainage x).setChainage y = s.setChainage y := rfl
@[simp] theorem State.setMeasuring_setMeasuring (x y : Measuring) : (s.setMeasuring x).setMeasuring y = s.setMeasuring y := rfl
@[simp] theorem State.setComputer_setComputer (x y : CorrectionComputer) : (s.setComputer x).setComputer y = s.setComputer y := rfl
@[simp] theorem State.setSeq_setSeq (x y : Sequencer) : (s.setSeq x).setSeq y = s.setSeq y := rfl
@[simp] theorem State.setHeads_setHeads (x y : Quad HeadRecord) : (s.setHeads x).setHeads y = s.setHeads y := rfl
@[simp] theorem State.setLining_setLining (x y : LiningUnit) : (s.setLining x).setLining y = s.setLining y := rfl
@[simp] theorem State.setSupervisor_setSupervisor (x y : Supervisor) : (s.setSupervisor x).setSupervisor y = s.setSupervisor y := rfl
@[simp] theorem State.setStop_setStop (x y : StopBlock) : (s.setStop x).setStop y = s.setStop y := rfl
@[simp] theorem State.setAttention_setAttention (x y : Attention) : (s.setAttention x).setAttention y = s.setAttention y := rfl
@[simp] theorem State.setResults_setResults (x y : List ResultRecord) : (s.setResults x).setResults y = s.setResults y := rfl
@[simp] theorem State.setLatches_setLatches (x y : Byte) : (s.setLatches x).setLatches y = s.setLatches y := rfl
@[simp] theorem State.setCounters_setCounters (x y : Counters) : (s.setCounters x).setCounters y = s.setCounters y := rfl

end Sys2Proof.Machine
end

