-- ==== Sys2Proof/Laws/Report.lean ====
section
/-! SUPPORT. What counters, activity, the attention timer and the reports of an event can change. -/

namespace Sys2Proof.Machine

/-! ## Counters -/

@[simp] theorem Counters.get_set_self (c : Counters) (k : Counter) (v : Nat) :
    (c.set k v).get k = v := by cases k <;> rfl

theorem Counters.get_set_of_ne (c : Counters) {k j : Counter} (v : Nat) (h : j ≠ k) :
    (c.set k v).get j = c.get j := by
  cases k <;> cases j <;> first | rfl | exact absurd rfl h

theorem Counters.get_bump_self (c : Counters) (k : Counter) :
    (c.bump k).get k = min counterMax (c.get k + 1) := Counters.get_set_self ..

theorem Counters.get_bump_of_ne (c : Counters) {k j : Counter} (h : j ≠ k) :
    (c.bump k).get j = c.get j := Counters.get_set_of_ne _ _ h

/-! ## Reports -/

theorem State.reportOf_refl (s : State) : s.reportOf s :=
  ⟨rfl, rfl, rfl, rfl, ⟨[], by simp⟩, fun _ _ => rfl⟩

theorem State.reportOf_trans {t u x : State} (h : t.reportOf u) (g : u.reportOf x) : t.reportOf x := by
  obtain ⟨h1, h2, h3, h4, ⟨f, hf, hf'⟩, h6⟩ := h
  obtain ⟨g1, g2, g3, g4, ⟨e, he, he'⟩, g6⟩ := g
  refine ⟨?_, h2.trans g2, h3.trans g3, h4.trans g4, ⟨e ++ f, by simp [hf, he], ?_⟩, ?_⟩
  · rw [← g1, ← h1]; rfl
  · intro x hx
    rcases List.mem_append.mp hx with hx | hx
    · exact he' x hx
    · exact hf' x hx
  · intro k hk; rw [h6 k hk, g6 k hk]

/-- One report, or one suppression, or nothing. -/
theorem reportOne_reportOf (snapshot : List Byte) (due : Byte) (s : State) (n : Nat) :
    (reportOne snapshot due s n).reportOf s := by
  unfold reportOne
  split
  · split
    · exact ⟨rfl, rfl, rfl, rfl, ⟨_, rfl, by simp⟩, fun _ _ => rfl⟩
    · exact ⟨rfl, rfl, rfl, rfl, ⟨[], by simp⟩, fun k hk => Counters.get_bump_of_ne _ hk⟩
  · exact s.reportOf_refl

theorem foldl_reportOne_reportOf (snapshot : List Byte) (due : Byte) (l : List Nat) (s : State) :
    (l.foldl (reportOne snapshot due) s).reportOf s := by
  induction l generalizing s with
  | nil => exact s.reportOf_refl
  | cons n l ih => exact State.reportOf_trans (ih _) (reportOne_reportOf ..)

/-- The reports of an event add REPORT frames and suppressions, nothing else. -/
theorem report_reportOf (before after : State) : (report before after).reportOf after :=
  foldl_reportOne_reportOf ..

theorem foldl_reportOne_zero (snapshot : List Byte) (l : List Nat) (s : State) :
    l.foldl (reportOne snapshot 0) s = s := by
  induction l generalizing s with
  | nil => rfl
  | cons n l ih => simpa [reportOne] using ih s

/-- An event after which no latch is due a report adds nothing. -/
theorem report_eq_of_not_due {before after : State} (h : dueReports before after = 0) :
    report before after = after := by
  unfold report; rw [h, foldl_reportOne_zero]

/-- Latches and REPORT_ENABLE unchanged: no latch is due a report. -/
theorem dueReports_eq_zero {before after : State} (hl : after.latches = before.latches)
    (hp : after.params.reportEnable = before.params.reportEnable) : dueReports before after = 0 := by
  simp [dueReports, State.reportEnable, hl, hp]

/-! ## Activity and the attention timer -/

theorem activity_eq (s : State) : activity s = s.setAttention (activity s).attention := by
  unfold activity State.loadAttention; split <;> rfl

theorem activityFrom_eq (n : Nat) (s : State) :
    activityFrom n s = s.setAttention (activityFrom n s).attention := by
  unfold activityFrom; split
  · exact activity_eq s
  · rfl

/-- Activity changes the attention timer alone. -/
theorem requestActivity_eq (r : Request) (y : Reply) (s : State) :
    requestActivity r y s = s.setAttention (requestActivity r y s).attention := by
  have key : ∀ (n : Nat) (t : State), (∃ a, t = s.setAttention a) →
      ∃ a, activityFrom n t = s.setAttention a := by
    rintro n t ⟨a, rfl⟩
    rw [activityFrom_eq]; exact ⟨_, rfl⟩
  have : ∃ a, requestActivity r y s = s.setAttention a := by
    unfold requestActivity
    apply key
    split
    · apply key; split
      · exact key _ _ ⟨s.attention, rfl⟩
      · exact ⟨s.attention, rfl⟩
    · split
      · exact key _ _ ⟨s.attention, rfl⟩
      · exact ⟨s.attention, rfl⟩
  obtain ⟨a, ha⟩ := this
  rw [ha]; rfl

/-- The attention timer alone follows the sequencer. -/
theorem followAttention_eq (before after : State) :
    followAttention before after = after.setAttention (followAttention before after).attention := by
  unfold followAttention State.loadAttention
  repeat' split
  all_goals rfl

/-- Nothing follows where the sequencer keeps the class of its state. -/
theorem followAttention_same {before after : State}
    (h : after.seq.state.attentive = before.seq.state.attentive) :
    followAttention before after = after := by
  unfold followAttention
  cases hb : before.seq.state.attentive <;> simp_all

/-! ## Events -/

/-- An event that keeps the class of the sequencer's state, the latches and REPORT_ENABLE ends as its own change
leaves it. -/
theorem event_quiet {f : State → State} {s : State} (h : s.resetLow = false)
    (hseq : (f s).seq.state.attentive = s.seq.state.attentive) (hlat : (f s).latches = s.latches)
    (hen : (f s).params.reportEnable = s.params.reportEnable) : event f s = f s := by
  simp only [event, h, Bool.false_eq_true, if_false, closeEvent]
  rw [followAttention_same hseq, report_eq_of_not_due (dueReports_eq_zero hlat hen)]

/-- An event that changes nothing. -/
theorem event_same {f : State → State} {s : State} (h : f s = s) : event f s = s := by
  cases hr : s.resetLow
  · rw [event_quiet hr] <;> simp [h]
  · simp [event, hr]

/-- An event, up to its reports. -/
theorem event_reportOf {f : State → State} {s : State} (h : s.resetLow = false) :
    (event f s).reportOf (followAttention s (f s)) := by
  simp only [event, h, Bool.false_eq_true, if_false, closeEvent]
  exact report_reportOf ..

/-- An event that keeps the class of the sequencer's state, up to its reports. -/
theorem event_reportOf_same {f : State → State} {s : State} (h : s.resetLow = false)
    (hseq : (f s).seq.state.attentive = s.seq.state.attentive) : (event f s).reportOf (f s) := by
  have := event_reportOf (f := f) h
  rwa [followAttention_same hseq] at this

/-- An event that brings an input level is, out of reset, an event like any other. -/
theorem levelEvent_eq {g : Inputs → Inputs} {f : State → State} {s : State} (h : s.resetLow = false) :
    levelEvent g f s = event f s := by simp [levelEvent, event, h]

/-- What two states that differ by the reports of an event share. -/
theorem State.reportOf_keeps {t x : State} (h : t.reportOf x) :
    t.pending = x.pending ∧ t.resetLow = x.resetLow ∧ t.inputs = x.inputs ∧ t.awaitFrame = x.awaitFrame
      ∧ t.params = x.params ∧ t.plan = x.plan ∧ t.rules = x.rules ∧ t.manualMask = x.manualMask
      ∧ t.chainage = x.chainage ∧ t.measuring = x.measuring ∧ t.computer = x.computer ∧ t.seq = x.seq
      ∧ t.heads = x.heads ∧ t.lining = x.lining ∧ t.supervisor = x.supervisor ∧ t.stop = x.stop
      ∧ t.attention = x.attention ∧ t.results = x.results ∧ t.latches = x.latches := by
  rw [← h.1]; simp

end Sys2Proof.Machine
end

