-- ==== Sys2Proof/Laws/Frame.lean ====
section
/-! SUPPORT. What each operation of the sleeper cycle leaves as it is: one lemma for each operation, naming every
block of the state it does not change. -/

namespace Sys2Proof.Machine

variable (s : State)

@[simp] theorem enterHold_keeps (r : HoldReason) :
    (enterHold r s).pending = s.pending ∧ (enterHold r s).resetLow = s.resetLow
      ∧ (enterHold r s).inputs = s.inputs ∧ (enterHold r s).awaitFrame = s.awaitFrame
      ∧ (enterHold r s).link = s.link ∧ (enterHold r s).params = s.params ∧ (enterHold r s).plan = s.plan
      ∧ (enterHold r s).rules = s.rules ∧ (enterHold r s).manualMask = s.manualMask
      ∧ (enterHold r s).chainage = s.chainage ∧ (enterHold r s).measuring = s.measuring
      ∧ (enterHold r s).computer = s.computer ∧ (enterHold r s).heads = s.heads
      ∧ (enterHold r s).lining = s.lining ∧ (enterHold r s).supervisor = s.supervisor
      ∧ (enterHold r s).stop = s.stop ∧ (enterHold r s).attention = s.attention
      ∧ (enterHold r s).results = s.results ∧ (enterHold r s).counters = s.counters := by
  simp [enterHold]

@[simp] theorem enterState_keeps (st : SeqState) :
    (enterState st s).pending = s.pending ∧ (enterState st s).resetLow = s.resetLow
      ∧ (enterState st s).inputs = s.inputs ∧ (enterState st s).awaitFrame = s.awaitFrame
      ∧ (enterState st s).link = s.link ∧ (enterState st s).params = s.params
      ∧ (enterState st s).plan = s.plan ∧ (enterState st s).rules = s.rules
      ∧ (enterState st s).manualMask = s.manualMask ∧ (enterState st s).chainage = s.chainage
      ∧ (enterState st s).measuring = s.measuring ∧ (enterState st s).computer = s.computer
      ∧ (enterState st s).heads = s.heads ∧ (enterState st s).lining = s.lining
      ∧ (enterState st s).supervisor = s.supervisor ∧ (enterState st s).stop = s.stop
      ∧ (enterState st s).attention = s.attention ∧ (enterState st s).results = s.results
      ∧ (enterState st s).latches = s.latches ∧ (enterState st s).counters = s.counters := by
  simp [enterState]

@[simp] theorem State.raiseFlags_keeps (m : BitVec 16) :
    (s.raiseFlags m).pending = s.pending ∧ (s.raiseFlags m).resetLow = s.resetLow
      ∧ (s.raiseFlags m).inputs = s.inputs ∧ (s.raiseFlags m).awaitFrame = s.awaitFrame
      ∧ (s.raiseFlags m).link = s.link ∧ (s.raiseFlags m).params = s.params
      ∧ (s.raiseFlags m).plan = s.plan ∧ (s.raiseFlags m).rules = s.rules
      ∧ (s.raiseFlags m).manualMask = s.manualMask ∧ (s.raiseFlags m).chainage = s.chainage
      ∧ (s.raiseFlags m).measuring = s.measuring ∧ (s.raiseFlags m).computer = s.computer
      ∧ (s.raiseFlags m).heads = s.heads ∧ (s.raiseFlags m).lining = s.lining
      ∧ (s.raiseFlags m).supervisor = s.supervisor ∧ (s.raiseFlags m).stop = s.stop
      ∧ (s.raiseFlags m).attention = s.attention ∧ (s.raiseFlags m).results = s.results
      ∧ (s.raiseFlags m).latches = s.latches ∧ (s.raiseFlags m).counters = s.counters := by
  simp [State.raiseFlags]

@[simp] theorem noteResults_keeps :
    (noteResults s).pending = s.pending ∧ (noteResults s).resetLow = s.resetLow
      ∧ (noteResults s).inputs = s.inputs ∧ (noteResults s).awaitFrame = s.awaitFrame
      ∧ (noteResults s).link = s.link ∧ (noteResults s).params = s.params ∧ (noteResults s).plan = s.plan
      ∧ (noteResults s).rules = s.rules ∧ (noteResults s).manualMask = s.manualMask
      ∧ (noteResults s).chainage = s.chainage ∧ (noteResults s).measuring = s.measuring
      ∧ (noteResults s).computer = s.computer ∧ (noteResults s).seq = s.seq
      ∧ (noteResults s).heads = s.heads ∧ (noteResults s).lining = s.lining
      ∧ (noteResults s).supervisor = s.supervisor ∧ (noteResults s).stop = s.stop
      ∧ (noteResults s).attention = s.attention ∧ (noteResults s).results = s.results
      ∧ (noteResults s).counters = s.counters := by
  unfold noteResults; repeat' split
  all_goals simp

@[simp] theorem noteLimited_keeps (m : BitVec 16) :
    (noteLimited m s).pending = s.pending ∧ (noteLimited m s).resetLow = s.resetLow
      ∧ (noteLimited m s).inputs = s.inputs ∧ (noteLimited m s).awaitFrame = s.awaitFrame
      ∧ (noteLimited m s).link = s.link ∧ (noteLimited m s).params = s.params
      ∧ (noteLimited m s).plan = s.plan ∧ (noteLimited m s).rules = s.rules
      ∧ (noteLimited m s).manualMask = s.manualMask ∧ (noteLimited m s).chainage = s.chainage
      ∧ (noteLimited m s).measuring = s.measuring ∧ (noteLimited m s).computer = s.computer
      ∧ (noteLimited m s).seq = s.seq ∧ (noteLimited m s).heads = s.heads
      ∧ (noteLimited m s).lining = s.lining ∧ (noteLimited m s).supervisor = s.supervisor
      ∧ (noteLimited m s).stop = s.stop ∧ (noteLimited m s).attention = s.attention
      ∧ (noteLimited m s).results = s.results := by
  unfold noteLimited; repeat' split
  all_goals simp

@[simp] theorem recordSleeper_keeps (o : SleeperOutcome) :
    (recordSleeper o s).pending = s.pending ∧ (recordSleeper o s).resetLow = s.resetLow
      ∧ (recordSleeper o s).inputs = s.inputs ∧ (recordSleeper o s).awaitFrame = s.awaitFrame
      ∧ (recordSleeper o s).link = s.link ∧ (recordSleeper o s).params = s.params
      ∧ (recordSleeper o s).plan = s.plan ∧ (recordSleeper o s).rules = s.rules
      ∧ (recordSleeper o s).manualMask = s.manualMask ∧ (recordSleeper o s).chainage = s.chainage
      ∧ (recordSleeper o s).measuring = s.measuring ∧ (recordSleeper o s).heads = s.heads
      ∧ (recordSleeper o s).lining = s.lining ∧ (recordSleeper o s).supervisor = s.supervisor
      ∧ (recordSleeper o s).stop = s.stop ∧ (recordSleeper o s).attention = s.attention := by
  unfold recordSleeper; repeat' split
  all_goals simp

@[simp] theorem State.reportParked_keeps (i : Fin 4) :
    (State.reportParked i s).pending = s.pending ∧ (State.reportParked i s).resetLow = s.resetLow
      ∧ (State.reportParked i s).inputs = s.inputs ∧ (State.reportParked i s).awaitFrame = s.awaitFrame
      ∧ (State.reportParked i s).link = s.link ∧ (State.reportParked i s).params = s.params
      ∧ (State.reportParked i s).plan = s.plan ∧ (State.reportParked i s).rules = s.rules
      ∧ (State.reportParked i s).manualMask = s.manualMask ∧ (State.reportParked i s).chainage = s.chainage
      ∧ (State.reportParked i s).measuring = s.measuring ∧ (State.reportParked i s).computer = s.computer
      ∧ (State.reportParked i s).seq = s.seq ∧ (State.reportParked i s).heads = s.heads
      ∧ (State.reportParked i s).supervisor = s.supervisor ∧ (State.reportParked i s).stop = s.stop
      ∧ (State.reportParked i s).attention = s.attention ∧ (State.reportParked i s).results = s.results
      ∧ (State.reportParked i s).latches = s.latches ∧ (State.reportParked i s).counters = s.counters := by
  simp [State.reportParked]

@[simp] theorem State.stepHead_keeps (f : HeadEnv → HeadRecord → HeadStep) (i : Fin 4) :
    (s.stepHead f i).pending = s.pending ∧ (s.stepHead f i).resetLow = s.resetLow
      ∧ (s.stepHead f i).inputs = s.inputs ∧ (s.stepHead f i).awaitFrame = s.awaitFrame
      ∧ (s.stepHead f i).link = s.link ∧ (s.stepHead f i).params = s.params
      ∧ (s.stepHead f i).plan = s.plan ∧ (s.stepHead f i).rules = s.rules
      ∧ (s.stepHead f i).manualMask = s.manualMask ∧ (s.stepHead f i).chainage = s.chainage
      ∧ (s.stepHead f i).measuring = s.measuring ∧ (s.stepHead f i).computer = s.computer
      ∧ (s.stepHead f i).seq = s.seq ∧ (s.stepHead f i).supervisor = s.supervisor
      ∧ (s.stepHead f i).stop = s.stop ∧ (s.stepHead f i).attention = s.attention
      ∧ (s.stepHead f i).results = s.results ∧ (s.stepHead f i).latches = s.latches
      ∧ (s.stepHead f i).counters = s.counters := by
  unfold State.stepHead; repeat' split
  all_goals simp

@[simp] theorem State.stepHeads_keeps (f : HeadEnv → HeadRecord → HeadStep) :
    (s.stepHeads f).pending = s.pending ∧ (s.stepHeads f).resetLow = s.resetLow
      ∧ (s.stepHeads f).inputs = s.inputs ∧ (s.stepHeads f).awaitFrame = s.awaitFrame
      ∧ (s.stepHeads f).link = s.link ∧ (s.stepHeads f).params = s.params ∧ (s.stepHeads f).plan = s.plan
      ∧ (s.stepHeads f).rules = s.rules ∧ (s.stepHeads f).manualMask = s.manualMask
      ∧ (s.stepHeads f).chainage = s.chainage ∧ (s.stepHeads f).measuring = s.measuring
      ∧ (s.stepHeads f).computer = s.computer ∧ (s.stepHeads f).seq = s.seq
      ∧ (s.stepHeads f).supervisor = s.supervisor ∧ (s.stepHeads f).stop = s.stop
      ∧ (s.stepHeads f).attention = s.attention ∧ (s.stepHeads f).results = s.results
      ∧ (s.stepHeads f).latches = s.latches ∧ (s.stepHeads f).counters = s.counters := by simp [State.stepHeads]

@[simp] theorem State.headsGoOut_keeps :
    (s.headsGoOut).pending = s.pending ∧ (s.headsGoOut).resetLow = s.resetLow
      ∧ (s.headsGoOut).inputs = s.inputs ∧ (s.headsGoOut).awaitFrame = s.awaitFrame
      ∧ (s.headsGoOut).link = s.link ∧ (s.headsGoOut).params = s.params ∧ (s.headsGoOut).plan = s.plan
      ∧ (s.headsGoOut).rules = s.rules ∧ (s.headsGoOut).manualMask = s.manualMask
      ∧ (s.headsGoOut).chainage = s.chainage ∧ (s.headsGoOut).measuring = s.measuring
      ∧ (s.headsGoOut).computer = s.computer ∧ (s.headsGoOut).seq = s.seq
      ∧ (s.headsGoOut).supervisor = s.supervisor ∧ (s.headsGoOut).stop = s.stop
      ∧ (s.headsGoOut).attention = s.attention ∧ (s.headsGoOut).results = s.results
      ∧ (s.headsGoOut).latches = s.latches ∧ (s.headsGoOut).counters = s.counters := by
  simp [State.headsGoOut]

@[simp] theorem State.headsTakeUp_keeps :
    (s.headsTakeUp).pending = s.pending ∧ (s.headsTakeUp).resetLow = s.resetLow
      ∧ (s.headsTakeUp).inputs = s.inputs ∧ (s.headsTakeUp).awaitFrame = s.awaitFrame
      ∧ (s.headsTakeUp).link = s.link ∧ (s.headsTakeUp).params = s.params ∧ (s.headsTakeUp).plan = s.plan
      ∧ (s.headsTakeUp).rules = s.rules ∧ (s.headsTakeUp).manualMask = s.manualMask
      ∧ (s.headsTakeUp).chainage = s.chainage ∧ (s.headsTakeUp).measuring = s.measuring
      ∧ (s.headsTakeUp).computer = s.computer ∧ (s.headsTakeUp).seq = s.seq
      ∧ (s.headsTakeUp).supervisor = s.supervisor ∧ (s.headsTakeUp).stop = s.stop
      ∧ (s.headsTakeUp).attention = s.attention ∧ (s.headsTakeUp).results = s.results
      ∧ (s.headsTakeUp).latches = s.latches ∧ (s.headsTakeUp).counters = s.counters := by
  simp [State.headsTakeUp]

@[simp] theorem State.headsPrepare_keeps :
    (s.headsPrepare).pending = s.pending ∧ (s.headsPrepare).resetLow = s.resetLow
      ∧ (s.headsPrepare).inputs = s.inputs ∧ (s.headsPrepare).awaitFrame = s.awaitFrame
      ∧ (s.headsPrepare).link = s.link ∧ (s.headsPrepare).params = s.params
      ∧ (s.headsPrepare).plan = s.plan ∧ (s.headsPrepare).rules = s.rules
      ∧ (s.headsPrepare).manualMask = s.manualMask ∧ (s.headsPrepare).chainage = s.chainage
      ∧ (s.headsPrepare).measuring = s.measuring ∧ (s.headsPrepare).computer = s.computer
      ∧ (s.headsPrepare).seq = s.seq ∧ (s.headsPrepare).supervisor = s.supervisor
      ∧ (s.headsPrepare).stop = s.stop ∧ (s.headsPrepare).attention = s.attention
      ∧ (s.headsPrepare).results = s.results ∧ (s.headsPrepare).latches = s.latches
      ∧ (s.headsPrepare).counters = s.counters := by
  simp [State.headsPrepare]

@[simp] theorem State.headsTampStart_keeps :
    (s.headsTampStart).pending = s.pending ∧ (s.headsTampStart).resetLow = s.resetLow
      ∧ (s.headsTampStart).inputs = s.inputs ∧ (s.headsTampStart).awaitFrame = s.awaitFrame
      ∧ (s.headsTampStart).link = s.link ∧ (s.headsTampStart).params = s.params
      ∧ (s.headsTampStart).plan = s.plan ∧ (s.headsTampStart).rules = s.rules
      ∧ (s.headsTampStart).manualMask = s.manualMask ∧ (s.headsTampStart).chainage = s.chainage
      ∧ (s.headsTampStart).measuring = s.measuring ∧ (s.headsTampStart).computer = s.computer
      ∧ (s.headsTampStart).seq = s.seq ∧ (s.headsTampStart).supervisor = s.supervisor
      ∧ (s.headsTampStart).stop = s.stop ∧ (s.headsTampStart).attention = s.attention
      ∧ (s.headsTampStart).results = s.results ∧ (s.headsTampStart).latches = s.latches
      ∧ (s.headsTampStart).counters = s.counters := by
  simp [State.headsTampStart]

@[simp] theorem endMeasuring_keeps :
    (endMeasuring s).pending = s.pending ∧ (endMeasuring s).resetLow = s.resetLow
      ∧ (endMeasuring s).inputs = s.inputs ∧ (endMeasuring s).awaitFrame = s.awaitFrame
      ∧ (endMeasuring s).link = s.link ∧ (endMeasuring s).params = s.params
      ∧ (endMeasuring s).plan = s.plan ∧ (endMeasuring s).rules = s.rules
      ∧ (endMeasuring s).manualMask = s.manualMask ∧ (endMeasuring s).chainage = s.chainage
      ∧ (endMeasuring s).computer = s.computer ∧ (endMeasuring s).seq = s.seq
      ∧ (endMeasuring s).heads = s.heads ∧ (endMeasuring s).lining = s.lining
      ∧ (endMeasuring s).supervisor = s.supervisor ∧ (endMeasuring s).stop = s.stop
      ∧ (endMeasuring s).attention = s.attention ∧ (endMeasuring s).results = s.results
      ∧ (endMeasuring s).latches = s.latches ∧ (endMeasuring s).counters = s.counters := by
  simp [endMeasuring]

@[simp] theorem endLive_keeps :
    (endLive s).pending = s.pending ∧ (endLive s).resetLow = s.resetLow ∧ (endLive s).inputs = s.inputs
      ∧ (endLive s).awaitFrame = s.awaitFrame ∧ (endLive s).link = s.link ∧ (endLive s).params = s.params
      ∧ (endLive s).plan = s.plan ∧ (endLive s).rules = s.rules ∧ (endLive s).manualMask = s.manualMask
      ∧ (endLive s).chainage = s.chainage ∧ (endLive s).computer = s.computer ∧ (endLive s).seq = s.seq
      ∧ (endLive s).heads = s.heads ∧ (endLive s).lining = s.lining ∧ (endLive s).supervisor = s.supervisor
      ∧ (endLive s).stop = s.stop ∧ (endLive s).attention = s.attention ∧ (endLive s).results = s.results
      ∧ (endLive s).latches = s.latches ∧ (endLive s).counters = s.counters := by
  unfold endLive; repeat' split
  all_goals simp

@[simp] theorem enterEnded_keeps :
    (enterEnded s).pending = s.pending ∧ (enterEnded s).resetLow = s.resetLow
      ∧ (enterEnded s).inputs = s.inputs ∧ (enterEnded s).awaitFrame = s.awaitFrame
      ∧ (enterEnded s).link = s.link ∧ (enterEnded s).params = s.params ∧ (enterEnded s).rules = s.rules
      ∧ (enterEnded s).manualMask = s.manualMask ∧ (enterEnded s).measuring = s.measuring
      ∧ (enterEnded s).computer = s.computer ∧ (enterEnded s).heads = s.heads
      ∧ (enterEnded s).lining = s.lining ∧ (enterEnded s).supervisor = s.supervisor
      ∧ (enterEnded s).stop = s.stop ∧ (enterEnded s).attention = s.attention
      ∧ (enterEnded s).results = s.results ∧ (enterEnded s).counters = s.counters := by
  simp [enterEnded]

@[simp] theorem advanceRun_keeps :
    (advanceRun s).pending = s.pending ∧ (advanceRun s).resetLow = s.resetLow
      ∧ (advanceRun s).inputs = s.inputs ∧ (advanceRun s).awaitFrame = s.awaitFrame
      ∧ (advanceRun s).link = s.link ∧ (advanceRun s).params = s.params ∧ (advanceRun s).rules = s.rules
      ∧ (advanceRun s).manualMask = s.manualMask ∧ (advanceRun s).measuring = s.measuring
      ∧ (advanceRun s).computer = s.computer ∧ (advanceRun s).heads = s.heads
      ∧ (advanceRun s).lining = s.lining ∧ (advanceRun s).supervisor = s.supervisor
      ∧ (advanceRun s).stop = s.stop ∧ (advanceRun s).attention = s.attention
      ∧ (advanceRun s).results = s.results ∧ (advanceRun s).counters = s.counters := by
  unfold advanceRun; repeat' split
  all_goals simp

@[simp] theorem continueRun_keeps :
    (continueRun s).pending = s.pending ∧ (continueRun s).resetLow = s.resetLow
      ∧ (continueRun s).inputs = s.inputs ∧ (continueRun s).awaitFrame = s.awaitFrame
      ∧ (continueRun s).link = s.link ∧ (continueRun s).params = s.params ∧ (continueRun s).rules = s.rules
      ∧ (continueRun s).manualMask = s.manualMask ∧ (continueRun s).measuring = s.measuring
      ∧ (continueRun s).computer = s.computer ∧ (continueRun s).heads = s.heads
      ∧ (continueRun s).lining = s.lining ∧ (continueRun s).supervisor = s.supervisor
      ∧ (continueRun s).stop = s.stop ∧ (continueRun s).attention = s.attention
      ∧ (continueRun s).results = s.results ∧ (continueRun s).counters = s.counters := by
  unfold continueRun; repeat' split
  all_goals simp

@[simp] theorem afterRecording_keeps :
    (afterRecording s).pending = s.pending ∧ (afterRecording s).resetLow = s.resetLow
      ∧ (afterRecording s).inputs = s.inputs ∧ (afterRecording s).awaitFrame = s.awaitFrame
      ∧ (afterRecording s).link = s.link ∧ (afterRecording s).params = s.params
      ∧ (afterRecording s).rules = s.rules ∧ (afterRecording s).manualMask = s.manualMask
      ∧ (afterRecording s).measuring = s.measuring ∧ (afterRecording s).computer = s.computer
      ∧ (afterRecording s).heads = s.heads ∧ (afterRecording s).lining = s.lining
      ∧ (afterRecording s).supervisor = s.supervisor ∧ (afterRecording s).stop = s.stop
      ∧ (afterRecording s).attention = s.attention ∧ (afterRecording s).results = s.results
      ∧ (afterRecording s).counters = s.counters := by
  simp [afterRecording]

@[simp] theorem openWindow_keeps (k : WindowKind) :
    (openWindow k s).pending = s.pending ∧ (openWindow k s).resetLow = s.resetLow
      ∧ (openWindow k s).inputs = s.inputs ∧ (openWindow k s).awaitFrame = s.awaitFrame
      ∧ (openWindow k s).link = s.link ∧ (openWindow k s).params = s.params
      ∧ (openWindow k s).plan = s.plan ∧ (openWindow k s).rules = s.rules
      ∧ (openWindow k s).manualMask = s.manualMask ∧ (openWindow k s).chainage = s.chainage
      ∧ (openWindow k s).computer = s.computer ∧ (openWindow k s).seq = s.seq
      ∧ (openWindow k s).heads = s.heads ∧ (openWindow k s).lining = s.lining
      ∧ (openWindow k s).supervisor = s.supervisor ∧ (openWindow k s).stop = s.stop
      ∧ (openWindow k s).attention = s.attention ∧ (openWindow k s).results = s.results
      ∧ (openWindow k s).latches = s.latches ∧ (openWindow k s).counters = s.counters := by
  unfold openWindow; repeat' split
  all_goals simp

@[simp] theorem reportClamped_keeps :
    (reportClamped s).pending = s.pending ∧ (reportClamped s).resetLow = s.resetLow
      ∧ (reportClamped s).inputs = s.inputs ∧ (reportClamped s).awaitFrame = s.awaitFrame
      ∧ (reportClamped s).link = s.link ∧ (reportClamped s).params = s.params
      ∧ (reportClamped s).plan = s.plan ∧ (reportClamped s).rules = s.rules
      ∧ (reportClamped s).manualMask = s.manualMask ∧ (reportClamped s).chainage = s.chainage
      ∧ (reportClamped s).computer = s.computer ∧ (reportClamped s).seq = s.seq
      ∧ (reportClamped s).heads = s.heads ∧ (reportClamped s).lining = s.lining
      ∧ (reportClamped s).supervisor = s.supervisor ∧ (reportClamped s).stop = s.stop
      ∧ (reportClamped s).attention = s.attention ∧ (reportClamped s).results = s.results
      ∧ (reportClamped s).latches = s.latches ∧ (reportClamped s).counters = s.counters := by
  unfold reportClamped; repeat' split
  all_goals simp

@[simp] theorem clampUnit_keeps :
    (clampUnit s).pending = s.pending ∧ (clampUnit s).resetLow = s.resetLow
      ∧ (clampUnit s).inputs = s.inputs ∧ (clampUnit s).awaitFrame = s.awaitFrame
      ∧ (clampUnit s).link = s.link ∧ (clampUnit s).params = s.params ∧ (clampUnit s).plan = s.plan
      ∧ (clampUnit s).rules = s.rules ∧ (clampUnit s).manualMask = s.manualMask
      ∧ (clampUnit s).chainage = s.chainage ∧ (clampUnit s).computer = s.computer
      ∧ (clampUnit s).seq = s.seq ∧ (clampUnit s).heads = s.heads ∧ (clampUnit s).supervisor = s.supervisor
      ∧ (clampUnit s).stop = s.stop ∧ (clampUnit s).attention = s.attention
      ∧ (clampUnit s).results = s.results ∧ (clampUnit s).latches = s.latches
      ∧ (clampUnit s).counters = s.counters := by
  unfold clampUnit; dsimp only; repeat' split
  all_goals simp

@[simp] theorem reportOpen_keeps :
    (reportOpen s).pending = s.pending ∧ (reportOpen s).resetLow = s.resetLow
      ∧ (reportOpen s).inputs = s.inputs ∧ (reportOpen s).awaitFrame = s.awaitFrame
      ∧ (reportOpen s).link = s.link ∧ (reportOpen s).params = s.params ∧ (reportOpen s).rules = s.rules
      ∧ (reportOpen s).manualMask = s.manualMask ∧ (reportOpen s).computer = s.computer
      ∧ (reportOpen s).heads = s.heads ∧ (reportOpen s).supervisor = s.supervisor
      ∧ (reportOpen s).stop = s.stop ∧ (reportOpen s).attention = s.attention
      ∧ (reportOpen s).results = s.results ∧ (reportOpen s).counters = s.counters := by
  unfold reportOpen; repeat' split
  all_goals simp

@[simp] theorem releaseUnit_keeps :
    (releaseUnit s).pending = s.pending ∧ (releaseUnit s).resetLow = s.resetLow
      ∧ (releaseUnit s).inputs = s.inputs ∧ (releaseUnit s).awaitFrame = s.awaitFrame
      ∧ (releaseUnit s).link = s.link ∧ (releaseUnit s).params = s.params ∧ (releaseUnit s).rules = s.rules
      ∧ (releaseUnit s).manualMask = s.manualMask ∧ (releaseUnit s).computer = s.computer
      ∧ (releaseUnit s).heads = s.heads ∧ (releaseUnit s).supervisor = s.supervisor
      ∧ (releaseUnit s).stop = s.stop ∧ (releaseUnit s).attention = s.attention
      ∧ (releaseUnit s).results = s.results ∧ (releaseUnit s).counters = s.counters := by
  unfold releaseUnit; dsimp only; repeat' split
  all_goals simp

@[simp] theorem clampOrder_keeps (c : Context) :
    (clampOrder c s).pending = s.pending ∧ (clampOrder c s).resetLow = s.resetLow
      ∧ (clampOrder c s).inputs = s.inputs ∧ (clampOrder c s).awaitFrame = s.awaitFrame
      ∧ (clampOrder c s).link = s.link ∧ (clampOrder c s).params = s.params
      ∧ (clampOrder c s).rules = s.rules ∧ (clampOrder c s).manualMask = s.manualMask
      ∧ (clampOrder c s).computer = s.computer ∧ (clampOrder c s).heads = s.heads
      ∧ (clampOrder c s).supervisor = s.supervisor ∧ (clampOrder c s).stop = s.stop
      ∧ (clampOrder c s).attention = s.attention ∧ (clampOrder c s).results = s.results
      ∧ (clampOrder c s).counters = s.counters := by
  unfold clampOrder; dsimp only; repeat' split
  all_goals simp

@[simp] theorem abortUnit_keeps :
    (abortUnit s).pending = s.pending ∧ (abortUnit s).resetLow = s.resetLow
      ∧ (abortUnit s).inputs = s.inputs ∧ (abortUnit s).awaitFrame = s.awaitFrame
      ∧ (abortUnit s).link = s.link ∧ (abortUnit s).params = s.params ∧ (abortUnit s).plan = s.plan
      ∧ (abortUnit s).rules = s.rules ∧ (abortUnit s).manualMask = s.manualMask
      ∧ (abortUnit s).chainage = s.chainage ∧ (abortUnit s).measuring = s.measuring
      ∧ (abortUnit s).computer = s.computer ∧ (abortUnit s).seq = s.seq ∧ (abortUnit s).heads = s.heads
      ∧ (abortUnit s).supervisor = s.supervisor ∧ (abortUnit s).stop = s.stop
      ∧ (abortUnit s).attention = s.attention ∧ (abortUnit s).results = s.results
      ∧ (abortUnit s).latches = s.latches ∧ (abortUnit s).counters = s.counters := by
  simp [abortUnit]

@[simp] theorem enterMeasuring_keeps (c : Context) :
    (enterMeasuring c s).pending = s.pending ∧ (enterMeasuring c s).resetLow = s.resetLow
      ∧ (enterMeasuring c s).inputs = s.inputs ∧ (enterMeasuring c s).awaitFrame = s.awaitFrame
      ∧ (enterMeasuring c s).link = s.link ∧ (enterMeasuring c s).params = s.params
      ∧ (enterMeasuring c s).rules = s.rules ∧ (enterMeasuring c s).manualMask = s.manualMask
      ∧ (enterMeasuring c s).computer = s.computer ∧ (enterMeasuring c s).supervisor = s.supervisor
      ∧ (enterMeasuring c s).stop = s.stop ∧ (enterMeasuring c s).attention = s.attention
      ∧ (enterMeasuring c s).results = s.results ∧ (enterMeasuring c s).counters = s.counters := by
  simp [enterMeasuring]

@[simp] theorem takeContext_keeps (r : SleeperRecord) (p : Pos) :
    (takeContext r p s).pending = s.pending ∧ (takeContext r p s).resetLow = s.resetLow
      ∧ (takeContext r p s).inputs = s.inputs ∧ (takeContext r p s).awaitFrame = s.awaitFrame
      ∧ (takeContext r p s).link = s.link ∧ (takeContext r p s).params = s.params
      ∧ (takeContext r p s).rules = s.rules ∧ (takeContext r p s).chainage = s.chainage
      ∧ (takeContext r p s).measuring = s.measuring ∧ (takeContext r p s).computer = s.computer
      ∧ (takeContext r p s).supervisor = s.supervisor ∧ (takeContext r p s).stop = s.stop
      ∧ (takeContext r p s).attention = s.attention ∧ (takeContext r p s).results = s.results
      ∧ (takeContext r p s).latches = s.latches ∧ (takeContext r p s).counters = s.counters := by
  simp [takeContext]

@[simp] theorem workContext_keeps :
    (workContext s).pending = s.pending ∧ (workContext s).resetLow = s.resetLow
      ∧ (workContext s).inputs = s.inputs ∧ (workContext s).awaitFrame = s.awaitFrame
      ∧ (workContext s).link = s.link ∧ (workContext s).params = s.params ∧ (workContext s).rules = s.rules
      ∧ (workContext s).manualMask = s.manualMask ∧ (workContext s).supervisor = s.supervisor
      ∧ (workContext s).stop = s.stop ∧ (workContext s).attention = s.attention := by
  unfold workContext; repeat' split
  all_goals simp

@[simp] theorem admit_keeps :
    (admitSleeper s).pending = s.pending ∧ (admitSleeper s).resetLow = s.resetLow ∧ (admitSleeper s).inputs = s.inputs
      ∧ (admitSleeper s).awaitFrame = s.awaitFrame ∧ (admitSleeper s).link = s.link ∧ (admitSleeper s).params = s.params
      ∧ (admitSleeper s).rules = s.rules ∧ (admitSleeper s).supervisor = s.supervisor ∧ (admitSleeper s).stop = s.stop
      ∧ (admitSleeper s).attention = s.attention := by
  unfold admitSleeper; repeat' split
  all_goals simp

@[simp] theorem positioned_keeps :
    (positioned s).pending = s.pending ∧ (positioned s).resetLow = s.resetLow
      ∧ (positioned s).inputs = s.inputs ∧ (positioned s).awaitFrame = s.awaitFrame
      ∧ (positioned s).link = s.link ∧ (positioned s).params = s.params ∧ (positioned s).rules = s.rules
      ∧ (positioned s).supervisor = s.supervisor ∧ (positioned s).stop = s.stop
      ∧ (positioned s).attention = s.attention := by
  unfold positioned; dsimp only; repeat' split
  all_goals simp

@[simp] theorem takeHalted_keeps :
    (takeHalted s).pending = s.pending ∧ (takeHalted s).resetLow = s.resetLow
      ∧ (takeHalted s).inputs = s.inputs ∧ (takeHalted s).awaitFrame = s.awaitFrame
      ∧ (takeHalted s).link = s.link ∧ (takeHalted s).params = s.params ∧ (takeHalted s).rules = s.rules
      ∧ (takeHalted s).supervisor = s.supervisor ∧ (takeHalted s).stop = s.stop
      ∧ (takeHalted s).attention = s.attention := by
  unfold takeHalted; dsimp only; repeat' split
  all_goals simp

@[simp] theorem expireIndexTimer_keeps :
    (expireIndexTimer s).pending = s.pending ∧ (expireIndexTimer s).resetLow = s.resetLow
      ∧ (expireIndexTimer s).inputs = s.inputs ∧ (expireIndexTimer s).awaitFrame = s.awaitFrame
      ∧ (expireIndexTimer s).link = s.link ∧ (expireIndexTimer s).params = s.params
      ∧ (expireIndexTimer s).plan = s.plan ∧ (expireIndexTimer s).rules = s.rules
      ∧ (expireIndexTimer s).manualMask = s.manualMask ∧ (expireIndexTimer s).measuring = s.measuring
      ∧ (expireIndexTimer s).computer = s.computer ∧ (expireIndexTimer s).heads = s.heads
      ∧ (expireIndexTimer s).lining = s.lining ∧ (expireIndexTimer s).supervisor = s.supervisor
      ∧ (expireIndexTimer s).stop = s.stop ∧ (expireIndexTimer s).attention = s.attention
      ∧ (expireIndexTimer s).results = s.results ∧ (expireIndexTimer s).counters = s.counters := by
  unfold expireIndexTimer; dsimp only; repeat' split
  all_goals simp

@[simp] theorem judgeDegraded_keeps (d : Bool) :
    (judgeDegraded d s).pending = s.pending ∧ (judgeDegraded d s).resetLow = s.resetLow
      ∧ (judgeDegraded d s).inputs = s.inputs ∧ (judgeDegraded d s).awaitFrame = s.awaitFrame
      ∧ (judgeDegraded d s).link = s.link ∧ (judgeDegraded d s).params = s.params
      ∧ (judgeDegraded d s).plan = s.plan ∧ (judgeDegraded d s).rules = s.rules
      ∧ (judgeDegraded d s).manualMask = s.manualMask ∧ (judgeDegraded d s).chainage = s.chainage
      ∧ (judgeDegraded d s).measuring = s.measuring ∧ (judgeDegraded d s).computer = s.computer
      ∧ (judgeDegraded d s).heads = s.heads ∧ (judgeDegraded d s).lining = s.lining
      ∧ (judgeDegraded d s).supervisor = s.supervisor ∧ (judgeDegraded d s).stop = s.stop
      ∧ (judgeDegraded d s).attention = s.attention ∧ (judgeDegraded d s).results = s.results
      ∧ (judgeDegraded d s).latches = s.latches := by
  unfold judgeDegraded; repeat' split
  all_goals simp

@[simp] theorem closePre_keeps (w : Window) (c : Context) :
    (closePre w c s).pending = s.pending ∧ (closePre w c s).resetLow = s.resetLow
      ∧ (closePre w c s).inputs = s.inputs ∧ (closePre w c s).awaitFrame = s.awaitFrame
      ∧ (closePre w c s).link = s.link ∧ (closePre w c s).params = s.params
      ∧ (closePre w c s).plan = s.plan ∧ (closePre w c s).rules = s.rules
      ∧ (closePre w c s).manualMask = s.manualMask ∧ (closePre w c s).chainage = s.chainage
      ∧ (closePre w c s).heads = s.heads ∧ (closePre w c s).supervisor = s.supervisor
      ∧ (closePre w c s).stop = s.stop ∧ (closePre w c s).attention = s.attention
      ∧ (closePre w c s).results = s.results ∧ (closePre w c s).latches = s.latches := by
  simp [closePre]

@[simp] theorem closeFinal_keeps (w : Window) (c : Context) :
    (closeFinal w c s).pending = s.pending ∧ (closeFinal w c s).resetLow = s.resetLow
      ∧ (closeFinal w c s).inputs = s.inputs ∧ (closeFinal w c s).awaitFrame = s.awaitFrame
      ∧ (closeFinal w c s).link = s.link ∧ (closeFinal w c s).params = s.params
      ∧ (closeFinal w c s).rules = s.rules ∧ (closeFinal w c s).manualMask = s.manualMask
      ∧ (closeFinal w c s).heads = s.heads ∧ (closeFinal w c s).lining = s.lining
      ∧ (closeFinal w c s).supervisor = s.supervisor ∧ (closeFinal w c s).stop = s.stop
      ∧ (closeFinal w c s).attention = s.attention := by
  simp [closeFinal]

@[simp] theorem closeWindow_keeps (w : Window) :
    (closeWindow w s).pending = s.pending ∧ (closeWindow w s).resetLow = s.resetLow
      ∧ (closeWindow w s).inputs = s.inputs ∧ (closeWindow w s).awaitFrame = s.awaitFrame
      ∧ (closeWindow w s).link = s.link ∧ (closeWindow w s).params = s.params
      ∧ (closeWindow w s).rules = s.rules ∧ (closeWindow w s).manualMask = s.manualMask
      ∧ (closeWindow w s).heads = s.heads ∧ (closeWindow w s).supervisor = s.supervisor
      ∧ (closeWindow w s).stop = s.stop ∧ (closeWindow w s).attention = s.attention := by
  unfold closeWindow; repeat' split
  all_goals simp

@[simp] theorem enterHolding_keeps (l : Channels (Option Int)) :
    (enterHolding l s).pending = s.pending ∧ (enterHolding l s).resetLow = s.resetLow
      ∧ (enterHolding l s).inputs = s.inputs ∧ (enterHolding l s).awaitFrame = s.awaitFrame
      ∧ (enterHolding l s).link = s.link ∧ (enterHolding l s).params = s.params
      ∧ (enterHolding l s).plan = s.plan ∧ (enterHolding l s).rules = s.rules
      ∧ (enterHolding l s).manualMask = s.manualMask ∧ (enterHolding l s).chainage = s.chainage
      ∧ (enterHolding l s).measuring = s.measuring ∧ (enterHolding l s).computer = s.computer
      ∧ (enterHolding l s).heads = s.heads ∧ (enterHolding l s).supervisor = s.supervisor
      ∧ (enterHolding l s).stop = s.stop ∧ (enterHolding l s).attention = s.attention
      ∧ (enterHolding l s).results = s.results ∧ (enterHolding l s).latches = s.latches
      ∧ (enterHolding l s).counters = s.counters := by
  simp [enterHolding]

@[simp] theorem takeLive_keeps (l : Live) (x : Channels (Option Int)) :
    (takeLive l x s).pending = s.pending ∧ (takeLive l x s).resetLow = s.resetLow
      ∧ (takeLive l x s).inputs = s.inputs ∧ (takeLive l x s).awaitFrame = s.awaitFrame
      ∧ (takeLive l x s).link = s.link ∧ (takeLive l x s).params = s.params
      ∧ (takeLive l x s).plan = s.plan ∧ (takeLive l x s).rules = s.rules
      ∧ (takeLive l x s).manualMask = s.manualMask ∧ (takeLive l x s).chainage = s.chainage
      ∧ (takeLive l x s).computer = s.computer ∧ (takeLive l x s).heads = s.heads
      ∧ (takeLive l x s).supervisor = s.supervisor ∧ (takeLive l x s).stop = s.stop
      ∧ (takeLive l x s).attention = s.attention ∧ (takeLive l x s).results = s.results
      ∧ (takeLive l x s).latches = s.latches ∧ (takeLive l x s).counters = s.counters := by
  unfold takeLive; dsimp only; repeat' split
  all_goals simp

@[simp] theorem takeMeasuringFrame_keeps (x : Channels (Option Int)) :
    (takeMeasuringFrame x s).pending = s.pending ∧ (takeMeasuringFrame x s).resetLow = s.resetLow
      ∧ (takeMeasuringFrame x s).inputs = s.inputs ∧ (takeMeasuringFrame x s).awaitFrame = s.awaitFrame
      ∧ (takeMeasuringFrame x s).link = s.link ∧ (takeMeasuringFrame x s).params = s.params
      ∧ (takeMeasuringFrame x s).rules = s.rules ∧ (takeMeasuringFrame x s).manualMask = s.manualMask
      ∧ (takeMeasuringFrame x s).heads = s.heads ∧ (takeMeasuringFrame x s).supervisor = s.supervisor
      ∧ (takeMeasuringFrame x s).stop = s.stop ∧ (takeMeasuringFrame x s).attention = s.attention := by
  unfold takeMeasuringFrame; repeat' split
  all_goals simp

@[simp] theorem expireSilence_keeps :
    (expireSilence s).pending = s.pending ∧ (expireSilence s).resetLow = s.resetLow
      ∧ (expireSilence s).inputs = s.inputs ∧ (expireSilence s).awaitFrame = s.awaitFrame
      ∧ (expireSilence s).link = s.link ∧ (expireSilence s).params = s.params
      ∧ (expireSilence s).rules = s.rules ∧ (expireSilence s).manualMask = s.manualMask
      ∧ (expireSilence s).heads = s.heads ∧ (expireSilence s).supervisor = s.supervisor
      ∧ (expireSilence s).stop = s.stop ∧ (expireSilence s).attention = s.attention := by
  unfold expireSilence; repeat' split
  all_goals simp

@[simp] theorem expireCorrection_keeps :
    (expireCorrection s).pending = s.pending ∧ (expireCorrection s).resetLow = s.resetLow
      ∧ (expireCorrection s).inputs = s.inputs ∧ (expireCorrection s).awaitFrame = s.awaitFrame
      ∧ (expireCorrection s).link = s.link ∧ (expireCorrection s).params = s.params
      ∧ (expireCorrection s).plan = s.plan ∧ (expireCorrection s).rules = s.rules
      ∧ (expireCorrection s).manualMask = s.manualMask ∧ (expireCorrection s).chainage = s.chainage
      ∧ (expireCorrection s).measuring = s.measuring ∧ (expireCorrection s).computer = s.computer
      ∧ (expireCorrection s).heads = s.heads ∧ (expireCorrection s).supervisor = s.supervisor
      ∧ (expireCorrection s).stop = s.stop ∧ (expireCorrection s).attention = s.attention
      ∧ (expireCorrection s).results = s.results ∧ (expireCorrection s).latches = s.latches
      ∧ (expireCorrection s).counters = s.counters := by
  unfold expireCorrection; repeat' split
  all_goals simp

@[simp] theorem clampFailure_keeps :
    (clampFailure s).pending = s.pending ∧ (clampFailure s).resetLow = s.resetLow
      ∧ (clampFailure s).inputs = s.inputs ∧ (clampFailure s).awaitFrame = s.awaitFrame
      ∧ (clampFailure s).link = s.link ∧ (clampFailure s).params = s.params
      ∧ (clampFailure s).plan = s.plan ∧ (clampFailure s).rules = s.rules
      ∧ (clampFailure s).manualMask = s.manualMask ∧ (clampFailure s).chainage = s.chainage
      ∧ (clampFailure s).supervisor = s.supervisor ∧ (clampFailure s).stop = s.stop
      ∧ (clampFailure s).attention = s.attention := by
  unfold clampFailure; repeat' split
  all_goals simp

@[simp] theorem holdForRetry_keeps :
    (holdForRetry s).pending = s.pending ∧ (holdForRetry s).resetLow = s.resetLow
      ∧ (holdForRetry s).inputs = s.inputs ∧ (holdForRetry s).awaitFrame = s.awaitFrame
      ∧ (holdForRetry s).link = s.link ∧ (holdForRetry s).params = s.params
      ∧ (holdForRetry s).plan = s.plan ∧ (holdForRetry s).rules = s.rules
      ∧ (holdForRetry s).manualMask = s.manualMask ∧ (holdForRetry s).chainage = s.chainage
      ∧ (holdForRetry s).measuring = s.measuring ∧ (holdForRetry s).computer = s.computer
      ∧ (holdForRetry s).heads = s.heads ∧ (holdForRetry s).lining = s.lining
      ∧ (holdForRetry s).supervisor = s.supervisor ∧ (holdForRetry s).stop = s.stop
      ∧ (holdForRetry s).attention = s.attention ∧ (holdForRetry s).results = s.results
      ∧ (holdForRetry s).counters = s.counters := by
  simp [holdForRetry]

@[simp] theorem releaseFailure_keeps :
    (releaseFailure s).pending = s.pending ∧ (releaseFailure s).resetLow = s.resetLow
      ∧ (releaseFailure s).inputs = s.inputs ∧ (releaseFailure s).awaitFrame = s.awaitFrame
      ∧ (releaseFailure s).link = s.link ∧ (releaseFailure s).params = s.params
      ∧ (releaseFailure s).plan = s.plan ∧ (releaseFailure s).rules = s.rules
      ∧ (releaseFailure s).manualMask = s.manualMask ∧ (releaseFailure s).chainage = s.chainage
      ∧ (releaseFailure s).supervisor = s.supervisor ∧ (releaseFailure s).stop = s.stop
      ∧ (releaseFailure s).attention = s.attention := by
  unfold releaseFailure; repeat' split
  all_goals simp

@[simp] theorem expireClampTimer_keeps :
    (expireClampTimer s).pending = s.pending ∧ (expireClampTimer s).resetLow = s.resetLow
      ∧ (expireClampTimer s).inputs = s.inputs ∧ (expireClampTimer s).awaitFrame = s.awaitFrame
      ∧ (expireClampTimer s).link = s.link ∧ (expireClampTimer s).params = s.params
      ∧ (expireClampTimer s).plan = s.plan ∧ (expireClampTimer s).rules = s.rules
      ∧ (expireClampTimer s).manualMask = s.manualMask ∧ (expireClampTimer s).chainage = s.chainage
      ∧ (expireClampTimer s).supervisor = s.supervisor ∧ (expireClampTimer s).stop = s.stop
      ∧ (expireClampTimer s).attention = s.attention := by
  unfold expireClampTimer; dsimp only; repeat' split
  all_goals simp

@[simp] theorem takeClampLevels_keeps :
    (takeClampLevels s).pending = s.pending ∧ (takeClampLevels s).resetLow = s.resetLow
      ∧ (takeClampLevels s).inputs = s.inputs ∧ (takeClampLevels s).awaitFrame = s.awaitFrame
      ∧ (takeClampLevels s).link = s.link ∧ (takeClampLevels s).params = s.params
      ∧ (takeClampLevels s).rules = s.rules ∧ (takeClampLevels s).manualMask = s.manualMask
      ∧ (takeClampLevels s).computer = s.computer ∧ (takeClampLevels s).heads = s.heads
      ∧ (takeClampLevels s).supervisor = s.supervisor ∧ (takeClampLevels s).stop = s.stop
      ∧ (takeClampLevels s).attention = s.attention ∧ (takeClampLevels s).results = s.results
      ∧ (takeClampLevels s).counters = s.counters := by
  unfold takeClampLevels; repeat' split
  all_goals simp

@[simp] theorem releaseAfterHeads_keeps :
    (releaseAfterHeads s).pending = s.pending ∧ (releaseAfterHeads s).resetLow = s.resetLow
      ∧ (releaseAfterHeads s).inputs = s.inputs ∧ (releaseAfterHeads s).awaitFrame = s.awaitFrame
      ∧ (releaseAfterHeads s).link = s.link ∧ (releaseAfterHeads s).params = s.params
      ∧ (releaseAfterHeads s).rules = s.rules ∧ (releaseAfterHeads s).manualMask = s.manualMask
      ∧ (releaseAfterHeads s).computer = s.computer ∧ (releaseAfterHeads s).heads = s.heads
      ∧ (releaseAfterHeads s).supervisor = s.supervisor ∧ (releaseAfterHeads s).stop = s.stop
      ∧ (releaseAfterHeads s).attention = s.attention ∧ (releaseAfterHeads s).results = s.results
      ∧ (releaseAfterHeads s).counters = s.counters := by
  unfold releaseAfterHeads; repeat' split
  all_goals simp

@[simp] theorem beginTamping_keeps :
    (beginTamping s).pending = s.pending ∧ (beginTamping s).resetLow = s.resetLow
      ∧ (beginTamping s).inputs = s.inputs ∧ (beginTamping s).awaitFrame = s.awaitFrame
      ∧ (beginTamping s).link = s.link ∧ (beginTamping s).params = s.params
      ∧ (beginTamping s).plan = s.plan ∧ (beginTamping s).rules = s.rules
      ∧ (beginTamping s).manualMask = s.manualMask ∧ (beginTamping s).chainage = s.chainage
      ∧ (beginTamping s).measuring = s.measuring ∧ (beginTamping s).computer = s.computer
      ∧ (beginTamping s).supervisor = s.supervisor ∧ (beginTamping s).stop = s.stop
      ∧ (beginTamping s).attention = s.attention ∧ (beginTamping s).results = s.results
      ∧ (beginTamping s).latches = s.latches ∧ (beginTamping s).counters = s.counters := by
  unfold beginTamping; repeat' split
  all_goals simp

@[simp] theorem endTamping_keeps :
    (endTamping s).pending = s.pending ∧ (endTamping s).resetLow = s.resetLow
      ∧ (endTamping s).inputs = s.inputs ∧ (endTamping s).awaitFrame = s.awaitFrame
      ∧ (endTamping s).link = s.link ∧ (endTamping s).params = s.params ∧ (endTamping s).rules = s.rules
      ∧ (endTamping s).manualMask = s.manualMask ∧ (endTamping s).computer = s.computer
      ∧ (endTamping s).heads = s.heads ∧ (endTamping s).supervisor = s.supervisor
      ∧ (endTamping s).stop = s.stop ∧ (endTamping s).attention = s.attention
      ∧ (endTamping s).results = s.results ∧ (endTamping s).counters = s.counters := by
  unfold endTamping; repeat' split
  all_goals simp

@[simp] theorem releaseFrozen_keeps :
    (releaseFrozen s).pending = s.pending ∧ (releaseFrozen s).resetLow = s.resetLow
      ∧ (releaseFrozen s).inputs = s.inputs ∧ (releaseFrozen s).awaitFrame = s.awaitFrame
      ∧ (releaseFrozen s).link = s.link ∧ (releaseFrozen s).params = s.params
      ∧ (releaseFrozen s).rules = s.rules ∧ (releaseFrozen s).manualMask = s.manualMask
      ∧ (releaseFrozen s).computer = s.computer ∧ (releaseFrozen s).heads = s.heads
      ∧ (releaseFrozen s).supervisor = s.supervisor ∧ (releaseFrozen s).stop = s.stop
      ∧ (releaseFrozen s).attention = s.attention ∧ (releaseFrozen s).results = s.results
      ∧ (releaseFrozen s).counters = s.counters := by
  unfold releaseFrozen; repeat' split
  all_goals simp

@[simp] theorem startIndexMove_keeps :
    (startIndexMove s).pending = s.pending ∧ (startIndexMove s).resetLow = s.resetLow
      ∧ (startIndexMove s).inputs = s.inputs ∧ (startIndexMove s).awaitFrame = s.awaitFrame
      ∧ (startIndexMove s).link = s.link ∧ (startIndexMove s).params = s.params
      ∧ (startIndexMove s).plan = s.plan ∧ (startIndexMove s).rules = s.rules
      ∧ (startIndexMove s).manualMask = s.manualMask ∧ (startIndexMove s).measuring = s.measuring
      ∧ (startIndexMove s).computer = s.computer ∧ (startIndexMove s).seq = s.seq
      ∧ (startIndexMove s).heads = s.heads ∧ (startIndexMove s).lining = s.lining
      ∧ (startIndexMove s).supervisor = s.supervisor ∧ (startIndexMove s).stop = s.stop
      ∧ (startIndexMove s).attention = s.attention ∧ (startIndexMove s).results = s.results
      ∧ (startIndexMove s).latches = s.latches ∧ (startIndexMove s).counters = s.counters := by
  unfold startIndexMove; repeat' split
  all_goals simp

/-- All that it can do: nothing, or the demand cancelled while a head is out of PARKED. -/
theorem cancelUnparked_cases :
    cancelUnparked s = s
      ∨ (s.chainage.move.demandActive = true ∧ s.allParked = false
        ∧ cancelUnparked s = s.setChainage s.chainage.cancelTravel) := by
  unfold cancelUnparked
  split
  · exact .inr ⟨(‹_ ∧ _›).1, (‹_ ∧ _›).2, rfl⟩
  · exact .inl rfl

@[simp] theorem cancelUnparked_keeps :
    (cancelUnparked s).pending = s.pending ∧ (cancelUnparked s).resetLow = s.resetLow
      ∧ (cancelUnparked s).inputs = s.inputs ∧ (cancelUnparked s).awaitFrame = s.awaitFrame
      ∧ (cancelUnparked s).link = s.link ∧ (cancelUnparked s).params = s.params
      ∧ (cancelUnparked s).plan = s.plan ∧ (cancelUnparked s).rules = s.rules
      ∧ (cancelUnparked s).manualMask = s.manualMask ∧ (cancelUnparked s).measuring = s.measuring
      ∧ (cancelUnparked s).computer = s.computer ∧ (cancelUnparked s).seq = s.seq
      ∧ (cancelUnparked s).heads = s.heads ∧ (cancelUnparked s).lining = s.lining
      ∧ (cancelUnparked s).supervisor = s.supervisor ∧ (cancelUnparked s).stop = s.stop
      ∧ (cancelUnparked s).attention = s.attention ∧ (cancelUnparked s).results = s.results
      ∧ (cancelUnparked s).latches = s.latches ∧ (cancelUnparked s).counters = s.counters := by
  rcases cancelUnparked_cases s with h | ⟨-, -, h⟩ <;> rw [h] <;> simp

@[simp] theorem settle_keeps :
    (settle s).pending = s.pending ∧ (settle s).resetLow = s.resetLow ∧ (settle s).inputs = s.inputs
      ∧ (settle s).awaitFrame = s.awaitFrame ∧ (settle s).link = s.link ∧ (settle s).params = s.params
      ∧ (settle s).rules = s.rules ∧ (settle s).manualMask = s.manualMask
      ∧ (settle s).computer = s.computer ∧ (settle s).supervisor = s.supervisor ∧ (settle s).stop = s.stop
      ∧ (settle s).attention = s.attention ∧ (settle s).results = s.results
      ∧ (settle s).counters = s.counters := by
  simp [settle]

@[simp] theorem enterFaultStop_keeps :
    (enterFaultStop s).pending = s.pending ∧ (enterFaultStop s).resetLow = s.resetLow
      ∧ (enterFaultStop s).inputs = s.inputs ∧ (enterFaultStop s).awaitFrame = s.awaitFrame
      ∧ (enterFaultStop s).link = s.link ∧ (enterFaultStop s).params = s.params
      ∧ (enterFaultStop s).plan = s.plan ∧ (enterFaultStop s).rules = s.rules
      ∧ (enterFaultStop s).manualMask = s.manualMask ∧ (enterFaultStop s).supervisor = s.supervisor
      ∧ (enterFaultStop s).stop = s.stop ∧ (enterFaultStop s).attention = s.attention := by
  simp [enterFaultStop]

@[simp] theorem raiseStop_keeps (c : StopCause) :
    (raiseStop c s).pending = s.pending ∧ (raiseStop c s).resetLow = s.resetLow
      ∧ (raiseStop c s).inputs = s.inputs ∧ (raiseStop c s).awaitFrame = s.awaitFrame
      ∧ (raiseStop c s).link = s.link ∧ (raiseStop c s).params = s.params ∧ (raiseStop c s).plan = s.plan
      ∧ (raiseStop c s).rules = s.rules ∧ (raiseStop c s).manualMask = s.manualMask
      ∧ (raiseStop c s).supervisor = s.supervisor ∧ (raiseStop c s).attention = s.attention := by
  unfold raiseStop; dsimp only; repeat' split
  all_goals simp

@[simp] theorem testAxis_keeps (a : Axis) :
    (testAxis s a).pending = s.pending ∧ (testAxis s a).resetLow = s.resetLow
      ∧ (testAxis s a).inputs = s.inputs ∧ (testAxis s a).awaitFrame = s.awaitFrame
      ∧ (testAxis s a).link = s.link ∧ (testAxis s a).params = s.params ∧ (testAxis s a).plan = s.plan
      ∧ (testAxis s a).rules = s.rules ∧ (testAxis s a).manualMask = s.manualMask
      ∧ (testAxis s a).attention = s.attention := by
  unfold testAxis; dsimp only; repeat' split
  all_goals simp

@[simp] theorem beginRun_keeps (p : Pos) :
    (beginRun p s).pending = s.pending ∧ (beginRun p s).resetLow = s.resetLow
      ∧ (beginRun p s).inputs = s.inputs ∧ (beginRun p s).awaitFrame = s.awaitFrame
      ∧ (beginRun p s).link = s.link ∧ (beginRun p s).params = s.params ∧ (beginRun p s).rules = s.rules
      ∧ (beginRun p s).manualMask = s.manualMask ∧ (beginRun p s).measuring = s.measuring
      ∧ (beginRun p s).heads = s.heads ∧ (beginRun p s).lining = s.lining
      ∧ (beginRun p s).supervisor = s.supervisor ∧ (beginRun p s).stop = s.stop
      ∧ (beginRun p s).attention = s.attention ∧ (beginRun p s).results = s.results
      ∧ (beginRun p s).latches = s.latches ∧ (beginRun p s).counters = s.counters := by
  simp [beginRun]

@[simp] theorem readmit_keeps :
    (readmit s).pending = s.pending ∧ (readmit s).resetLow = s.resetLow ∧ (readmit s).inputs = s.inputs
      ∧ (readmit s).awaitFrame = s.awaitFrame ∧ (readmit s).link = s.link ∧ (readmit s).params = s.params
      ∧ (readmit s).rules = s.rules ∧ (readmit s).supervisor = s.supervisor ∧ (readmit s).stop = s.stop
      ∧ (readmit s).attention = s.attention := by
  unfold readmit; dsimp only; repeat' split
  all_goals simp

@[simp] theorem retryRelease_keeps :
    (retryRelease s).pending = s.pending ∧ (retryRelease s).resetLow = s.resetLow
      ∧ (retryRelease s).inputs = s.inputs ∧ (retryRelease s).awaitFrame = s.awaitFrame
      ∧ (retryRelease s).link = s.link ∧ (retryRelease s).params = s.params
      ∧ (retryRelease s).rules = s.rules ∧ (retryRelease s).manualMask = s.manualMask
      ∧ (retryRelease s).computer = s.computer ∧ (retryRelease s).heads = s.heads
      ∧ (retryRelease s).supervisor = s.supervisor ∧ (retryRelease s).stop = s.stop
      ∧ (retryRelease s).attention = s.attention ∧ (retryRelease s).results = s.results
      ∧ (retryRelease s).counters = s.counters := by
  simp [retryRelease]

@[simp] theorem resumeAdvance_keeps :
    (resumeAdvance s).pending = s.pending ∧ (resumeAdvance s).resetLow = s.resetLow
      ∧ (resumeAdvance s).inputs = s.inputs ∧ (resumeAdvance s).awaitFrame = s.awaitFrame
      ∧ (resumeAdvance s).link = s.link ∧ (resumeAdvance s).params = s.params
      ∧ (resumeAdvance s).rules = s.rules ∧ (resumeAdvance s).manualMask = s.manualMask
      ∧ (resumeAdvance s).measuring = s.measuring ∧ (resumeAdvance s).computer = s.computer
      ∧ (resumeAdvance s).heads = s.heads ∧ (resumeAdvance s).lining = s.lining
      ∧ (resumeAdvance s).supervisor = s.supervisor ∧ (resumeAdvance s).stop = s.stop
      ∧ (resumeAdvance s).attention = s.attention ∧ (resumeAdvance s).results = s.results
      ∧ (resumeAdvance s).counters = s.counters := by
  simp [resumeAdvance]

@[simp] theorem takeAction_keeps (a : Option ResumeAction) :
    (takeAction a s).pending = s.pending ∧ (takeAction a s).resetLow = s.resetLow
      ∧ (takeAction a s).inputs = s.inputs ∧ (takeAction a s).awaitFrame = s.awaitFrame
      ∧ (takeAction a s).link = s.link ∧ (takeAction a s).params = s.params
      ∧ (takeAction a s).rules = s.rules ∧ (takeAction a s).supervisor = s.supervisor
      ∧ (takeAction a s).stop = s.stop ∧ (takeAction a s).attention = s.attention := by
  unfold takeAction; repeat' split
  all_goals simp

@[simp] theorem abortFlight_keeps :
    (abortFlight s).pending = s.pending ∧ (abortFlight s).resetLow = s.resetLow
      ∧ (abortFlight s).inputs = s.inputs ∧ (abortFlight s).awaitFrame = s.awaitFrame
      ∧ (abortFlight s).link = s.link ∧ (abortFlight s).params = s.params ∧ (abortFlight s).plan = s.plan
      ∧ (abortFlight s).rules = s.rules ∧ (abortFlight s).manualMask = s.manualMask
      ∧ (abortFlight s).chainage = s.chainage ∧ (abortFlight s).supervisor = s.supervisor
      ∧ (abortFlight s).stop = s.stop ∧ (abortFlight s).attention = s.attention := by
  simp [abortFlight]

@[simp] theorem endRunNow_keeps :
    (endRunNow s).pending = s.pending ∧ (endRunNow s).resetLow = s.resetLow
      ∧ (endRunNow s).inputs = s.inputs ∧ (endRunNow s).awaitFrame = s.awaitFrame
      ∧ (endRunNow s).link = s.link ∧ (endRunNow s).params = s.params ∧ (endRunNow s).rules = s.rules
      ∧ (endRunNow s).manualMask = s.manualMask ∧ (endRunNow s).supervisor = s.supervisor
      ∧ (endRunNow s).stop = s.stop ∧ (endRunNow s).attention = s.attention := by
  simp [endRunNow]

@[simp] theorem retryCrossing_keeps (w : Pos) :
    (retryCrossing w s).pending = s.pending ∧ (retryCrossing w s).resetLow = s.resetLow
      ∧ (retryCrossing w s).inputs = s.inputs ∧ (retryCrossing w s).awaitFrame = s.awaitFrame
      ∧ (retryCrossing w s).link = s.link ∧ (retryCrossing w s).params = s.params
      ∧ (retryCrossing w s).rules = s.rules ∧ (retryCrossing w s).manualMask = s.manualMask
      ∧ (retryCrossing w s).measuring = s.measuring ∧ (retryCrossing w s).computer = s.computer
      ∧ (retryCrossing w s).heads = s.heads ∧ (retryCrossing w s).lining = s.lining
      ∧ (retryCrossing w s).supervisor = s.supervisor ∧ (retryCrossing w s).stop = s.stop
      ∧ (retryCrossing w s).attention = s.attention ∧ (retryCrossing w s).results = s.results
      ∧ (retryCrossing w s).counters = s.counters := by
  unfold retryCrossing; repeat' split
  all_goals simp

end Sys2Proof.Machine
end

