-- ==== Sys2Proof/Laws/Requests.lean ====
section
/-! SUPPORT. What the execution of a request leaves as it is, whoever owns it. -/

namespace Sys2Proof.Machine

variable (s : State)

/-! ## The attention timer alone -/

@[simp] theorem activity_keeps :
    (activity s).pending = s.pending ∧ (activity s).resetLow = s.resetLow
      ∧ (activity s).inputs = s.inputs ∧ (activity s).awaitFrame = s.awaitFrame
      ∧ (activity s).link = s.link ∧ (activity s).params = s.params ∧ (activity s).plan = s.plan
      ∧ (activity s).rules = s.rules ∧ (activity s).manualMask = s.manualMask
      ∧ (activity s).chainage = s.chainage ∧ (activity s).measuring = s.measuring
      ∧ (activity s).computer = s.computer ∧ (activity s).seq = s.seq ∧ (activity s).heads = s.heads
      ∧ (activity s).lining = s.lining ∧ (activity s).supervisor = s.supervisor
      ∧ (activity s).stop = s.stop ∧ (activity s).results = s.results ∧ (activity s).latches = s.latches
      ∧ (activity s).counters = s.counters := by
  rw [activity_eq]; simp

@[simp] theorem requestActivity_keeps (r : Request) (y : Reply) :
    (requestActivity r y s).pending = s.pending ∧ (requestActivity r y s).resetLow = s.resetLow
      ∧ (requestActivity r y s).inputs = s.inputs ∧ (requestActivity r y s).awaitFrame = s.awaitFrame
      ∧ (requestActivity r y s).link = s.link ∧ (requestActivity r y s).params = s.params
      ∧ (requestActivity r y s).plan = s.plan ∧ (requestActivity r y s).rules = s.rules
      ∧ (requestActivity r y s).manualMask = s.manualMask ∧ (requestActivity r y s).chainage = s.chainage
      ∧ (requestActivity r y s).measuring = s.measuring ∧ (requestActivity r y s).computer = s.computer
      ∧ (requestActivity r y s).seq = s.seq ∧ (requestActivity r y s).heads = s.heads
      ∧ (requestActivity r y s).lining = s.lining ∧ (requestActivity r y s).supervisor = s.supervisor
      ∧ (requestActivity r y s).stop = s.stop ∧ (requestActivity r y s).results = s.results
      ∧ (requestActivity r y s).latches = s.latches ∧ (requestActivity r y s).counters = s.counters := by
  rw [requestActivity_eq]; simp

@[simp] theorem followAttention_keeps (before : State) :
    (followAttention before s).pending = s.pending ∧ (followAttention before s).resetLow = s.resetLow
      ∧ (followAttention before s).inputs = s.inputs
      ∧ (followAttention before s).awaitFrame = s.awaitFrame ∧ (followAttention before s).link = s.link
      ∧ (followAttention before s).params = s.params ∧ (followAttention before s).plan = s.plan
      ∧ (followAttention before s).rules = s.rules ∧ (followAttention before s).manualMask = s.manualMask
      ∧ (followAttention before s).chainage = s.chainage
      ∧ (followAttention before s).measuring = s.measuring
      ∧ (followAttention before s).computer = s.computer ∧ (followAttention before s).seq = s.seq
      ∧ (followAttention before s).heads = s.heads ∧ (followAttention before s).lining = s.lining
      ∧ (followAttention before s).supervisor = s.supervisor ∧ (followAttention before s).stop = s.stop
      ∧ (followAttention before s).results = s.results ∧ (followAttention before s).latches = s.latches
      ∧ (followAttention before s).counters = s.counters := by
  rw [followAttention_eq]; simp

/-! ## The requests -/

theorem resumed_keeps {s t : State} (h : resumed s = some t) :
    t.pending = s.pending ∧ t.resetLow = s.resetLow ∧ t.inputs = s.inputs ∧ t.awaitFrame = s.awaitFrame
      ∧ t.link = s.link ∧ t.params = s.params ∧ t.rules = s.rules ∧ t.supervisor = s.supervisor
      ∧ t.stop = s.stop := by
  unfold resumed resumeHold at h
  repeat' split at h
  all_goals first | (obtain rfl := Option.some.inj h; simp) | cases h

/-- The owner of a request changes neither the link nor what stands outside the part. -/
theorem runCall_keeps (c : Call) :
    (runCall c s).1.pending = s.pending ∧ (runCall c s).1.resetLow = s.resetLow
      ∧ (runCall c s).1.inputs = s.inputs ∧ (runCall c s).1.awaitFrame = s.awaitFrame
      ∧ (runCall c s).1.link = s.link := by
  cases c
  case resume =>
    simp only [runCall, resumeRun]
    split
    · next h => have := resumed_keeps h; simp_all
    · simp
  all_goals
    simp only [runCall, setParam, setChord, setClamped, storeParam, planRequest, ruleRequest,
      setManualMaskRequest, setChainageTo, startRun, closePage, pauseRun, confirmSleeper, skipSleeper,
      pendSkip, abortSleeper, retampSleeper, stopRun, clearStop, releaseResultsRequest, releaseResults,
      getCounters, clearEvents]
    repeat' split
    all_goals simp

@[simp] theorem runCall_link (c : Call) : (runCall c s).1.link = s.link := (runCall_keeps s c).2.2.2.2

end Sys2Proof.Machine
end

