-- ==== Sys2Proof/Laws/Commute.lean ====
section
/-! SUPPORT. No operation of the sleeper cycle reads the work link: each gives the same change whatever the link
holds. -/

namespace Sys2Proof.Machine

variable (s : State) (z : Link)

/-! ## The link last -/

@[simp] theorem setLink_setPending (x : List Instr) : (s.setLink z).setPending x = (s.setPending x).setLink z := rfl
@[simp] theorem setLink_setResetLow (x : Bool) : (s.setLink z).setResetLow x = (s.setResetLow x).setLink z := rfl
@[simp] theorem setLink_setInputs (x : Inputs) : (s.setLink z).setInputs x = (s.setInputs x).setLink z := rfl
@[simp] theorem setLink_setAwaitFrame (x : Bool) : (s.setLink z).setAwaitFrame x = (s.setAwaitFrame x).setLink z := rfl
@[simp] theorem setLink_setParams (x : Params) : (s.setLink z).setParams x = (s.setParams x).setLink z := rfl
@[simp] theorem setLink_setPlan (x : PlanStore) : (s.setLink z).setPlan x = (s.setPlan x).setLink z := rfl
@[simp] theorem setLink_setRules (x : List ZoneRule) : (s.setLink z).setRules x = (s.setRules x).setLink z := rfl
@[simp] theorem setLink_setManualMask (x : Option TineMask) : (s.setLink z).setManualMask x = (s.setManualMask x).setLink z := rfl
@[simp] theorem setLink_setChainage (x : ChainageUnit) : (s.setLink z).setChainage x = (s.setChainage x).setLink z := rfl
@[simp] theorem setLink_setMeasuring (x : Measuring) : (s.setLink z).setMeasuring x = (s.setMeasuring x).setLink z := rfl
@[simp] theorem setLink_setComputer (x : CorrectionComputer) : (s.setLink z).setComputer x = (s.setComputer x).setLink z := rfl
@[simp] theorem setLink_setSeq (x : Sequencer) : (s.setLink z).setSeq x = (s.setSeq x).setLink z := rfl
@[simp] theorem setLink_setHeads (x : Quad HeadRecord) : (s.setLink z).setHeads x = (s.setHeads x).setLink z := rfl
@[simp] theorem setLink_setLining (x : LiningUnit) : (s.setLink z).setLining x = (s.setLining x).setLink z := rfl
@[simp] theorem setLink_setSupervisor (x : Supervisor) : (s.setLink z).setSupervisor x = (s.setSupervisor x).setLink z := rfl
@[simp] theorem setLink_setStop (x : StopBlock) : (s.setLink z).setStop x = (s.setStop x).setLink z := rfl
@[simp] theorem setLink_setAttention (x : Attention) : (s.setLink z).setAttention x = (s.setAttention x).setLink z := rfl
@[simp] theorem setLink_setResults (x : List ResultRecord) : (s.setLink z).setResults x = (s.setResults x).setLink z := rfl
@[simp] theorem setLink_setLatches (x : Byte) : (s.setLink z).setLatches x = (s.setLatches x).setLink z := rfl
@[simp] theorem setLink_setCounters (x : Counters) : (s.setLink z).setCounters x = (s.setCounters x).setLink z := rfl

@[simp] theorem headEnv_setLink (i : Fin 4) : (s.setLink z).headEnv i = s.headEnv i := rfl
@[simp] theorem notParked_setLink : (s.setLink z).notParked = s.notParked := rfl
@[simp] theorem trackSensed_setLink : (s.setLink z).trackSensed = s.trackSensed := rfl
@[simp] theorem admitted_setLink : (s.setLink z).admitted = s.admitted := rfl
@[simp] theorem lastLive_setLink : (s.setLink z).lastLive = s.lastLive := rfl
@[simp] theorem allParked_setLink : (s.setLink z).allParked = s.allParked := rfl
@[simp] theorem formContext_setLink (r : SleeperRecord) (p : Pos) (k : AdmissionKind) (f : FrontResult) :
    formContext (s.setLink z) r p k f = formContext s r p k f := rfl
@[simp] theorem countsAfter_setLink (f : AxisFrame) : (s.setLink z).countsAfter f = s.countsAfter f := rfl

@[simp] theorem enterHold_setLink (r : HoldReason) :
    enterHold r (s.setLink z) = (enterHold r s).setLink z := by
  unfold enterHold; simp

@[simp] theorem enterState_setLink (st : SeqState) :
    enterState st (s.setLink z) = (enterState st s).setLink z := by
  unfold enterState; simp

@[simp] theorem State.raiseFlags_setLink (m : BitVec 16) :
    (s.setLink z).raiseFlags m = (s.raiseFlags m).setLink z := by
  unfold State.raiseFlags; simp

@[simp] theorem noteResults_setLink :
    noteResults (s.setLink z) = (noteResults s).setLink z := by
  unfold noteResults
  by_cases h : s.params.resultsThreshold ≤ s.results.length <;> simp [h]

@[simp] theorem noteLimited_setLink (m : BitVec 16) :
    noteLimited m (s.setLink z) = (noteLimited m s).setLink z := by
  unfold noteLimited; simp
  repeat' split
  all_goals rfl

@[simp] theorem recordSleeper_setLink (o : SleeperOutcome) :
    recordSleeper o (s.setLink z) = (recordSleeper o s).setLink z := by
  unfold recordSleeper; simp
  repeat' split
  all_goals rfl

@[simp] theorem State.reportParked_setLink (i : Fin 4) :
    State.reportParked i (s.setLink z) = (State.reportParked i s).setLink z := by
  unfold State.reportParked; simp

@[simp] theorem State.stepHead_setLink (f : HeadEnv → HeadRecord → HeadStep) (i : Fin 4) :
    (s.setLink z).stepHead f i = (s.stepHead f i).setLink z := by
  unfold State.stepHead; simp
  repeat' split
  all_goals rfl

@[simp] theorem State.stepHeads_setLink (f : HeadEnv → HeadRecord → HeadStep) :
    (s.setLink z).stepHeads f = (s.stepHeads f).setLink z := by
  unfold State.stepHeads; simp

@[simp] theorem State.headsGoOut_setLink :
    (s.setLink z).headsGoOut = (s.headsGoOut).setLink z := by
  unfold State.headsGoOut; simp

@[simp] theorem State.headsTakeUp_setLink :
    (s.setLink z).headsTakeUp = (s.headsTakeUp).setLink z := by
  unfold State.headsTakeUp; simp

@[simp] theorem State.headsPrepare_setLink :
    (s.setLink z).headsPrepare = (s.headsPrepare).setLink z := by
  unfold State.headsPrepare; simp

@[simp] theorem State.headsTampStart_setLink :
    (s.setLink z).headsTampStart = (s.headsTampStart).setLink z := by
  unfold State.headsTampStart; simp

@[simp] theorem endMeasuring_setLink :
    endMeasuring (s.setLink z) = (endMeasuring s).setLink z := by
  unfold endMeasuring; simp

@[simp] theorem endLive_setLink :
    endLive (s.setLink z) = (endLive s).setLink z := by
  unfold endLive; simp
  repeat' split
  all_goals rfl

@[simp] theorem enterEnded_setLink :
    enterEnded (s.setLink z) = (enterEnded s).setLink z := by
  unfold enterEnded; simp

@[simp] theorem advanceRun_setLink :
    advanceRun (s.setLink z) = (advanceRun s).setLink z := by
  unfold advanceRun; simp
  repeat' split
  all_goals rfl

@[simp] theorem continueRun_setLink :
    continueRun (s.setLink z) = (continueRun s).setLink z := by
  unfold continueRun; simp
  repeat' split
  all_goals rfl

@[simp] theorem afterRecording_setLink :
    afterRecording (s.setLink z) = (afterRecording s).setLink z := by
  unfold afterRecording; simp

@[simp] theorem openWindow_setLink (k : WindowKind) :
    openWindow k (s.setLink z) = (openWindow k s).setLink z := by
  unfold openWindow; simp
  repeat' split
  all_goals rfl

@[simp] theorem reportClamped_setLink :
    reportClamped (s.setLink z) = (reportClamped s).setLink z := by
  unfold reportClamped; simp
  repeat' split
  all_goals rfl

@[simp] theorem clampUnit_setLink :
    clampUnit (s.setLink z) = (clampUnit s).setLink z := by
  unfold clampUnit; simp
  repeat' split
  all_goals simp_all

@[simp] theorem reportOpen_setLink :
    reportOpen (s.setLink z) = (reportOpen s).setLink z := by
  unfold reportOpen; simp
  repeat' split
  all_goals rfl

@[simp] theorem releaseUnit_setLink :
    releaseUnit (s.setLink z) = (releaseUnit s).setLink z := by
  unfold releaseUnit; simp
  repeat' split
  all_goals rfl

@[simp] theorem clampOrder_setLink (c : Context) :
    clampOrder c (s.setLink z) = (clampOrder c s).setLink z := by
  unfold clampOrder; simp
  repeat' split
  all_goals rfl

@[simp] theorem abortUnit_setLink :
    abortUnit (s.setLink z) = (abortUnit s).setLink z := by
  unfold abortUnit; simp

@[simp] theorem enterMeasuring_setLink (c : Context) :
    enterMeasuring c (s.setLink z) = (enterMeasuring c s).setLink z := by
  unfold enterMeasuring; simp

@[simp] theorem takeContext_setLink (r : SleeperRecord) (p : Pos) :
    takeContext r p (s.setLink z) = (takeContext r p s).setLink z := by
  unfold takeContext; simp

@[simp] theorem workContext_setLink :
    workContext (s.setLink z) = (workContext s).setLink z := by
  unfold workContext; simp
  repeat' split
  all_goals rfl

@[simp] theorem admit_setLink :
    admitSleeper (s.setLink z) = (admitSleeper s).setLink z := by
  unfold admitSleeper; simp
  repeat' split
  all_goals rfl

@[simp] theorem releaseAfterHeads_setLink :
    releaseAfterHeads (s.setLink z) = (releaseAfterHeads s).setLink z := by
  unfold releaseAfterHeads; simp
  repeat' split
  all_goals rfl

@[simp] theorem beginTamping_setLink :
    beginTamping (s.setLink z) = (beginTamping s).setLink z := by
  unfold beginTamping; simp
  repeat' split
  all_goals rfl

@[simp] theorem endTamping_setLink :
    endTamping (s.setLink z) = (endTamping s).setLink z := by
  unfold endTamping; simp
  repeat' split
  all_goals rfl

@[simp] theorem releaseFrozen_setLink :
    releaseFrozen (s.setLink z) = (releaseFrozen s).setLink z := by
  unfold releaseFrozen; simp
  repeat' split
  all_goals rfl

@[simp] theorem startIndexMove_setLink :
    startIndexMove (s.setLink z) = (startIndexMove s).setLink z := by
  unfold startIndexMove
  simp only [State.setLink_plan]
  cases s.plan.workheadRecord with
  | none => rfl
  | some r =>
    by_cases h : s.seq.state = .indexing ∧ s.chainage.move.demandActive = false
      ∧ s.lining.state = .isOpen ∧ s.allParked = true <;> simp [h]

@[simp] theorem cancelUnparked_setLink :
    cancelUnparked (s.setLink z) = (cancelUnparked s).setLink z := by
  unfold cancelUnparked
  by_cases h : s.chainage.move.demandActive = true ∧ s.allParked = false <;> simp [h]

@[simp] theorem settle_setLink :
    settle (s.setLink z) = (settle s).setLink z := by
  unfold settle; simp

@[simp] theorem enterFaultStop_setLink :
    enterFaultStop (s.setLink z) = (enterFaultStop s).setLink z := by
  unfold enterFaultStop; simp

@[simp] theorem raiseStop_setLink (c : StopCause) :
    raiseStop c (s.setLink z) = (raiseStop c s).setLink z := by
  unfold raiseStop; simp
  repeat' split
  all_goals simp_all

@[simp] theorem beginRun_setLink (p : Pos) :
    beginRun p (s.setLink z) = (beginRun p s).setLink z := by
  unfold beginRun; simp

@[simp] theorem readmit_setLink :
    readmit (s.setLink z) = (readmit s).setLink z := by
  unfold readmit; simp
  repeat' split
  all_goals simp_all

@[simp] theorem retryRelease_setLink :
    retryRelease (s.setLink z) = (retryRelease s).setLink z := by
  unfold retryRelease; simp

@[simp] theorem resumeAdvance_setLink :
    resumeAdvance (s.setLink z) = (resumeAdvance s).setLink z := by
  unfold resumeAdvance; simp

@[simp] theorem takeAction_setLink (a : Option ResumeAction) :
    takeAction a (s.setLink z) = (takeAction a s).setLink z := by
  unfold takeAction; simp
  repeat' split
  all_goals rfl

@[simp] theorem abortFlight_setLink :
    abortFlight (s.setLink z) = (abortFlight s).setLink z := by
  unfold abortFlight; simp

@[simp] theorem endRunNow_setLink :
    endRunNow (s.setLink z) = (endRunNow s).setLink z := by
  unfold endRunNow; simp

@[simp] theorem retryCrossing_setLink (w : Pos) :
    retryCrossing w (s.setLink z) = (retryCrossing w s).setLink z := by
  unfold retryCrossing; simp
  repeat' split
  all_goals rfl

@[simp] theorem activity_setLink : activity (s.setLink z) = (activity s).setLink z := by
  unfold activity
  cases h : s.attention.state <;> simp [h] <;> rfl

end Sys2Proof.Machine
end

