-- ==== Sys2Proof/Laws/Link.lean ====
section
/-! SUPPORT. What the execution of a request does: its owner's change, the reply, the activity, the reports. -/

namespace Sys2Proof.Machine

/-- The state in which a request commanded on a ready link is executed: it stands alone in the queue. -/
def State.queued (s : State) (r : Request) : State := s.setLink { s.link with requests := [r] }

/-- A request commanded on a ready link is executed at once. -/
theorem request_ready {s : State} (h : s.linkReady) (r : Request) :
    request r s = execute r (s.queued r) := by
  obtain ⟨h1, h2, h3, h4⟩ := h
  simp [request, acceptRequest, executeOldest, State.queued, h1, h2, h3, h4, requestPlaces]

/-- The link after a request other than RESTART, commanded on a ready link. -/
theorem answer_queued {s : State} (h : s.linkReady) (r : Request) (y : Reply) :
    (s.queued r).link.answer (replyFrame r y)
      = { s.link with tx := s.link.tx ++ [replyFrame r y] } := by
  obtain ⟨-, -, h3, -⟩ := h
  simp [Link.answer, State.queued, h3]

/-- A request on a ready link: when its owner turns the queued state into `g` (with the request still
queued) and answers `y`, the outcome is `g` with the reply, the attention timer and the activity, and the
reports of the event. -/
theorem request_moved {s g : State} {r : Request} {y : Reply} (h : s.linkReady) (hr : r.call ≠ .restart)
    (hrun : runCall r.call (s.queued r) = (g.queued r, y)) (hlink : g.link = s.link) :
    request r s = report s (s.moved r y g) := by
  have hq : (g.queued r).link = (s.queued r).link := by simp [State.queued, hlink]
  have ha : ((g.queued r).modLink fun l => l.afterRequest r y) = g.replied r y := by
    rw [State.modLink_eq, State.replied, State.modLink_eq, hq]
    simp only [Link.afterRequest, hr, if_false, answer_queued h, hlink]
    rfl
  rw [request_ready h]
  simp only [execute, hrun, ha]
  rfl

/-- The same for a request that leaves the class of the sequencer's state, the latches and REPORT_ENABLE as
they are: nothing follows but the reply and the activity. -/
theorem request_answered {s g : State} {r : Request} {y : Reply} (h : s.linkReady)
    (hr : r.call ≠ .restart) (hrun : runCall r.call (s.queued r) = (g.queued r, y))
    (hlink : g.link = s.link) (hseq : g.seq.state.attentive = s.seq.state.attentive)
    (hlat : g.latches = s.latches) (hen : g.params.reportEnable = s.params.reportEnable) :
    request r s = g.answered r y := by
  have hm : s.moved r y g = g.answered r y := by
    rw [State.moved, followAttention_same (by simpa [State.replied] using hseq)]; rfl
  rw [request_moved h hr hrun hlink, hm, report_eq_of_not_due]
  apply dueReports_eq_zero
  · rw [State.answered, requestActivity_eq]; simpa [State.replied] using hlat
  · rw [State.answered, requestActivity_eq]; simpa [State.replied] using hen

/-- A request on a ready link, up to the reports of its event. -/
theorem request_reportOf {s g : State} {r : Request} {y : Reply} (h : s.linkReady)
    (hr : r.call ≠ .restart) (hrun : runCall r.call (s.queued r) = (g.queued r, y))
    (hlink : g.link = s.link) : (request r s).reportOf (s.moved r y g) := by
  rw [request_moved h hr hrun hlink]; exact report_reportOf ..

/-- The two bytes of a word, read back. -/
theorem word2_bytes2 (v : BitVec 16) : ∃ h l, bytes2 v = [h, l] ∧ word2 h l = v := by
  refine ⟨_, _, rfl, ?_⟩
  apply BitVec.eq_of_getLsbD_eq
  intro i hi
  simp only [word2, BitVec.getLsbD_append]
  split
  · simp_all
  · simp only [pow_one, BitVec.getLsbD_ofNat]
    rw [show (256 : Nat) = 2 ^ 8 from rfl, Nat.testBit_div_two_pow, show i - 8 + 8 = i by omega]
    simp [BitVec.getLsbD]; omega

end Sys2Proof.Machine
end

