-- ==== Sys2Proof/Laws/Cycle.lean ====
section
/-! SUPPORT. Lemmas about the end of an event of the run, about heads and about requests that move the run. -/

namespace Sys2Proof.Machine

/-! ## Families of four -/

@[simp] theorem Quad.get_set_self {α : Type} (q : Quad α) (i : Fin 4) (x : α) : (q.set i x).get i = x := by
  match i with | 0 => rfl | 1 => rfl | 2 => rfl | 3 => rfl

theorem Quad.get_set_of_ne {α : Type} (q : Quad α) {i j : Fin 4} (x : α) (h : j ≠ i) :
    (q.set i x).get j = q.get j := by
  fin_cases i <;> fin_cases j <;> first | rfl | exact absurd rfl h

@[simp] theorem Quad.get_map {α β : Type} (f : α → β) (q : Quad α) (i : Fin 4) :
    (q.map f).get i = f (q.get i) := by
  match i with | 0 => rfl | 1 => rfl | 2 => rfl | 3 => rfl

@[simp] theorem Quad.get_ofFn {α : Type} (f : Fin 4 → α) (i : Fin 4) : (Quad.ofFn f).get i = f i := by
  match i with | 0 => rfl | 1 => rfl | 2 => rfl | 3 => rfl

@[simp] theorem Quad.get_all4 {α : Type} (x : α) (i : Fin 4) : (Quad.all4 x).get i = x := by
  match i with | 0 => rfl | 1 => rfl | 2 => rfl | 3 => rfl

theorem Quad.ext_get {α : Type} {p q : Quad α} (h : ∀ i, p.get i = q.get i) : p = q := by
  cases p; cases q
  have h0 := h 0; have h1 := h 1; have h2 := h 2; have h3 := h 3
  simp_all [Quad.get]

theorem forall_fin4 {P : Fin 4 → Prop} : (∀ i, P i) ↔ P 0 ∧ P 1 ∧ P 2 ∧ P 3 :=
  ⟨fun h => ⟨h 0, h 1, h 2, h 3⟩, fun ⟨a, b, c, d⟩ i => by
    match i with | 0 => exact a | 1 => exact b | 2 => exact c | 3 => exact d⟩

theorem Quad.allTrue_iff (q : Quad Bool) : q.allTrue = true ↔ ∀ i, q.get i = true := by
  rw [forall_fin4]; simp [Quad.allTrue, Quad.get, and_assoc]

theorem Quad.anyTrue_false_iff (q : Quad Bool) : q.anyTrue = false ↔ ∀ i, q.get i = false := by
  rw [forall_fin4]; simp [Quad.anyTrue, Quad.get, and_assoc]

theorem State.allParked_iff (s : State) :
    s.allParked = true ↔ ∀ i : Fin 4, (s.heads.get i).state = .parked := by
  simp [State.allParked, Quad.allTrue_iff]

/-! ## Heads that take an event -/

/-- A head's record after an event of its own. -/
theorem State.stepHead_get (s : State) (f : HeadEnv → HeadRecord → HeadStep) (i j : Fin 4) :
    (s.stepHead f i).heads.get j
      = if j = i then (f (s.headEnv i) (s.heads.get i)).1 else s.heads.get j := by
  unfold State.stepHead State.reportParked
  by_cases h : j = i
  · subst h; split <;> simp_all
  · split <;> simp [h, Quad.get_set_of_ne _ _ h]

/-- What one head does is not seen by another. -/
@[simp] theorem State.stepHead_headEnv (s : State) (f : HeadEnv → HeadRecord → HeadStep) (i j : Fin 4) :
    (s.stepHead f i).headEnv j = s.headEnv j := by
  unfold State.stepHead State.reportParked; split <;> rfl

/-- Every head's record after an event that all four take. -/
theorem State.stepHeads_get (s : State) (f : HeadEnv → HeadRecord → HeadStep) (i : Fin 4) :
    (s.stepHeads f).heads.get i = (f (s.headEnv i) (s.heads.get i)).1 := by
  unfold State.stepHeads
  match i with
  | 0 => simp [State.stepHead_get]
  | 1 => simp [State.stepHead_get]
  | 2 => simp [State.stepHead_get]
  | 3 => simp [State.stepHead_get]

@[simp] theorem State.headsGoOut_get (s : State) (i : Fin 4) :
    s.headsGoOut.heads.get i = ((s.heads.get i).goOut (s.headEnv i)).1 := s.stepHeads_get _ i

/-- An event of the heads changes of the unit's record only which heads are awaited. -/
theorem State.stepHead_lining (s : State) (f : HeadEnv → HeadRecord → HeadStep) (i : Fin 4) :
    ∃ a, (s.stepHead f i).lining = { s.lining with awaited := a } := by
  unfold State.stepHead State.reportParked
  split
  · exact ⟨_, rfl⟩
  · exact ⟨s.lining.awaited, rfl⟩

theorem State.stepHeads_lining (s : State) (f : HeadEnv → HeadRecord → HeadStep) :
    ∃ a, (s.stepHeads f).lining = { s.lining with awaited := a } := by
  obtain ⟨a, ha⟩ := s.stepHead_lining f 0
  obtain ⟨b, hb⟩ := (s.stepHead f 0).stepHead_lining f 1
  obtain ⟨c, hc⟩ := ((s.stepHead f 0).stepHead f 1).stepHead_lining f 2
  obtain ⟨d, hd⟩ := (((s.stepHead f 0).stepHead f 1).stepHead f 2).stepHead_lining f 3
  exact ⟨d, by rw [State.stepHeads, hd, hc, hb, ha]⟩

/-! ## The end of an event -/

theorem beginTamping_same {s : State} (h : s.seq.state ≠ .correcting) : beginTamping s = s := by
  unfold beginTamping; split <;> simp [h]

theorem endTamping_same {s : State} (h : s.seq.state ≠ .tamping) : endTamping s = s := by
  unfold endTamping; split <;> simp [h]

theorem releaseAfterHeads_same {s : State} (h : s.lining.releaseAfterHeads = false) :
    releaseAfterHeads s = s := by
  unfold releaseAfterHeads; simp [h]

theorem releaseFrozen_same {s : State} (h : s.seq.state ≠ .indexing) : releaseFrozen s = s := by
  unfold releaseFrozen; simp [h]

theorem startIndexMove_same {s : State} (h : s.seq.state ≠ .indexing) : startIndexMove s = s := by
  unfold startIndexMove; split <;> simp [h]

/-- Outside the states that wait for the machine only a release after heads can come due. -/
theorem settle_of_state {s : State} (h1 : s.seq.state ≠ .correcting) (h2 : s.seq.state ≠ .tamping)
    (h4 : (releaseAfterHeads s).seq.state ≠ .indexing) :
    settle s = releaseAfterHeads s := by
  rw [settle, beginTamping_same h1, endTamping_same h2, releaseFrozen_same h4, startIndexMove_same h4]

/-! ## The order of a release (08 R149) -/

/-- A release with no clamp pending, outside RELEASING, changes the unit and ends live delivery. -/
theorem releaseUnit_of_state {s : State} (h : s.seq.state ≠ .releasing) (hp : s.lining.clampPending = false) :
    releaseUnit s = endLive (s.setLining (s.lining.release s.inputs s.trackSensed)) := by
  have hl : (endLive (s.setLining (s.lining.release s.inputs s.trackSensed))).lining
      = s.lining.release s.inputs s.trackSensed := by simp
  have hs : (endLive (s.setLining (s.lining.release s.inputs s.trackSensed))).seq = s.seq := by simp
  have hq : (s.lining.release s.inputs s.trackSensed).clampPending = false := by
    simpa [LiningUnit.release, LiningUnit.haltAll]
  unfold releaseUnit reportOpen
  simp [hq, h]

/-- In a state that waits for nothing of the machine (IDLE, MEASURING, HOLD, PAUSED, FAULT_STOP, ENDED) and with
no clamp pending, the end of an event can at most release the unit. -/
theorem settle_resting {s : State} (h1 : s.seq.state ≠ .correcting) (h2 : s.seq.state ≠ .tamping)
    (h3 : s.seq.state ≠ .indexing) (h4 : s.seq.state ≠ .releasing) (hp : s.lining.clampPending = false) :
    settle s = s ∨ settle s = endLive (s.setLining (s.lining.release s.inputs s.trackSensed)) := by
  have hr : releaseAfterHeads s = s
      ∨ releaseAfterHeads s = endLive (s.setLining (s.lining.release s.inputs s.trackSensed)) := by
    unfold releaseAfterHeads
    split
    · exact .inr (releaseUnit_of_state h4 hp)
    · exact .inl rfl
  rw [settle_of_state h1 h2 (by rcases hr with hr | hr <;> rw [hr] <;> simpa)]
  exact hr

/-- What the end of such an event leaves as it is. -/
theorem settle_resting_keeps {s : State} (h1 : s.seq.state ≠ .correcting) (h2 : s.seq.state ≠ .tamping)
    (h3 : s.seq.state ≠ .indexing) (h4 : s.seq.state ≠ .releasing) (hp : s.lining.clampPending = false) :
    (settle s).plan = s.plan ∧ (settle s).chainage = s.chainage ∧ (settle s).seq = s.seq
      ∧ (settle s).heads = s.heads ∧ (settle s).latches = s.latches
      ∧ (settle s).lining.clampPending = false
      ∧ (s.measuring = .noWindow → (settle s).measuring = .noWindow) := by
  rcases settle_resting h1 h2 h3 h4 hp with h | h <;> rw [h]
  · simp [hp]
  · simp only [endLive_keeps, State.setLining_plan, State.setLining_chainage, State.setLining_seq,
      State.setLining_heads, State.setLining_latches, State.setLining_lining, true_and]
    refine ⟨by simpa [LiningUnit.release, LiningUnit.haltAll] using hp, fun h => ?_⟩
    simp [endLive, h]

/-! ## The recording of a sleeper (06 R106) -/

/-- What a recording leaves in the blocks it writes. -/
theorem recordSleeper_of_context {s : State} {c : Context} (h : s.seq.context = some c) (o : SleeperOutcome) :
    (recordSleeper o s).seq = s.seq.recorded c
      ∧ (recordSleeper o s).results = s.results ++ [formResult c s.heads o]
      ∧ (recordSleeper o s).computer = s.computer.commit o c.correction := by
  simp [recordSleeper, h]

theorem recordSleeper_none {s : State} (h : s.seq.context = none) (o : SleeperOutcome) :
    recordSleeper o s = s := by
  simp [recordSleeper, h]

@[simp] theorem noteResults_counters (s : State) : (noteResults s).counters = s.counters := by simp

/-- The counters after a recording (06 R106 step 3). -/
theorem recordSleeper_counters {s : State} {c : Context} (h : s.seq.context = some c) (o : SleeperOutcome) :
    (recordSleeper o s).counters
      = (if c.flags &&& limitedFlags = 0 then s.counters
         else s.counters.bump .correctionsLimited).bump o.counter := by
  simp only [recordSleeper, h, State.setSeq_counters, State.bump_eq, State.setCounters_counters]
  congr 1
  unfold noteLimited
  split <;> simp

/-! ## Requests that move the run -/

/-- An operation that does not touch the link commutes with the request that waits. -/
theorem queued_comm {f : State → State} (hf : ∀ s z, f (s.setLink z) = (f s).setLink z)
    (hl : ∀ s, (f s).link = s.link) (s : State) (r : Request) : f (s.queued r) = (f s).queued r := by
  simp only [State.queued, hf, hl]

/-! The operations that requests call, on a state in which the request waits. -/

theorem settle_queued (s : State) (r : Request) :
    settle (s.queued r) = (settle s).queued r :=
  queued_comm (f := settle) (by simp) (by simp) s r

theorem admit_queued (s : State) (r : Request) :
    admitSleeper (s.queued r) = (admitSleeper s).queued r :=
  queued_comm (f := admitSleeper) (by simp) (by simp) s r

theorem activity_queued (s : State) (r : Request) :
    activity (s.queued r) = (activity s).queued r :=
  queued_comm (f := activity) (by simp) (by simp) s r

theorem readmit_queued (s : State) (r : Request) :
    readmit (s.queued r) = (readmit s).queued r :=
  queued_comm (f := readmit) (by simp) (by simp) s r

theorem resumeAdvance_queued (s : State) (r : Request) :
    resumeAdvance (s.queued r) = (resumeAdvance s).queued r :=
  queued_comm (f := resumeAdvance) (by simp) (by simp) s r

theorem retryRelease_queued (s : State) (r : Request) :
    retryRelease (s.queued r) = (retryRelease s).queued r :=
  queued_comm (f := retryRelease) (by simp) (by simp) s r

theorem afterRecording_queued (s : State) (r : Request) :
    afterRecording (s.queued r) = (afterRecording s).queued r :=
  queued_comm (f := afterRecording) (by simp) (by simp) s r

theorem abortFlight_queued (s : State) (r : Request) :
    abortFlight (s.queued r) = (abortFlight s).queued r :=
  queued_comm (f := abortFlight) (by simp) (by simp) s r

theorem endRunNow_queued (s : State) (r : Request) :
    endRunNow (s.queued r) = (endRunNow s).queued r :=
  queued_comm (f := endRunNow) (by simp) (by simp) s r

theorem recordSleeper_queued (s : State) (r : Request) (o : SleeperOutcome) :
    recordSleeper o (s.queued r) = (recordSleeper o s).queued r :=
  queued_comm (f := recordSleeper o) (by simp) (by simp) s r

theorem enterMeasuring_queued (s : State) (r : Request) (c : Context) :
    enterMeasuring c (s.queued r) = (enterMeasuring c s).queued r :=
  queued_comm (f := enterMeasuring c) (by simp) (by simp) s r

theorem beginRun_queued (s : State) (r : Request) (p : Pos) :
    beginRun p (s.queued r) = (beginRun p s).queued r :=
  queued_comm (f := beginRun p) (by simp) (by simp) s r

theorem enterHold_queued (s : State) (r : Request) (h : HoldReason) :
    enterHold h (s.queued r) = (enterHold h s).queued r :=
  queued_comm (f := enterHold h) (by simp) (by simp) s r

theorem retryCrossing_queued (s : State) (r : Request) (w : Pos) :
    retryCrossing w (s.queued r) = (retryCrossing w s).queued r :=
  queued_comm (f := retryCrossing w) (by simp) (by simp) s r

/-- A request on a ready link whose owner leaves the run to the end of the event. -/
theorem request_settled {s g : State} {r : Request} {y : Reply} (h : s.linkReady) (hr : r.call ≠ .restart)
    (hrun : runCall r.call (s.queued r) = (settle (g.queued r), y)) (hl : g.link = s.link) :
    (request r s).reportOf (s.moved r y (settle g)) := by
  apply request_reportOf h hr _ (by simp [hl])
  rw [hrun, settle_queued]

@[simp] theorem queued_keeps (s : State) (r : Request) :
    (s.queued r).pending = s.pending ∧ (s.queued r).resetLow = s.resetLow ∧ (s.queued r).inputs = s.inputs
      ∧ (s.queued r).awaitFrame = s.awaitFrame ∧ (s.queued r).params = s.params
      ∧ (s.queued r).plan = s.plan ∧ (s.queued r).rules = s.rules
      ∧ (s.queued r).manualMask = s.manualMask ∧ (s.queued r).chainage = s.chainage
      ∧ (s.queued r).measuring = s.measuring ∧ (s.queued r).computer = s.computer
      ∧ (s.queued r).seq = s.seq ∧ (s.queued r).heads = s.heads ∧ (s.queued r).lining = s.lining
      ∧ (s.queued r).supervisor = s.supervisor ∧ (s.queued r).stop = s.stop
      ∧ (s.queued r).attention = s.attention ∧ (s.queued r).results = s.results
      ∧ (s.queued r).latches = s.latches ∧ (s.queued r).counters = s.counters :=
  ⟨rfl, rfl, rfl, rfl, rfl, rfl, rfl, rfl, rfl, rfl, rfl, rfl, rfl, rfl, rfl, rfl, rfl, rfl, rfl, rfl⟩

/-- What a request that moved the run leaves, block by block: what its owner left, but for the link, the
attention timer and REPORTS_SUPPRESSED. -/
theorem State.moved_keeps {t s g : State} {r : Request} {y : Reply} (h : t.reportOf (s.moved r y g)) :
    t.pending = g.pending ∧ t.resetLow = g.resetLow ∧ t.inputs = g.inputs ∧ t.awaitFrame = g.awaitFrame
      ∧ t.params = g.params ∧ t.plan = g.plan ∧ t.rules = g.rules ∧ t.manualMask = g.manualMask
      ∧ t.chainage = g.chainage ∧ t.measuring = g.measuring ∧ t.computer = g.computer ∧ t.seq = g.seq
      ∧ t.heads = g.heads ∧ t.lining = g.lining ∧ t.supervisor = g.supervisor ∧ t.stop = g.stop
      ∧ t.results = g.results ∧ t.latches = g.latches
      ∧ (∀ k : Counter, k ≠ .reportsSuppressed → t.counters.get k = g.counters.get k)
      ∧ t.link.rx = g.link.rx ∧ t.link.requests = g.link.requests ∧ t.link.restart = g.link.restart := by
  have k := State.reportOf_keeps h
  obtain ⟨-, h2, h3, h4, -, h6⟩ := h
  simp only [State.moved, requestActivity_keeps, followAttention_keeps, State.replied, State.modLink_eq,
    State.setLink_pending, State.setLink_resetLow, State.setLink_inputs, State.setLink_awaitFrame,
    State.setLink_params, State.setLink_plan, State.setLink_rules, State.setLink_manualMask,
    State.setLink_chainage, State.setLink_measuring, State.setLink_computer, State.setLink_seq,
    State.setLink_heads, State.setLink_lining, State.setLink_supervisor, State.setLink_stop,
    State.setLink_results, State.setLink_latches, State.setLink_counters, State.setLink_link]
    at k h2 h3 h4 h6
  tauto

end Sys2Proof.Machine
end

