-- ==== Sys2Proof/Laws/Heads.lean ====
section
/-! SUPPORT. Lemmas about one head record and about the axis frame that brings it its sensed values. -/

namespace Sys2Proof.Machine

/-! ## Entries to PARKED (07 R134) -/

@[simp] theorem HeadRecord.settle_state (e : HeadEnv) (h : HeadRecord) : (h.settle e).state = .parked := by
  unfold HeadRecord.settle HeadRecord.sendSet; split <;> rfl

@[simp] theorem HeadRecord.settle_vibration (e : HeadEnv) (h : HeadRecord) : (h.settle e).vibration = false := by
  unfold HeadRecord.settle HeadRecord.sendSet; split <;> rfl

@[simp] theorem HeadRecord.settle_outcome (e : HeadEnv) (h : HeadRecord) : (h.settle e).outcome = h.outcome := by
  unfold HeadRecord.settle HeadRecord.sendSet; split <;> rfl

/-- All that an entry to PARKED can do: the head settles, and after the first axis frame takes the prepare order that
waits. -/
theorem HeadRecord.park_cases (e : HeadEnv) (h : HeadRecord) :
    h.park e = (h.settle e, true)
      ∨ ∃ o, h.preparePending = true ∧ e.order = some o ∧ e.awaits = false
          ∧ h.park e = ((h.settle e).takePrepare e o, true) := by
  unfold HeadRecord.park
  split
  · exact .inr ⟨_, ‹_›, ‹_›, ‹_›, rfl⟩
  · exact .inl rfl

/-- With no order waiting the head only settles. -/
theorem HeadRecord.park_of_no_order {e : HeadEnv} {h : HeadRecord} (hp : h.preparePending = false) :
    h.park e = (h.settle e, true) := by
  rcases h.park_cases e with hk | ⟨_, ho, -⟩
  · exact hk
  · rw [hp] at ho; cases ho

/-- Before the first axis frame after a reset the head only settles, and a prepare order waits on. -/
theorem HeadRecord.park_of_awaits {e : HeadEnv} {h : HeadRecord} (ha : e.awaits = true) :
    h.park e = (h.settle e, true) := by
  rcases h.park_cases e with hk | ⟨_, -, -, hf, -⟩
  · exact hk
  · rw [ha] at hf; cases hf

/-! ## The first axis frame after a reset (07 R137) -/

/-- All that the first axis frame can do to a head: it opens, rises in full or enters PARKED. -/
theorem HeadRecord.firstFrame_cases (e : HeadEnv) (h : HeadRecord) :
    (e.tolSqueeze < e.closing ∧ (h.firstFrame e).1.state = .opening ∧ (h.firstFrame e).2 = false)
      ∨ (e.closing ≤ e.tolSqueeze ∧ (e.raised = false ∨ e.tolHead < e.lowering)
        ∧ (h.firstFrame e).1.state = .rising .full ∧ (h.firstFrame e).2 = false)
      ∨ (e.closing ≤ e.tolSqueeze ∧ e.raised = true ∧ e.lowering ≤ e.tolHead ∧ h.firstFrame e = h.park e) := by
  unfold HeadRecord.firstFrame
  split
  · exact .inl ⟨‹_›, rfl, rfl⟩
  · split
    · exact .inr (.inl ⟨by omega, ‹_›, rfl, rfl⟩)
    · exact .inr (.inr ⟨by omega, by simp_all, by simp_all, rfl⟩)

/-! ## What an axis frame brings to every block (09 R156, 11 R184) -/

/-- The values sensed, the watch LIVE and the sampled tolerance; the rest stands. -/
theorem State.senseFrame_keeps (s : State) (f : AxisFrame) :
    (s.senseFrame f).inputs = { s.inputs with axisFrame := f }
      ∧ (s.senseFrame f).stop = { s.stop with silent := false }
      ∧ (s.senseFrame f).supervisor = { s.supervisor with traverseTol := s.params.followTolTraverse }
      ∧ (s.senseFrame f).seq = s.seq ∧ (s.senseFrame f).heads = s.heads ∧ (s.senseFrame f).lining = s.lining
      ∧ (s.senseFrame f).plan = s.plan ∧ (s.senseFrame f).chainage = s.chainage
      ∧ (s.senseFrame f).params = s.params ∧ (s.senseFrame f).awaitFrame = s.awaitFrame
      ∧ (s.senseFrame f).results = s.results ∧ (s.senseFrame f).link = s.link :=
  ⟨rfl, rfl, rfl, rfl, rfl, rfl, rfl, rfl, rfl, rfl, rfl, rfl⟩

end Sys2Proof.Machine
end

