-- ==== Sys2Proof/Laws/Plan.lean ====
section
/-! SUPPORT. Lemmas about the plan store: pages read after a page is written, and what the front computation
leaves as it is. -/

namespace Sys2Proof.Machine

/-! ## Pages -/

theorem pageOf?_of_toNat {b : Byte} {n : Fin 4} (h : b.toNat = n.val) : pageOf? b = some n := by
  unfold pageOf?; fin_cases n <;> simp_all

theorem pageOf?_none {b : Byte} (h : 3 < b.toNat) : pageOf? b = none := by
  unfold pageOf?; split <;> first | rfl | omega

@[simp] theorem PlanStore.setPage_page_self (p : PlanStore) (n : Fin 4) (x : Page) :
    (p.setPage n x).page n = x := by simp [PlanStore.setPage, PlanStore.page]

theorem PlanStore.setPage_page_of_ne (p : PlanStore) {n m : Fin 4} (x : Page) (h : m ≠ n) :
    (p.setPage n x).page m = p.page m := by
  simp [PlanStore.setPage, PlanStore.page, Quad.get_set_of_ne _ _ h]

@[simp] theorem PlanStore.setPage_workhead (p : PlanStore) (n : Fin 4) (x : Page) :
    (p.setPage n x).workhead = p.workhead := rfl

@[simp] theorem PlanStore.setPage_front (p : PlanStore) (n : Fin 4) (x : Page) :
    (p.setPage n x).front = p.front := rfl

@[simp] theorem PlanStore.setOrderFault_workhead (p : PlanStore) (n : Fin 4) (b : Bool) :
    (p.setOrderFault n b).workhead = p.workhead := rfl

@[simp] theorem PlanStore.setOrderFault_front (p : PlanStore) (n : Fin 4) (b : Bool) :
    (p.setOrderFault n b).front = p.front := rfl

theorem Page.entered_keeps (p : Page) : p.entered.records = p.records ∧ p.entered.endFlag = p.endFlag := by
  unfold Page.entered; split <;> simp

theorem Page.returned_keeps (p : Page) : p.returned.records = p.records ∧ p.returned.endFlag = p.endFlag := by
  unfold Page.returned; split <;> simp

/-! ## Stores with the same records -/

/-- Two stores hold the same records and END flags: they differ in page states, order-fault flags and pointers
only. -/
def PlanStore.sameRecords (p q : PlanStore) : Prop :=
  ∀ n, (p.page n).records = (q.page n).records ∧ (p.page n).endFlag = (q.page n).endFlag

theorem PlanStore.sameRecords_refl (p : PlanStore) : p.sameRecords p := fun _ => ⟨rfl, rfl⟩

theorem PlanStore.sameRecords.trans {p q r : PlanStore} (a : p.sameRecords q) (b : q.sameRecords r) :
    p.sameRecords r := fun n => ⟨(a n).1.trans (b n).1, (a n).2.trans (b n).2⟩

/-- Such stores read alike at every place. -/
theorem PlanStore.sameRecords.at? {p q : PlanStore} (h : p.sameRecords q) (n : Fin 4) (i : Nat) :
    (p.page n).at? i = (q.page n).at? i := by simp [Page.at?, (h n).1]

theorem PlanStore.sameRecords_setPage (p : PlanStore) (n : Fin 4) (x : Page)
    (h : x.records = (p.page n).records) (h' : x.endFlag = (p.page n).endFlag) :
    (p.setPage n x).sameRecords p := by
  intro m
  by_cases e : m = n
  · subst e; simp [h, h']
  · simp [PlanStore.setPage_page_of_ne _ _ e]

theorem PlanStore.sameRecords_orderFault (p : PlanStore) (n : Fin 4) (b : Bool) :
    (p.setOrderFault n b).sameRecords p := PlanStore.sameRecords_setPage _ _ _ rfl rfl

theorem PlanStore.setOrderFault_state (p : PlanStore) (n m : Fin 4) (b : Bool) :
    ((p.setOrderFault n b).page m).state = (p.page m).state := by
  by_cases h : m = n
  · subst h; simp [PlanStore.setOrderFault]
  · simp [PlanStore.setOrderFault, PlanStore.setPage_page_of_ne _ _ h]

/-! ## The front computation -/

@[simp] theorem PlanStore.moveFront_workhead (p : PlanStore) (x : Pos) :
    (p.moveFront x).workhead = p.workhead := by
  unfold PlanStore.moveFront; dsimp only; split
  · split <;> simp
  · simp

theorem PlanStore.moveFront_sameRecords (p : PlanStore) (x : Pos) : (p.moveFront x).sameRecords p := by
  have key : ∀ q : PlanStore, q.sameRecords p →
      PlanStore.sameRecords { q.setPage x.page (q.page x.page).entered with front := some x } p :=
    fun q hq => PlanStore.sameRecords.trans
      (show PlanStore.sameRecords _ (q.setPage x.page (q.page x.page).entered) from
        PlanStore.sameRecords_refl _)
      ((q.sameRecords_setPage x.page _ (Page.entered_keeps _).1 (Page.entered_keeps _).2).trans hq)
  unfold PlanStore.moveFront
  apply key
  split
  · split
    · exact PlanStore.sameRecords_setPage _ _ _ (Page.returned_keeps _).1 (Page.returned_keeps _).2
    · exact PlanStore.sameRecords_refl _
  · exact PlanStore.sameRecords_refl _

/-- The search changes order-fault flags only. -/
theorem searchOn_keeps : ∀ (k : Nat) (prev : Fin 4) (p : PlanStore) (found : List Searched),
    (searchOn k prev p found).1.sameRecords p ∧ (searchOn k prev p found).1.workhead = p.workhead
      ∧ (searchOn k prev p found).1.front = p.front
      ∧ ∀ n, ((searchOn k prev p found).1.page n).state = (p.page n).state := by
  intro k
  induction k with
  | zero => intro prev p found; exact ⟨p.sameRecords_refl, rfl, rfl, fun _ => rfl⟩
  | succ k ih =>
    intro prev p found
    simp only [searchOn]
    split
    · exact ⟨p.sameRecords_refl, rfl, rfl, fun _ => rfl⟩
    · split
      · split
        · have := ih (prev + 1) (p.setOrderFault (prev + 1) false)
            (found ++ searchedOf (prev + 1) (p.page (prev + 1)) 0)
          exact ⟨this.1.trans (p.sameRecords_orderFault _ _), this.2.1, this.2.2.1,
            fun n => (this.2.2.2 n).trans (p.setOrderFault_state _ _ _)⟩
        · exact ⟨p.sameRecords_orderFault _ _, rfl, rfl, fun _ => p.setOrderFault_state _ _ _⟩
      · exact ⟨p.sameRecords_refl, rfl, rfl, fun _ => rfl⟩

/-- A front computation moves neither the workhead nor a record. -/
theorem PlanStore.computeFront_keeps (p : PlanStore) (f : Int) :
    (p.computeFront f).1.sameRecords p ∧ (p.computeFront f).1.workhead = p.workhead := by
  unfold PlanStore.computeFront
  split
  · exact ⟨p.sameRecords_refl, rfl⟩
  · split
    · exact ⟨p.sameRecords_refl, rfl⟩
    · next w hw _ r hr =>
      have hs := searchOn_keeps 3 w.page p (searchedOf w.page (p.page w.page) w.index)
      dsimp only
      generalize searchOn 3 w.page p (searchedOf w.page (p.page w.page) w.index) = z at hs ⊢
      obtain ⟨q, found⟩ := z
      dsimp only at hs ⊢
      repeat' split
      all_goals first
        | exact ⟨hs.1, hs.2.1⟩
        | exact ⟨(PlanStore.moveFront_sameRecords _ _).trans hs.1,
            (PlanStore.moveFront_workhead _ _).trans hs.2.1⟩

/-- The front pointer leaves the workhead page ACTIVE. -/
theorem PlanStore.moveFront_active (p : PlanStore) (x w : Pos) (hw : p.workhead = some w)
    (ha : (p.page w.page).state = .active) : ((p.moveFront x).page w.page).state = .active := by
  have key : ∀ q : PlanStore, (q.page w.page).state = .active →
      (PlanStore.page { q.setPage x.page (q.page x.page).entered with front := some x } w.page).state
        = .active := by
    intro q hq
    show ((q.setPage x.page (q.page x.page).entered).page w.page).state = .active
    by_cases e : w.page = x.page
    · rw [e] at hq ⊢; simp [Page.entered, hq]
    · rw [PlanStore.setPage_page_of_ne _ _ e]; exact hq
  unfold PlanStore.moveFront
  apply key
  split
  · next f hf =>
    split
    · next hc =>
      rw [PlanStore.setPage_page_of_ne]
      · exact ha
      · intro e; apply hc.2; simp [hw, e]
    · exact ha
  · exact ha

theorem PlanStore.computeFront_active (p : PlanStore) (f : Int) (w : Pos) (hw : p.workhead = some w)
    (ha : (p.page w.page).state = .active) : ((p.computeFront f).1.page w.page).state = .active := by
  unfold PlanStore.computeFront
  split
  · exact ha
  · split
    · exact ha
    · next w' hw' _ r hr =>
      have hs := searchOn_keeps 3 w'.page p (searchedOf w'.page (p.page w'.page) w'.index)
      dsimp only
      generalize searchOn 3 w'.page p (searchedOf w'.page (p.page w'.page) w'.index) = z at hs ⊢
      obtain ⟨q, found⟩ := z
      dsimp only at hs ⊢
      have hq : (q.page w.page).state = .active := by rw [hs.2.2.2]; exact ha
      have hqw : q.workhead = some w := by rw [hs.2.1]; exact hw
      repeat' split
      all_goals first | exact hq | exact PlanStore.moveFront_active _ _ _ hqw hq

end Sys2Proof.Machine
end

