-- ==== Sys2Proof/Tests/Slice0.lean ====
section
/-! SUPPORT. Tests of the model by its own author: the smoke test of WellFormed, frames of the work link written
out byte by byte from 11 "Requests", the worked cases of the spec, one step per command, and for every statement
with hypotheses a state and operands that meet them. Expected values come from the spec's tables and worked
examples, or are counted by hand from its rules. -/

namespace Sys2Proof.Tests

open Sys2Proof Sys2Proof.Machine

/-! ## Small states -/

/-- A plain sleeper at a nominal chainage, with no detection expected. -/
def sleeper (chainage : Int) : SleeperRecord :=
  ⟨chainage, .plain, false, .left, 0, 0, 0, 0, false, false, false, true, some 0, some 0, none, none, none, []⟩

/-- The same sleeper as LOAD_RECORDS carries it. -/
def wireSleeper (chainage : BitVec 32) : WireRecord :=
  ⟨chainage, 0, 3, 0, 0, 0, 0, 0, 0, 0, 0, 1, some 0, some 0, none, none, none, 0, []⟩

/-- The largest record a frame carries: five optional values and four heads, 43 bytes. -/
def wireFull : WireRecord :=
  ⟨0, 0, 7, 0, 0, 0, 0, 0, 0, 0, 0, 0, some 0, some 0, some 0, some 0, some 0, 0,
    [(1, 0), (2, 0), (3, 0), (4, 0)]⟩

def page (state : PageState) (endFlag : Bool) (chainages : List Int) : Page :=
  ⟨state, endFlag, false, chainages.map fun c => some (sleeper c)⟩

def plan (state : PageState) (endFlag : Bool) (workhead : Option Pos) : PlanStore :=
  ⟨⟨page state endFlag [1000, 1600], .cleared, .cleared, .cleared⟩, workhead, none⟩

/-- A context formed at reset for the first sleeper of the plan. -/
def context : Context := formContext State.reset (sleeper 1000) ⟨0, 0⟩ .normal ⟨.bracketed, 0, 0⟩

/-- The part in a state of the sequencer, the workhead on record 0 of page 0 and every axis frame taken. -/
def inState (st : SeqState) (hold : Option HoldReason) (c : Option Context) : State :=
  { State.reset with
    awaitFrame := false
    plan := plan .active false (some ⟨0, 0⟩)
    seq := { Sequencer.atReset with
      state := st, hold := hold, context := c, reservation := if c.isSome then 1 else 0 }
    attention := ⟨if st.attentive then .running else .disarmed, 60⟩ }

def withUnit (u : UnitState) (s : State) : State :=
  s.modLining fun l => { l with state := u, clampTimer := some 2000, correctionTimer := some 8000 }

def withHead (st : HeadState) (s : State) : State :=
  s.setHead 0 { s.heads.get 0 with
    state := st, vibration := decide (st = .penetrating ∨ st = .squeezing)
    penetrationTimer := some 800, squeezeTimer := some 1000, traverseTimer := some 3000, tiltTimer := some 1000 }

def withMove (st : MoveState) (target : Int) (s : State) : State :=
  s.modMove fun m => { m with state := st, target := target, stopTolerance := 20, timer := some 60000 }

/-- The state after a command; the state itself where the command stops. -/
def after (c : Instr) (s : State) : State :=
  match exec c s with
  | .next t => t
  | .fault _ => s
  | .refused _ => s

/-- The newest frame of the transmit queue: its kind, tag, code and body. -/
def lastFrame (s : State) : Option TxFrame := s.link.tx.getLast?

/-! ## WellFormed -/

theorem test_wellFormed_refuses_long_load :
    (Instr.loadRecords 1 0 0 (List.replicate 6 wireFull)).wellFormed = false := by decide
theorem test_wellFormed_takes_five_full_records :
    (Instr.loadRecords 1 0 0 (List.replicate 5 wireFull)).wellFormed = true := by decide
theorem test_wellFormed_refuses_empty_frame : (Instr.frameReceived []).wellFormed = false := by decide
theorem test_wellFormed_refuses_long_frame :
    (Instr.frameReceived (List.replicate 248 ⟨0, true⟩)).wellFormed = false := by decide +kernel
theorem test_decodeTableWord_none : decodeTableWord 0 0 = none := by decide

/-! ## Requests and frames written out from 11 "Frame" and "Requests" -/

/-- The check value of CRC-16 with this polynomial and initial value, over the digits 1 to 9. -/
theorem test_crc16_check_value :
    crc16 [0x31, 0x32, 0x33, 0x34, 0x35, 0x36, 0x37, 0x38, 0x39] = 0x29B1 := by decide +kernel
theorem test_read_setParam : readCall 0x01 [5, 0x00, 0x00, 0x01, 0x2C] = .setParam 5 300 := by decide
theorem test_read_restart : readCall 0x03 [] = .restart := by decide
theorem test_read_closePage : readCall 0x12 [2, 48, 1] = .closePage 2 48 1 := by decide
theorem test_read_loadRecords :
    readCall 0x11 [1, 4, 1, 0x00, 0x01, 0xD8, 0x44, 3, 7, 1, 0x04, 0x00, 0xFF, 0xFE, 0x00, 0x05, 0x01, 0xC2,
        0, 1, 0, 1, 0x05, 1, 0x00, 0x1E, 0x00, 0x28, 3, 0xFE, 0xD4]
      = .loadRecords 1 4 [⟨120900, 3, 7, 1, 0x0400, 0xFFFE, 5, 450, 0, 1, 0, 1, some 30, none, some 40, none,
          none, 0, [(3, 0xFED4)]⟩] := by decide
theorem test_read_writeRule :
    readCall 0x20 [3, 1, 0, 0x00, 0x01, 0xD4, 0xC0, 0x00, 0x01, 0xDA, 0x9C, 0, 0x02, 0x20, 1, 0x01, 0x2C, 0, 20, 0,
        0, 0]
      = .writeRule 3 ⟨1, 0, 120000, 121500, 0, 0x0220, 1, 300, 0, 20, 0, 0, 0⟩ := by decide
theorem test_read_manualMask : readCall 0x28 [0xF0, 0x0F] = .setManualMask 0xF00F := by decide
theorem test_read_startRun : readCall 0x30 [2, 14] = .startRun 2 14 := by decide
theorem test_read_getCounters : readCall 0x43 [1] = .getCounters 1 := by decide
theorem test_read_bad_length : readCall 0x31 [0] = .badLength 0x31 := by decide
theorem test_read_unknown_code : readCall 0x50 [] = .unknownCode 0x50 := by decide
/-- A record that announces a head list longer than the body. -/
theorem test_read_short_record :
    readCall 0x11 [0, 0, 1, 0, 0, 0, 0, 0, 3, 0, 0, 0, 0, 0, 0, 0, 0, 0, 0, 0, 0, 0, 0, 1] = .badLength 0x11 := by
  decide
/-- START, LENGTH 4, KIND REPLY, the request's TAG and CODE, the result code. -/
theorem test_reply_bytes :
    (TxFrame.bytes ⟨.reply, 7, 0x31, [6]⟩).take 6 = [0x5A, 4, 2, 7, 0x31, 6] := by decide
theorem test_counter_block_length : Counters.zero.bytes.length = 34 := by decide
theorem test_rule_length : (ZoneRule.bytes .cleared).length = 21 := by decide
theorem test_result_length : (formResult context State.reset.heads .skipped).bytes.length = 27 := by decide

/-! ## The worked cases of the spec -/

/-- 02 "Worked example": the five rules of the table. -/
def crossingRules : List ZoneRule :=
  (((((List.replicate 32 ZoneRule.cleared).set 3
      ⟨true, .chainage 120000 121500, 0x0220, some 300, false, 20, none, false, false⟩).set 7
      ⟨true, .kind .crossing, 0x0AA0, none, true, 30, some 2, false, false⟩).set 12
      ⟨true, .kind .bearer, 0, none, false, 10, none, false, false⟩).set 20
      ⟨false, .chainage 120800 121000, 0xFFFF, some 0, true, 50, some 1, true, true⟩).set 25
      ⟨true, .chainage 120500 122000, 0, some 200, false, 40, none, false, false⟩

/-- The context fields of a sleeper of that example. -/
def crossingFields (manual : Option TineMask) (r : SleeperRecord) : Int × Int × Int × Nat × TineMask :=
  let c := formContext ((State.reset.setRules crossingRules).setManualMask manual) r ⟨0, 0⟩ .normal ⟨.held, 0, 0⟩
  (c.maxLift, c.shiftLimit, c.squeezePressure, c.insertions, c.enabled)

theorem test_context_sleeper_A :
    crossingFields none { sleeper 120900 with kind := .crossing, obstacles := 0x0400 }
      = (300, 0, 77, 2, 0xF15F) := by decide
theorem test_context_sleeper_B :
    crossingFields none { sleeper 121200 with kind := .bearer } = (300, 600, 99, 1, 0xFDDF) := by decide
theorem test_context_sleeper_C :
    crossingFields (some 0xF00F) { sleeper 121800 with kind := .bearer, obstacles := 0x1000 }
      = (200, 600, 66, 1, 0xE00F) := by decide

/-- 01 R12: the three head lists of its example. -/
theorem test_heads_one_listed : headListOf? [(3, BitVec.ofInt 16 (-300))] = none := by decide
theorem test_heads_two_listed :
    headListOf? [(2, BitVec.ofInt 16 (-700)), (3, BitVec.ofInt 16 (-400))] = none := by decide
theorem test_heads_three_listed :
    (headListOf? [(2, BitVec.ofInt 16 (-700)), (3, BitVec.ofInt 16 (-400)), (1, BitVec.ofInt 16 (-1000))]).isSome
      = true := by decide

/-- 04 "Worked example": the settled values at the close. -/
theorem test_settled_values :
    (roundDiv 3448 8, roundDiv (-336) 8, roundDiv (-196) 8, roundDiv 3340 8) = (431, -42, -25, 418) := by decide
theorem test_window_bound :
    (Window.mk .pre (channelsFor true) 8 24
        ⟨⟨8, 3448⟩, ⟨8, -336⟩, ⟨8, -196⟩, ⟨8, 3340⟩, ⟨6, 0⟩⟩).closes = true
      ∧ (Window.mk .pre (channelsFor true) 8 24
        ⟨⟨8, 3448⟩, ⟨8, -336⟩, ⟨8, -196⟩, ⟨8, 3340⟩, ⟨6, 0⟩⟩).settled
        = ⟨some 431, some (-42), some (-25), some 418, none⟩ := by decide

def chord : Chord := ⟨6000, 5000, 14000⟩

/-- The commanded lifts and shift of a case of 05, with its flags. -/
def commanded (carry : CorrectionComputer) (c : Context) (m : Channels (Option Int)) :
    Int × Int × Option Int × Int × BitVec 16 :=
  let x := computeCorrection chord carry c m
  (x.correction.lL, x.correction.lR, x.correction.lB, x.correction.s, x.flags)

theorem test_correction_case_1 :
    commanded ⟨0, 0, 0, 40, 0, 0⟩ { context with record := { sleeper 0 with vd := 525 }, eF := 120 }
        ⟨some 431, some 100, some 100, some 0, none⟩ = (0, 0, none, 58, 0) := by decide
theorem test_correction_case_2 :
    commanded ⟨0, 0, 0, 40, 0, 0⟩ { context with record := { sleeper 0 with vd := 525 }, eF := -75 }
        ⟨some 431, some 100, some 100, some 0, none⟩ = (0, 0, none, 100, 0x0100) := by decide
theorem test_correction_case_3 :
    commanded ⟨80, 95, 0, 0, 0, 0⟩ { context with record := { sleeper 0 with cd := 450 }, eFv := 30 }
        ⟨some 0, some (-42), some (-25), some 418, none⟩ = (134, 155, none, 0, 0x0100) := by decide
theorem test_correction_case_4 :
    commanded ⟨40, 10, 0, 0, 0, 0⟩ context ⟨some 0, some 80, some 70, some 50, none⟩
      = (50, 0, none, 0, 0x0020) := by decide
theorem test_correction_case_4_drives :
    let x := (computeCorrection chord ⟨40, 10, 0, 0, 0, 0⟩ context
      ⟨some 0, some 80, some 70, some 50, none⟩).correction
    (x.targets.levelL, x.targets.levelR, x.driven.liftL, x.driven.liftR) = (some 130, some 70, true, false) := by
  decide
/-- Case 5: the lifts after stage 6 are 280 and 290. -/
theorem test_correction_case_5 :
    (limitLift 200 60 310 280, limitLift 200 60 330 290) = (⟨200, 0x0140⟩, ⟨200, 0x0140⟩) := by decide
theorem test_correction_case_6 :
    commanded ⟨180, 180, 0, 150, 0, 0⟩ { context with record := { sleeper 0 with runOut := true } }
        ⟨some 10, some (-50), some (-40), some 20, none⟩ = (120, 120, none, 90, 0x0110) := by decide
theorem test_correction_case_6_third :
    commanded ⟨60, 60, 0, 30, 0, 0⟩ { context with record := { sleeper 0 with runOut := true } }
        ⟨some 10, some (-50), some (-40), some 20, none⟩ = (0, 0, none, 0, 0x0010) := by decide
theorem test_correction_case_7 :
    commanded ⟨100, 120, 40, 0, 0, 0⟩
        { context with record := { sleeper 0 with vvd := -20, refRail := .right, branch := true }, eFv := -40 }
        ⟨some 0, some (-25), some (-60), some (-35), some (-48)⟩ = (116, 151, some 100, 0, 0x0100) := by decide

/-- 07 "Worked example": head H2 of sleeper A. -/
def headOrder : HeadOrder := ⟨true, ⟨true, false, true, false⟩, -540, 2, 77, 480, 800, 1000, 3000, 1000⟩

def headEnv (lowering closing lateral : Int) (pressure : Nat) : HeadEnv :=
  ⟨lowering, closing, lateral, pressure, none, none, true, ⟨.tiltIn, .tiltOut, .tiltIn, .tiltOut⟩, 25, 15, 10, true,
    some headOrder, false⟩

def headIn (st : HeadState) (begun : Nat) (results : List SqueezeResult) : HeadRecord :=
  { HeadRecord.atPowerOn true with state := st, planned := 2, begun := begun, results := results }

theorem test_head_ready_within_tolerance :
    ((headIn .preparing 0 []).onFrame (headEnv 0 0 (-544) 0)).1.state = .ready := by decide
theorem test_head_waits_outside_tolerance :
    ((headIn .preparing 0 []).onFrame (headEnv 0 0 (-571) 0)).1.state = .preparing := by decide
theorem test_head_penetrated :
    let h := ((headIn .penetrating 1 []).onFrame (headEnv 483 0 (-540) 0)).1
    (h.state, h.depth, h.verticalSet, h.squeezeTimer) = (.squeezing, 483, 480, some 1000) := by decide
theorem test_head_squeezed :
    let h := ((headIn .squeezing 1 []).onFrame (headEnv 480 100 (-540) 78)).1
    (h.state, h.peak, h.outcome, h.results) = (.opening, 78, none, [.complete]) := by decide
theorem test_head_opened_between_insertions :
    ((headIn .opening 1 [.complete]).onFrame (headEnv 480 4 (-540) 0)).1.state = .rising .partway := by decide
theorem test_head_reenters :
    let h := ({ headIn (.rising .partway) 1 [.complete] with verticalSet := 330 }.onFrame
      (headEnv 338 0 (-540) 0)).1
    (h.state, h.begun, h.vibration) = (.penetrating, 2, true) := by decide
theorem test_head_last_squeeze_limited :
    let h := (headIn .squeezing 2 [.complete]).endSqueeze .timeLimited
    (h.state, h.outcome) = (.opening, some .timeLimited) := by decide
/-- The leads of that example: 12 mm, 7 mm and 5 mm. -/
theorem test_head_leads : (leadOf 25, leadOf 15, leadOf 10) = (12, 7, 5) := by decide

/-- 08 "Worked example": frames 1, 37 and 44 of the approach. -/
theorem test_approach_axes :
    (liftStep 5 (some 91) (some (-24)) 10 ⟨.waiting, 10⟩, liftStep 5 (some 91) (some 86) 40 ⟨.moving, 40⟩,
        liftStep 5 (some 52) (some 48) 60 ⟨.moving, 60⟩)
      = (⟨.moving, 11⟩, ⟨.stopped, 40⟩, ⟨.stopped, 60⟩) := by decide
theorem test_approach_overlift :
    (overlifted 5 (some 101) (some 91), overlifted 5 (some 102) (some 91)) = (false, true) := by decide

/-! ## One step of each command -/

def replyOf (c : Instr) (s : State) : List Byte := ((lastFrame (after c s)).map TxFrame.body).getD []

theorem test_setParam_stores :
    ((after (.setParam 1 5 300) State.reset).params.maxLift, lastFrame (after (.setParam 1 5 300) State.reset))
      = (300, some ⟨.reply, 1, 1, [0, 5, 0, 0, 1, 44]⟩) := by decide
theorem test_setParam_clamps : replyOf (.setParam 1 5 9999) State.reset = [1, 5, 0, 0, 5, 220] := by decide
theorem test_getParam : replyOf (.getParam 1 9) State.reset = [0, 9, 0, 0, 0, 5] := by decide
theorem test_restart : (after (.restart 1) State.reset).link.restart = some 1 := by decide
theorem test_openPage : ((after (.openPage 1 2) State.reset).plan.page 2).state = .loading := by decide
theorem test_loadRecords :
    replyOf (.loadRecords 1 0 3 [wireSleeper 5]) (after (.openPage 1 0) State.reset) = [0, 4] := by decide
theorem test_closePage_unwritten :
    replyOf (.closePage 1 0 2 0) (after (.loadRecords 1 0 1 [wireSleeper 5]) (after (.openPage 1 0) State.reset))
      = [5, 0] := by decide
theorem test_discardPage_active : replyOf (.discardPage 1 0) (inState .paused none none) = [7] := by decide
theorem test_readRecord :
    replyOf (.readRecord 1 0 1) (inState .idle none none)
      = [0, 0, 1, 0, 0, 6, 64, 0, 3, 0, 0, 0, 0, 0, 0, 0, 0, 0, 0, 0, 0, 1, 3, 0, 0, 0, 0, 0] := by decide
theorem test_writeRule_slot : replyOf (.writeRule 1 32 ⟨0, 0, 0, 0, 0, 0, 0, 0, 0, 0, 0, 0, 0⟩) State.reset = [5] := by
  decide
theorem test_readRule_slot : (replyOf (.readRule 1 31) State.reset).length = 23 := by decide
theorem test_clearRules :
    (after (.clearRules 1) (State.reset.setRules crossingRules)).rules = State.reset.rules := by decide
theorem test_setManualMask : (after (.setManualMask 1 0xF00F) State.reset).manualMask = some 0xF00F := by
  decide
theorem test_setChainage_range : replyOf (.setChainage 1 100000000) State.reset = [5] := by decide

/-- A page to start from, before the first axis frame after the reset, and after it. -/
def newlyReset : State := State.reset.setPlan (plan .ready true none)
def readyToRun : State := newlyReset.setAwaitFrame false

theorem test_startRun :
    ((after (.startRun 1 0 0) readyToRun).seq.state, (after (.startRun 1 0 0) readyToRun).chainage.line)
      = (.indexing, some (.move 1000)) := by decide
/-- The move starts before the first axis frame too (06 R99). -/
theorem test_startRun_before_frame :
    (after (.startRun 1 0 0) newlyReset).chainage.line = some (.move 1000) := by decide
/-- A first frame that senses a lowered head cancels it (log entry 11); the head PARKED again, a fresh move starts. -/
theorem test_first_frame_cancels_move :
    let t := after (.axisFrame ⟨⟨⟨300, 0, 0, 0⟩, .all4 0, .all4 0, .all4 0⟩, .all4 0⟩) (after (.startRun 1 0 0) newlyReset)
    (t.chainage.line, t.chainage.move.state, t.seq.state) = (some .cancel, .cancelled, .indexing) := by decide +kernel
theorem test_raised_report_cancels_move :
    let t := after (.headRaisedSensorReport 0 false) (after (.startRun 1 0 0) newlyReset)
    (t.chainage.line, (after (.headRaisedSensorReport 0 true) t).chainage.line) = (some .cancel, some (.move 1000)) := by
  decide
theorem test_pause : (after (.pause 1) (inState .tamping none (some context))).seq.pausePending = true := by
  decide
theorem test_resume_paused :
    (after (.resume 1) (inState .paused none none)).plan.workhead = some ⟨0, 1⟩ := by decide
theorem test_confirm :
    (after (.confirm 1) (inState .hold (some .confirmWait) (some context))).lining.state = .clamping := by
  decide
/-- HOLD(CONFIRM_WAIT) with the unit in a given state, as at a readmission after a stop. -/
def confirmWith (u : UnitState) : State := withUnit u (inState .hold (some .confirmWait) (some context))

/-- A unit found CLAMPED releases at once with every head PARKED and, every clamp sensed open, clamps (08 R140). -/
theorem test_confirm_clamp_pending :
    let t := (after (.confirm 1) (confirmWith .clamped)).lining
    (t.state, t.command.left, t.clampPending, t.releaseAfterHeads) = (.clamping, true, false, false) := by decide
theorem test_skipSleeper : (after (.skipSleeper 1) (inState .indexing none none)).seq.skipPending = true := by
  decide
theorem test_abortSleeper :
    let t := after (.abortSleeper 1) (inState .tamping none (some context))
    (t.seq.hold, t.results.length) = (some .aborted, 1) := by decide
theorem test_retamp :
    let s := (inState .paused none none).modSeq fun q => { q with retained := some (sleeper 1000) }
    ((after (.retamp 1) s).seq.state, (after (.retamp 1) s).seq.kind) = (.measuring, .retamp) := by decide
theorem test_stopRun :
    let t := after (.stopRun 1) (inState .measuring none (some context))
    (t.seq.state, (t.plan.page 0).state, t.results.length) = (.idle, .ready, 1) := by decide
theorem test_clearStop :
    let s := (inState .faultStop none none).setStop ⟨some .attention, 2, false⟩
    ((after (.clearStop 1) s).stop, (after (.clearStop 1) s).seq.hold)
      = (⟨none, 0, false⟩, some .stopCleared) := by decide
theorem test_readResults_range : replyOf (.readResults 1 5) State.reset = [5] := by decide
theorem test_releaseResults_few : replyOf (.releaseResults 1 2) State.reset = [1, 0] := by decide
theorem test_getStatus_length : (replyOf (.getStatus 1) State.reset).length = 46 := by decide
theorem test_getCounters_clears :
    (after (.getCounters 1 1) (State.reset.setCounters { Counters.zero with headsStruck := 3 })).counters = .zero := by
  decide
theorem test_clearEvents : replyOf (.clearEvents 1 0x0F) (State.reset.setLatches 0x3C) = [0, 0x30] := by decide
theorem test_frameReceived :
    (after (.frameReceived ((requestFrame ⟨9, .pause⟩).map fun b => ⟨b, true⟩)) State.reset).link.requests
      = [⟨9, .pause⟩] := by decide +kernel
theorem test_receivedByte_start : (after (.receivedByte ⟨0x5A, true⟩) State.reset).link.rx = .collecting [] := by
  decide

def collecting (bytes : List Byte) : State := State.reset.setLink { Link.atPowerOn with rx := .collecting bytes }

theorem test_gapLimitExpiry :
    ((after .gapLimitExpiry (collecting [5])).link.rx, (after .gapLimitExpiry (collecting [5])).counters.gapErrors)
      = (.hunt, 1) := by decide
theorem test_frameSent : (after .frameSent (after (.pause 1) State.reset)).link.tx = [] := by decide
theorem test_powerOnReset_chain_open :
    (after .powerOnReset (after (.safetyChainChange false) State.reset)).stop.first = some .safetyChain := by
  decide
theorem test_measuringFrame_invalid :
    let w := Window.fresh .pre context
    (after (.measuringFrame [] true) ((inState .measuring none (some context)).setMeasuring (.window w))).measuring
      = .window { w with frames := 1 } := by decide
theorem test_silenceLimitExpiry :
    let t := after .silenceLimitExpiry
      ((inState .measuring none (some context)).setMeasuring (.window (.fresh .pre context)))
    (t.seq.state, t.seq.degradedCount) = (.correcting, 1) := by decide

/-- An axis frame with axis 12, LIFT_L, sensed 5 mm from its setpoint: FOLLOW_TOL_TRACK is 4. -/
def liftAside : AxisFrame := ⟨⟨.all4 0, .all4 0, .all4 0, ⟨5, 0, 0, 0⟩⟩, .all4 0⟩

/-- The first axis frame after a reset: an open squeeze makes H1 OPENING, a lowered H2 rises, both unchecked. -/
theorem test_axisFrame_first :
    let t := after (.axisFrame ⟨⟨⟨0, 300, 0, 0⟩, ⟨100, 0, 0, 0⟩, .all4 0, ⟨7, 0, 0, 0⟩⟩, .all4 0⟩) State.reset
    ((t.heads.get 0).state, (t.heads.get 0).squeezeSet, (t.heads.get 1).state, (t.heads.get 1).verticalSet,
      t.lining.setpoint.liftL, t.stop.first) = (.opening, 100, .rising .full, 300, 7, none) := by decide +kernel
/-- FOLLOW_TOL_TRAVERSE acts from the next axis frame on (11 R184). -/
theorem test_traverse_tolerance_sampled :
    let t := after (.setParam 1 24 3) (inState .idle none none)
    (t.supervisor.traverseTol, (after (.axisFrame liftAside) t).supervisor.traverseTol) = (10, 3) := by
  decide +kernel
theorem test_axisFrame_counts :
    axesGet (after (.axisFrame liftAside) (inState .idle none none)).supervisor.count (.track .liftL)
      = 1 := by decide +kernel
theorem test_axisLineSilenceExpiry :
    (after .axisLineSilenceExpiry (inState .paused none none)).seq.state = .faultStop := by decide
theorem test_safetyChainChange :
    (after (.safetyChainChange false) State.reset).stop.first = some .safetyChain := by decide
theorem test_operatorInputActive :
    let s := (inState .hold (some .aborted) none).modSeq id
    (after (.operatorInputActive .pedal) (s.setAttention ⟨.lapsedOnce, 60⟩)).attention.state = .running := by
  decide
theorem test_odometerCount : (after (.odometerCount false) State.reset).chainage.running = -1 := by decide
/-- DETECTOR_LEAD is 300: at 690 the detector stands at 990, 10 mm before the sleeper at 1000. -/
theorem test_detection :
    let s := withMove .firstMove 1000 (inState .indexing none none)
    (after .detection (s.modChainage fun c => { c with running := 690 })).chainage.offset = -10 := by decide
theorem test_halted_outside :
    let t := after .halted (withMove .firstMove 1000 (inState .indexing none none))
    (t.chainage.move.state, t.chainage.line) = (.correctionMove, some (.move 1000)) := by decide
theorem test_halted_within :
    (after .halted (withMove .firstMove 15 (inState .indexing none none))).seq.state = .measuring := by decide
theorem test_indexTimerExpiry :
    (after .indexTimerExpiry (withMove .firstMove 1000 (inState .indexing none none))).seq.hold
      = some .positionFault := by decide

/-- CLAMPING with the left clamp already sensed closed. -/
def clampingState : State :=
  let s := withUnit .clamping (inState .measuring none (some context))
  s.setInputs { s.inputs with clampClosed := ⟨true, false, false⟩ }

theorem test_clampSensorReport :
    (after (.clampSensorReport .right true) clampingState).lining.state = .clamped := by decide
theorem test_clampTimerExpiry : (after .clampTimerExpiry clampingState).seq.hold = some .clampFault := by
  decide
theorem test_correctionTimerExpiry :
    let s := withUnit .approaching (inState .correcting none (some context))
    (after .correctionTimerExpiry s).lining.approach.targetNotReached = true := by decide
theorem test_tiltSensorReport_breaks_guard :
    let s := withHead .penetrating (withUnit .holding (inState .tamping none
      (some { context with enabled := 0xFFFE })))
    ((after (.tiltSensorReport 0 0 .between) s).heads.get 0).outcome = some .tiltFault := by decide
theorem test_headRaisedSensorReport :
    ((after (.headRaisedSensorReport 0 true) (withHead (.rising .full) (inState .idle none none))).heads.get 0).state
      = .parked := by decide
theorem test_traverseTimerExpiry :
    let s := withHead .preparing (inState .measuring none (some context))
    ((after (.traverseTimerExpiry 0) s).heads.get 0).outcome = some .traverseFault := by decide
theorem test_tiltTimerExpiry :
    let s := withHead .preparing (inState .measuring none (some context))
    ((after (.tiltTimerExpiry 0) s).heads.get 0).outcome = some .tiltFault := by decide
theorem test_penetrationTimerExpiry :
    let t := after (.penetrationTimerExpiry 0) (withHead .penetrating (inState .tamping none (some context)))
    ((t.heads.get 0).outcome, t.counters.headsStruck) = (some .struck, 1) := by decide
theorem test_squeezeTimerExpiry :
    let t := after (.squeezeTimerExpiry 0) (withHead .squeezing (inState .tamping none (some context)))
    ((t.heads.get 0).state, (t.heads.get 0).outcome) = (.opening, some .timeLimited) := by decide
theorem test_attentionTimerExpiry :
    let t := after .attentionTimerExpiry (inState .hold (some .aborted) none)
    (t.attention.state, t.latches) = (.lapsedOnce, 0x20) := by decide
theorem test_resetLineLow : (after .resetLineLow (after (.pause 1) State.reset)).link.tx = [] := by decide
theorem test_step_front :
    (match step (State.reset.setPending [.setManualMask 1 1, .clearRules 2]) with
      | .next t => decide (t.pending = [.clearRules 2] ∧ t.manualMask = some 1)
      | _ => false) = true := by decide
theorem test_step_waiting_request :
    (match step (State.reset.setLink { Link.atPowerOn with requests := [⟨7, .clearRules⟩] }) with
      | .next t => lastFrame t
      | _ => none) = some ⟨.reply, 7, 0x22, [0]⟩ := by decide

/-! ## The hypotheses of the statements, met

One theorem for each statement with hypotheses: a state and operands for every clause, at the ends of its range. -/

/-- Requests waiting in the request queue and frames in the transmit queue. -/
def linkWith (requests tx : Nat) : State :=
  State.reset.setLink
    { Link.atPowerOn with
      requests := List.replicate requests ⟨1, .pause⟩, tx := List.replicate tx ⟨.report, 0, 0, []⟩ }

def restarting (n : Nat) : State :=
  (linkWith 0 2).modLink fun l => { l with restart := some n }

theorem reset_linkReady : State.reset.linkReady := ⟨rfl, rfl, rfl, by decide⟩
theorem inState_linkReady (st : SeqState) (h : Option HoldReason) (c : Option Context) :
    (inState st h c).linkReady := ⟨rfl, rfl, rfl, (by decide : (0 : Nat) < transmitPlaces)⟩
theorem readyToRun_linkReady : readyToRun.linkReady := ⟨rfl, rfl, rfl, by decide⟩

theorem idle_paramLaw : (inState .idle none none).paramLaw := fun p => by cases p <;> decide

theorem idle_countLaw : (inState .idle none none).countLaw := by
  refine ⟨by decide, by decide, fun a => ?_⟩
  cases a with
  | headV h => revert h; decide
  | sqz h => revert h; decide
  | trav h => revert h; decide
  | track t => cases t <;> decide

theorem witness_StepRunsFrontCommand :
    (State.reset.setPending [.pause 1, .resume 2]).pending = .pause 1 :: [.resume 2] := by decide

theorem witness_IdleStepExecutesOldestRequest :
    ((after .resetLineLow State.reset).pending = [] ∧ (after .resetLineLow State.reset).resetLow = true)
    ∧ (State.reset.pending = [] ∧ State.reset.resetLow = false ∧ State.reset.link.requests = [])
    ∧ ((linkWith 1 7).pending = [] ∧ (linkWith 1 7).resetLow = false
      ∧ (linkWith 1 7).link.requests = ⟨1, .pause⟩ :: [] ∧ (linkWith 1 7).link.tx.length < 8)
    ∧ ((linkWith 1 8).link.requests = ⟨1, .pause⟩ :: [] ∧ 8 ≤ (linkWith 1 8).link.tx.length) := by decide

theorem witness_ExecutedRequestGetsOneReply :
    (linkWith 2 7).pending = [] ∧ (linkWith 2 7).resetLow = false
      ∧ (linkWith 2 7).link.requests = ⟨1, .pause⟩ :: [⟨1, .pause⟩] ∧ (linkWith 2 7).link.tx.length < 8
      ∧ ∀ c ∈ [Call.unknownCode 0x77, .badLength 0x31, .restart, .discardPage 4],
        let s := (linkWith 0 7).modLink fun l => { l with requests := ⟨9, c⟩ :: [⟨1, .pause⟩] }
        s.pending = [] ∧ s.resetLow = false ∧ s.link.requests = ⟨9, c⟩ :: [⟨1, .pause⟩] ∧ s.link.tx.length < 8 := by
  decide

/-- 11 R179, R181: the reply of the link's own checks is the result code alone; a plan request refused with BAD_VALUE
carries a position byte. -/
theorem test_refusal_bodies :
    [Call.unknownCode 0x77, .badLength 0x31, .discardPage 4, .setManualMask 0].map
        (fun c => (lastFrame (execute ⟨9, c⟩ (linkWith 0 0))).map TxFrame.body)
      = [some [4], some [3], some [5, 0], some [0]] := by decide

theorem witness_ReceivedFrameReachesRequestQueue :
    ((restarting 1).resetLow = false ∧ (restarting 1).link.rx = .hunt ∧ (restarting 1).link.restart.isSome = true)
    ∧ (List.replicate 240 (0 : Byte)).length ≤ 240
    ∧ ((linkWith 3 0).resetLow = false ∧ (linkWith 3 0).link.rx = .hunt ∧ (linkWith 3 0).link.restart = none
      ∧ (linkWith 3 0).link.requests.length < 4)
    ∧ ((linkWith 4 7).resetLow = false ∧ (linkWith 4 7).link.rx = .hunt ∧ (linkWith 4 7).link.restart = none
      ∧ 4 ≤ (linkWith 4 7).link.requests.length)
    ∧ (2 : Byte) ≠ 1 := by decide +kernel

theorem witness_ReadBackOfEncodedRequest :
    ((List.replicate 1 wireFull).length ≤ 255 ∧ ∀ x ∈ List.replicate 1 wireFull, x.heads.length ≤ 255)
    ∧ (∀ row ∈ requestTable, row.1 ≠ (0x45 : Byte).toNat)
    ∧ ((0x31 : Byte).toNat, some 0) ∈ requestTable ∧ ((0x20 : Byte).toNat, some 22) ∈ requestTable
    ∧ (0x11 : Byte).toNat = 0x11 ∧ afterRecords 2 (List.replicate 42 0) = some []
    ∧ afterRecords 2 (List.replicate 43 0) ≠ some [] ∧ afterRecords 2 (List.replicate 41 0) ≠ some []
    ∧ requestRow (.clearEvents 1) = some 26 ∧ requestRow (.setParam 1 0) = some 0 := by decide

theorem witness_BytesStartJoinOrSpoilFrames :
    ((State.reset.resetLow = false ∧ State.reset.link.rx = .hunt)
    ∧ (RxByte.mk 0x5A false).stopGood = false ∧ (RxByte.mk 0x5B true).byte ≠ 0x5A
    ∧ (after .resetLineLow State.reset).resetLow = true)
    ∧ ((collecting []).resetLow = false ∧ (collecting []).link.rx = .collecting [])
    ∧ ((2 : Byte).toNat < 3 ∧ 243 < (244 : Byte).toNat)
    ∧ (([3] : List Byte) ++ [1] = 3 :: [1] ∧ 3 ≤ (3 : Byte).toNat ∧ (3 : Byte).toNat ≤ 243
      ∧ ([1] : List Byte).length < (3 : Byte).toNat + 2)
    ∧ (([3, 1, 0, 0x31, 0] : List Byte) ++ [0] = ((3 : Byte) :: [1, 0, 0x31]) ++ [0, 0]
      ∧ ([1, 0, 0x31] : List Byte).length = (3 : Byte).toNat
      ∧ crc16 ((3 : Byte) :: [1, 0, 0x31]) ≠ word2 0 0) := by decide +kernel

theorem witness_FrameSentFreesItsPlace :
    (State.reset.resetLow = false ∧ State.reset.link.tx = [])
    ∧ ((linkWith 0 2).link.tx = ⟨.report, 0, 0, []⟩ :: [⟨.report, 0, 0, []⟩] ∧ (linkWith 0 2).link.restart = none)
    ∧ ((restarting 2).link.tx = ⟨.report, 0, 0, []⟩ :: [⟨.report, 0, 0, []⟩]
      ∧ (restarting 2).link.restart = some (0 + 2)) := by decide

theorem witness_RestartDiscardsRequests :
    let s := (linkWith 0 7).modLink fun l => { l with requests := ⟨9, .restart⟩ :: [⟨1, .pause⟩] }
    (s.resetLow = false ∧ s.link.restart = none ∧ s.link.tx.length < 8
      ∧ s.link.requests = ⟨9, .restart⟩ :: [⟨1, .pause⟩])
    ∧ ((linkWith 0 7).resetLow = false ∧ (linkWith 0 7).link.restart = none ∧ (linkWith 0 7).link.tx.length < 8
      ∧ (linkWith 0 7).link.requests = []) := by decide

theorem witness_WarmRestartValues :
    ∀ n : Nat, n = 0 ∨ n = 1 → (restarting n).resetLow = false
      ∧ (restarting n).link.tx = ⟨.report, 0, 0, []⟩ :: [⟨.report, 0, 0, []⟩]
      ∧ (restarting n).link.restart = some n ∧ n ≤ 1 := by
  rintro n (rfl | rfl) <;> decide

theorem witness_ParametersStoredAndRead :
    State.reset.linkReady
    ∧ ((0 : Byte).toNat = 0 ∧ 31 < (32 : Byte).toNat)
    ∧ (ParamId.ofByte? 1 = some .chordLineRear ∧ ParamId.chordLineRear.isChord = true)
    ∧ ((inState .paused none none).seq.state ≠ .idle ∧ (inState .paused none none).seq.state ≠ .ended)
    ∧ (State.reset.seq.state = .idle ∧ (inState .ended none none).seq.state = .ended)
    ∧ ((2999 : BitVec 32).toInt < ParamId.chordLineRear.least
      ∧ ParamId.chordLineRear.greatest < (10001 : BitVec 32).toInt)
    ∧ (ParamId.chordLineRear.least ≤ (3000 : BitVec 32).toInt
      ∧ (10000 : BitVec 32).toInt ≤ ParamId.chordLineRear.greatest)
    ∧ ParamId.ofByte? 4 = some .baseLift ∧ ParamId.baseLift.isChord = false
    ∧ ParamId.ofByte? 31 = some .tiltTime ∧ ParamId.tiltTime.isChord = false
    ∧ ParamId.ofByte? 29 = some .resultsThreshold ∧ ParamId.resultsThreshold.isChord = false :=
  ⟨reset_linkReady, by decide⟩

/-- A store whose page 3 stands in the given state. -/
def pageThree (st : PageState) : State :=
  State.reset.setPlan (PlanStore.cleared.setPage 3 (page st false [1000]))

theorem witness_PageOpenedOrDiscarded :
    3 < (4 : Byte).toNat ∧ (3 : Byte).toNat = (3 : Fin 4).val
    ∧ (State.reset.plan.page 3).state = .empty ∧ ((pageThree .ready).plan.page 3).state = .ready
    ∧ ((pageThree .loading).plan.page 3).state = .loading
    ∧ ((pageThree .active).plan.page 3).state = .active := by decide

theorem witness_RecordsLoadedTogetherOrNotAtAll :
    (3 < (4 : Byte).toNat ∧ 64 < (63 : Byte).toNat + [wireSleeper 7, wireSleeper 8].length
      ∧ 8 < (List.replicate 9 (wireSleeper 7)).length ∧ loadBodySize (List.replicate 9 (wireSleeper 7)) ≤ 240
      ∧ 64 < (64 : Byte).toNat + [wireSleeper 7].length)
    ∧ 240 < loadBodySize (List.replicate 6 wireFull)
    ∧ (loadBodySize (List.replicate 5 wireFull) ≤ 240 ∧ (State.reset.plan.page 3).state ≠ .loading)
    ∧ (loadBodySize (List.replicate 8 (wireSleeper 7)) ≤ 240 ∧ ((pageThree .loading).plan.page 3).state = .loading
      ∧ 1 ≤ (List.replicate 8 (wireSleeper 7)).length ∧ (List.replicate 8 (wireSleeper 7)).length ≤ 8
      ∧ (56 : Byte).toNat + (List.replicate 8 (wireSleeper 7)).length ≤ 64
      ∧ (List.replicate 8 (wireSleeper 7)).map validateRecord? = (List.replicate 8 (sleeper 7)).map some)
    ∧ ([wireSleeper 7, wireFull] = [wireSleeper 7] ++ wireFull :: []
      ∧ (∀ x ∈ [wireSleeper 7], (validateRecord? x).isSome = true) ∧ validateRecord? wireFull = none) := by decide

/-- Both sides of the equivalence at the end of a range, and one past it. -/
theorem witness_ValidatedRecordInRange :
    (validateRecord? (wireSleeper 99999999) = some (sleeper 99999999) ∧ validateRecord? (wireSleeper 100000000) = none)
    ∧ RecordStored (wireSleeper 99999999) (sleeper 99999999)
    ∧ ([(1, -700), (2, -400)] : List (Fin 4 × Int)).map Prod.fst = [1, 2] ∧ ([1, 2] : List (Fin 4)).Nodup := by
  unfold RecordStored; decide

/-- HOLD(PLAN_EXHAUSTED) on the last record of page 0, with page 1 being loaded. -/
def exhausted : State :=
  ((inState .hold (some .planExhausted) none).setPlan
    ⟨⟨page .active false [1000, 1600], page .loading false [2200, 2800], .cleared, .cleared⟩, some ⟨0, 1⟩, none⟩)

/-- Page 3 being loaded with the places of the list; `none` is a place not written. -/
def loadingPage (places : List (Option Int)) : Page := ⟨.loading, false, false, places.map (Option.map sleeper)⟩

theorem witness_ClosedPageIsReady :
    (3 < (4 : Byte).toNat ∧ (State.reset.plan.page 1).state ≠ .loading ∧ 1 < (2 : Byte).toNat
      ∧ (0 : Byte).toNat = 0 ∧ 64 < (65 : Byte).toNat)
    ∧ ((loadingPage [some 5, none]).at? 1 = none ∧ ((loadingPage [some 5, none]).at? 0).isSome = true)
    ∧ (((loadingPage [some 5, some 6, some 6]).at? 1).map SleeperRecord.chainage = some 6
      ∧ ((loadingPage [some 5, some 6, some 6]).at? 2).map SleeperRecord.chainage = some 6)
    ∧ (exhausted.plan.workhead = some ⟨0, 1⟩ ∧ (exhausted.plan.page 0).last? = some (sleeper 1600)
      ∧ (exhausted.plan.page 1).at? 0 = some (sleeper 2200)
      ∧ (sleeper 1600).chainage < (sleeper 2200).chainage)
    ∧ (1 : Byte).toNat = (1 : Fin 4).val ∧ (exhausted.plan.page 1).state = .loading
    ∧ (1 : Byte).toNat = (if true then 1 else 0) ∧ 1 ≤ (2 : Byte).toNat ∧ (2 : Byte).toNat ≤ 64
    ∧ (∀ i : Fin 2, ((exhausted.plan.page 1).at? i).isSome = true)
    ∧ (∀ x ∈ (exhausted.plan.page 1).at? 0, ∀ y ∈ (exhausted.plan.page 1).at? 1, x.chainage < y.chainage)
    ∧ (exhausted.seq.state = .hold ∧ exhausted.seq.hold = some .planExhausted ∧ (1 : Fin 4) = (⟨0, 1⟩ : Pos).page + 1)
    ∧ (2 : Fin 4) ≠ (⟨0, 1⟩ : Pos).page + 1 ∧ (0 : Fin 4) = (⟨3, 63⟩ : Pos).page + 1
    ∧ (pageThree .loading).seq.state ≠ .hold := by
  decide

theorem witness_ReadRecordReturnsRecord :
    State.reset.linkReady ∧ 3 < (4 : Byte).toNat ∧ (3 : Byte).toNat = (3 : Fin 4).val
    ∧ (State.reset.plan.page 3).state = .empty
    ∧ (((pageThree .ready).plan.page 3).state ≠ .empty ∧ ((pageThree .ready).plan.page 3).at? (1 : Byte).toNat = none)
    ∧ (((pageThree .ready).plan.page 3).at? (0 : Byte).toNat = some (sleeper 1000))
    ∧ validateRecord? (wireSleeper 1000) = some (sleeper 1000) :=
  ⟨reset_linkReady, by decide⟩

/-- Page 0 ACTIVE with last record at 1600, page 1 in the given state with its record at the given chainage. -/
def crossing (st : PageState) (c : Int) : PlanStore :=
  ⟨⟨page .active false [1000, 1600], page st false [c], .cleared, .cleared⟩, some ⟨0, 1⟩, none⟩

/-- A page of one or two sleepers in rising chainage is whole. -/
theorem page_whole (st : PageState) (e : Bool) (a b : Int) (h : a < b) :
    (page st e [a]).whole ∧ (page st e [a, b]).whole := by
  refine ⟨⟨by simp [page, Page.count], by simp [page, Page.count], fun i hi => ?_, fun i x y hx hy => ?_⟩,
    ⟨by simp [page, Page.count], by simp [page, Page.count], fun i hi => ?_, fun i x y hx hy => ?_⟩⟩
  · match i, hi with | 0, _ => rfl
  · match i with | 0 => cases hy | _ + 1 => cases hy
  · match i, hi with | 0, _ => rfl | 1, _ => rfl
  · match i with | 0 => cases hx; cases hy; exact h | 1 => cases hy | _ + 2 => cases hy

theorem witness_CrossingTakenOrRefused_front :
    let p := { crossing .ready 1601 with workhead := some ⟨0, 0⟩ }
    p.workhead = some ⟨0, 0⟩ ∧ p.at? ⟨0, 0⟩ = some (sleeper 1000) ∧ (p.page 0).state = .active
      ∧ (∀ n : Fin 4, (p.page n).workable = true → (p.page n).whole) := by
  refine ⟨by decide, by decide, by decide, fun n h => ?_⟩
  match n with
  | 0 => exact (page_whole .active false 1000 1600 (by decide)).2
  | 1 => exact (page_whole .ready false 1601 1602 (by decide)).1
  | 2 => cases h
  | 3 => cases h

/-- The front over the two pages, at the ends of the three outcomes (01 R18, R19, R22). -/
def frontOf (endFlag : Bool) (chordFront : Int) : Option Pos × FrontOutcome :=
  let p := { crossing .ready 1601 with workhead := some ⟨0, 0⟩ }
  let t := (p.setPage 1 { p.page 1 with endFlag := endFlag }).computeFront chordFront
  (t.1.front, t.2.outcome)

theorem test_front_bracketed :
    (frontOf false 599, frontOf false 600, frontOf false 601)
      = ((some ⟨0, 0⟩, .bracketed), (some ⟨0, 1⟩, .bracketed), (some ⟨1, 0⟩, .bracketed)) := by decide
theorem test_front_beyond_or_held :
    (frontOf true 602, frontOf false 602) = ((some ⟨1, 0⟩, .beyondEnd), (some ⟨0, 0⟩, .held)) := by decide

theorem witness_CrossingTakenOrRefused :
    ((crossing .ready 1601).workhead = some ⟨0, 1⟩
      ∧ ((crossing .ready 1601).page (0 : Fin 4)).last? = some (sleeper 1600)
      ∧ ((crossing .ready 1601).page (0 + 1)).at? 0 = some (sleeper 1601)
      ∧ ((crossing .ready 1601).page (0 + 1)).state = .ready ∧ (sleeper 1600).chainage < (sleeper 1601).chainage)
    ∧ (((crossing .active 1600).page (0 + 1)).at? 0 = some (sleeper 1600)
      ∧ ((crossing .active 1600).page (0 + 1)).state = .active
      ∧ (sleeper 1600).chainage ≤ (sleeper 1600).chainage)
    ∧ (((crossing .loading 1601).page (0 + 1)).at? 0 = some (sleeper 1601)
      ∧ ((crossing .loading 1601).page (0 + 1)).state = .loading) := by decide

theorem witness_RuleTableRequests :
    (31 : Byte).toNat < 32
    ∧ validateRule? ⟨1, 1, 0, 0, 3, 0x0AA0, 0, 0, 1, 30, 2, 0, 0⟩
      = some ⟨true, .kind .crossing, 0x0AA0, none, true, 30, some 2, false, false⟩
    ∧ 32 ≤ (32 : Byte).toNat ∧ validateRule? ⟨1, 2, 0, 0, 0, 0, 0, 0, 0, 0, 0, 0, 0⟩ = none
    ∧ (State.reset.setRules crossingRules).rules[(25 : Byte).toNat]?
      = some ⟨true, .chainage 120500 122000, 0, some 200, false, 40, none, false, false⟩
    ∧ RuleStored ⟨1, 0, 120500, 122000, 0, 0, 1, 200, 0, 40, 0, 0, 0⟩
      ⟨true, .chainage 120500 122000, 0, some 200, false, 40, none, false, false⟩ := by
  refine ⟨by decide, by decide, by decide, by decide, by decide, by decide, .inl (by decide), by decide,
    .inr (by decide), by decide, by decide, by decide, .inl (by decide), by decide, by decide⟩

/-- A stored rule in the bytes of 11 "Zone rule". -/
theorem test_rule_layout :
    ruleLayout ⟨true, .chainage 120000 121500, 0x0220, some 300, false, 20, none, false, false⟩
      = [1, 0, 0x00, 0x01, 0xD4, 0xC0, 0x00, 0x01, 0xDA, 0x9C, 0, 0x02, 0x20, 1, 0x01, 0x2C, 0, 20, 0, 0, 0] := by decide

theorem witness_ContextKeepsSafetyLimits :
    State.reset.manualMask = none ∧ (State.reset.setManualMask (some 1)).manualMask = some 1
    ∧ (scanRules crossingRules { sleeper 120900 with kind := .crossing }).maxLift = some 300
    ∧ (scanRules crossingRules { sleeper 120900 with kind := .crossing }).shiftInhibit = true
    ∧ (scanRules crossingRules { sleeper 120900 with kind := .crossing }).insertions = some 2
    ∧ (scanRules crossingRules (sleeper 0)).insertions = none := by decide

theorem witness_ChainageCountedAndSet :
    State.reset.resetLow = false ∧ 99999999 < (100000000 : BitVec 32).toNat
    ∧ (99999999 : BitVec 32).toNat ≤ 99999999
    ∧ (withMove .correctionMove 0 (inState .indexing none none)).chainage.move.demandActive = true
    ∧ State.reset.chainage.move.demandActive = false := by decide

/-- INDEXING toward the sleeper at 1000, at the given running chainage. -/
def indexingAt (running : Int) : State :=
  (withMove .firstMove 1000 (inState .indexing none none)).modChainage fun c => { c with running := running }

theorem witness_DetectionMatchesOrIsSpurious :
    (State.reset.resetLow = false ∧ State.reset.chainage.move.demandActive = false)
    ∧ ((indexingAt 0).resetLow = false ∧ (indexingAt 0).plan.workheadRecord = some (sleeper 1000)
      ∧ (indexingAt 0).chainage.move.demandActive = true ∧ (indexingAt 0).chainage.move.drift = none)
    ∧ (∀ d : Int, d = -40 ∨ d = 40 ∨ d = -41 ∨ d = 41 →
      (indexingAt (700 + d)).chainage.running + (indexingAt 0).params.detectorLead - (1000 + 0) = d)
    ∧ (-(indexingAt 0).params.driftTolerance ≤ -40 ∨ (-40 : Int) < -(indexingAt 0).params.driftTolerance)
    ∧ ((indexingAt 0).modMove fun m => { m with drift := some 0 }).chainage.move.drift.isSome = true := by
  refine ⟨by decide, by decide, ?_, by decide, by decide⟩
  rintro d (rfl | rfl | rfl | rfl) <;> decide

theorem witness_StopOfTheDriveJudged :
    (∀ d : Int, d = -20 ∨ d = 20 →
      (indexingAt (1000 + d)).chainage.move.demandActive = true
      ∧ -(indexingAt 0).chainage.move.stopTolerance ≤ d ∧ d ≤ (indexingAt 0).chainage.move.stopTolerance)
    ∧ ((indexingAt 979).chainage.move.state = .firstMove
      ∧ ¬ (-(indexingAt 979).chainage.move.stopTolerance
        ≤ (indexingAt 979).chainage.running - (indexingAt 979).chainage.move.target)
      ∧ (indexingAt 979).lining.state = .isOpen ∧ (indexingAt 979).lining.releaseAfterHeads = false)
    ∧ ((withMove .correctionMove 1000 (inState .indexing none none)).chainage.move.state = .correctionMove)
    ∧ ((indexingAt 0).chainage.move.timer.isSome = true ∧ (indexingAt 0).seq.state = .indexing)
    ∧ (State.reset.chainage.move.demandActive = false ∧ settle State.reset = State.reset)
    ∧ (∀ st ∈ [SeqState.idle, .ended, .hold, .paused, .measuring],
      let s := (inState st none none).setPlan State.reset.plan
      s.plan.workheadRecord = none ∧ s.chainage.move.demandActive = false ∧ s.seq.state = st
        ∧ s.lining.releaseAfterHeads = false) := by
  refine ⟨?_, by decide, by decide, by decide, by decide, by decide⟩
  rintro d (rfl | rfl) <;> decide

theorem witness_StartRunBeginsIndexing :
    readyToRun.linkReady ∧ newlyReset.linkReady ∧ readyToRun.awaitLaw ∧ readyToRun.seq.state = .idle
    ∧ (inState .ended none none).seq.state = .ended ∧ readyToRun.stop.first = none
    ∧ readyToRun.inputs.chainClosed = true ∧ readyToRun.lining.state = .isOpen
    ∧ (∀ i : Fin 4, (readyToRun.heads.get i).state = .parked) ∧ (0 : Byte).toNat = (0 : Fin 4).val
    ∧ (readyToRun.plan.page 0).state = .ready ∧ (readyToRun.plan.page 0).at? (0 : Byte).toNat = some (sleeper 1000)
    ∧ (∀ d : Int, d = -3000 ∨ d = 3000 → 1000 - (1000 + d) ≤ 3000 ∧ (1000 + d) - 1000 ≤ 3000)
    ∧ (∀ m : Fin 4, (readyToRun.plan.page m).workable = true → (readyToRun.plan.page m).whole)
    ∧ 0 ≤ readyToRun.params.chordFront := by
  refine ⟨readyToRun_linkReady, ⟨rfl, rfl, rfl, by decide⟩, ⟨by decide, by decide⟩, by decide, by decide, by decide, by decide, by decide,
    by decide, by decide, by decide, by decide, ?_, fun m h => ?_, by decide⟩
  · rintro d (rfl | rfl) <;> decide
  · match m with
    | 0 => exact (page_whole .ready true 1000 1600 (by decide)).2
    | 1 | 2 | 3 => cases h

theorem witness_RunRequestsByState :
    (inState .releasing none (some context)).seq.state = .releasing
    ∧ (State.reset.seq.state = .idle ∧ (inState .hold (some .resultFull) none).seq.hold = some .resultFull)
    ∧ (State.reset.stop.first = none ∧ State.reset.inputs.chainClosed = true ∧ State.reset.lining.state = .isOpen
      ∧ ∀ i : Fin 4, (State.reset.heads.get i).state = .parked)
    ∧ (State.reset.setStop ⟨some .attention, 0, false⟩).stop.first ≠ none
    ∧ 3 < (4 : Byte).toNat ∧ (State.reset.plan.page 0).state ≠ .ready
    ∧ ((readyToRun.plan.page 0).state = .ready ∧ (readyToRun.plan.page 0).at? (2 : Byte).toNat = none
      ∧ (readyToRun.plan.page 0).at? (0 : Byte).toNat = some (sleeper 1000))
    ∧ (3000 : Int) < 1000 - (-2001) := by decide

/-- HOLD(POSITION_FAULT) after a faulted move. -/
def positionFault : State := withMove .faulted 1000 (inState .hold (some .positionFault) none)

theorem witness_ResumeByReason :
    (inState .paused none none).linkReady ∧ (inState .hold (some .stopCleared) none).linkReady
    ∧ (∀ r ∈ [HoldReason.attentionLapse, .aborted, .positionFault, .detectionLost, .measureLost, .clampFault],
      (inState .hold (some r) none).seq.state = .hold ∧ (inState .hold (some r) none).seq.hold = some r)
    ∧ (∀ a ∈ [ResumeAction.readmit, .advance, .retryRelease],
      ((inState .hold (some .stopCleared) none).modSeq fun q => { q with resumeAction := some a }).seq.resumeAction
        = some a)
    ∧ (positionFault.chainage.move.state = .faulted ∧ positionFault.lining.state = .isOpen)
    ∧ positionFault.awaitLaw ∧ (∀ i : Fin 4, (positionFault.heads.get i).state = .parked)
    ∧ positionFault.plan.workheadRecord = some (sleeper 1000) :=
  ⟨inState_linkReady .., inState_linkReady .., by decide, by decide, by decide, ⟨by decide, by decide⟩, by decide,
    by decide⟩

/-- The unit in each of its six states, and a head in and out of PARKED. -/
theorem witness_ConfirmStartsMeasuring :
    (∀ u ∈ [UnitState.isOpen, .clamping, .clamped, .approaching, .holding, .releasing],
      let s := confirmWith u
      s.linkReady ∧ s.seq.state = .hold ∧ s.seq.hold = some .confirmWait ∧ s.seq.context = some context
        ∧ s.measuring = .noWindow ∧ s.lining.releaseAfterHeads = false ∧ s.lining.state = u)
    ∧ (context.engaged 0 = true ∧ { context with enabled := 0xFFF0 }.engaged 0 = false)
    ∧ (((confirmWith .clamped).heads.get 0).state = .parked
      ∧ ((withHead .opening (confirmWith .clamped)).heads.get 0).state ≠ .parked
      ∧ (confirmWith .clamped).awaitFrame = false ∧ ((confirmWith .clamped).setAwaitFrame true).awaitFrame = true) :=
  ⟨fun _ _ => ⟨⟨rfl, rfl, rfl, (by decide : (0 : Nat) < transmitPlaces)⟩, rfl, rfl, rfl, rfl, rfl, rfl⟩, by decide,
    by decide⟩

theorem witness_SkipPendsOrRecords :
    ((inState .indexing none none).linkReady ∧ (inState .indexing none none).seq.state = .indexing)
    ∧ ((inState .hold (some .confirmWait) (some context)).linkReady
      ∧ (inState .hold (some .confirmWait) (some context)).seq.context = some context)
    ∧ (inState .hold (some .confirmWait) (some context)).plan.atEnd = false
    ∧ ((inState .hold (some .confirmWait) (some context)).setPlan (plan .active true (some ⟨0, 1⟩))).plan.atEnd
      = true :=
  ⟨⟨inState_linkReady .., by decide⟩, ⟨inState_linkReady .., by decide⟩, by decide, by decide⟩

theorem witness_AbortRecordsSleeper :
    ∀ st ∈ [SeqState.measuring, .correcting, .tamping],
      (inState st none (some context)).linkReady ∧ (inState st none (some context)).seq.state = st
      ∧ (inState st none (some context)).seq.context = some context
      ∧ (∀ u ∈ [UnitState.isOpen, .releasing],
        let s := (withUnit u (inState st none (some context))).modLining fun x => { x with clampPending := true }
        s.lining.state = u ∧ s.lining.releaseAfterHeads = false) :=
  fun _ _ => ⟨inState_linkReady .., rfl, rfl, fun _ _ => ⟨rfl, rfl⟩⟩

/-- The unit in a state in which the orders of ABORT_SLEEPER and STOP_RUN act on it. -/
theorem witness_orders_to_the_unit :
    ∀ u ∈ [UnitState.clamping, .clamped, .approaching, .holding],
      (withUnit u (inState .measuring none (some context))).lining.state ≠ .isOpen
      ∧ (withUnit u (inState .measuring none (some context))).lining.state ≠ .releasing := by decide

theorem witness_StopRunReturnsToIdle :
    ((inState .tamping none (some context)).linkReady ∧ (inState .tamping none (some context)).seq.state ≠ .idle
      ∧ ((inState .tamping none (some context)).plan.page 0).state = .active
      ∧ ((inState .tamping none (some context)).plan.page 1).state ≠ .active)
    ∧ ((inState .paused none none).linkReady ∧ (inState .paused none none).seq.context = none
      ∧ (inState .paused none none).lining.state = .isOpen ∧ (inState .paused none none).lining.frozen = false
      ∧ (inState .paused none none).lining.releaseAfterHeads = false)
    ∧ (let s := (inState .faultStop none none).modLining fun u => { u with frozen := true }
      s.lining.state = .isOpen ∧ s.lining.frozen = true) :=
  ⟨⟨inState_linkReady .., by decide, by decide, by decide⟩, ⟨inState_linkReady .., by decide⟩, by decide⟩

theorem witness_ClearStopReleasesLatch :
    ((after (.safetyChainChange false) State.reset).inputs.chainClosed = false
      ∧ (State.reset.setStop ⟨none, 0, true⟩).stop.silent = true)
    ∧ (State.reset.inputs.chainClosed = true ∧ State.reset.stop.silent = false ∧ State.reset.stop.first = none)
    ∧ ((State.reset.setStop ⟨some .attention, 0, false⟩).stop.first ≠ none ∧ State.reset.seq.state ≠ .faultStop)
    ∧ (inState .faultStop none none).seq.state = .faultStop := by decide

/-- The result queue with the given number of records. -/
def withResults (n : Nat) (s : State) : State :=
  s.setResults (List.replicate n (formResult context s.heads .skipped))

theorem witness_ReleasedResultsLeaveQueue :
    ((0 : Byte).toNat = 0 ∧ 32 < (33 : Byte).toNat) ∧ (1 ≤ (32 : Byte).toNat ∧ (32 : Byte).toNat ≤ 32)
    ∧ State.reset.seq.state ≠ .hold
    ∧ ((withResults 32 (inState .hold (some .resultFull) none)).seq.state = .hold
      ∧ (withResults 32 (inState .hold (some .resultFull) none)).seq.hold = some .resultFull
      ∧ (withResults 32 (inState .hold (some .resultFull) none)).results ≠ []) := by decide

theorem witness_AccountReadAndCleared :
    ((∀ p : Pos, (inState .paused none none).plan.workhead = some p ∨ (inState .paused none none).plan.front = some p →
        p.index < 64)
      ∧ (-2147483648 : Int) ≤ (inState .paused none none).chainage.running
      ∧ (inState .paused none none).chainage.offset ≤ 2147483647)
    ∧ (∀ r ∈ (withResults 4 (inState .paused none none)).results, ResultFits r)
    ∧ (inState .paused none none).counterLaw
    ∧ ((0 : Byte).toNat = 0 ∧ 4 < (5 : Byte).toNat) ∧ (1 ≤ (4 : Byte).toNat ∧ (4 : Byte).toNat ≤ 4)
    ∧ 1 < (2 : Byte).toNat := by
  refine ⟨⟨?_, by decide, by decide⟩, ?_, by unfold State.counterLaw; decide, by decide⟩
  · rintro p (h | h) <;> cases h
    decide
  · intro r hr
    rw [List.eq_of_mem_replicate hr]
    exact ⟨by decide, by decide, by decide, by decide, (fun _ h => by cases h), (fun _ h => by cases h),
      (fun _ h => by cases h), (fun _ h => by cases h)⟩

theorem witness_RecordingEntersOneResult :
    (inState .releasing none (some context)).seq.context = some context ∧ context.correction = none
    ∧ { context with correction := some ⟨1, 2, none, 3, .all5 none, .all4 false⟩ }.correction.isSome = true := by
  decide

theorem witness_OutcomeSelectedFromHeads : ∃ i : Fin 4, context.engaged i = true := ⟨0, by decide⟩

theorem witness_RunContinuesAfterRecording :
    ((plan .active true (some ⟨0, 1⟩)).workhead = some ⟨0, 1⟩ ∧ ((plan .active true (some ⟨0, 1⟩)).page 0).endFlag = true
      ∧ 1 + 1 = ((plan .active true (some ⟨0, 1⟩)).page 0).count)
    ∧ (0 + 1 < ((plan .active false (some ⟨0, 0⟩)).page 0).count
      ∧ ((inState .tamping none none).modSeq fun q => { q with pausePending := true }).seq.pausePending = true
      ∧ (inState .tamping none none).seq.pausePending = false)
    ∧ (((plan .active false (some ⟨0, 1⟩)).page 0).endFlag = false
      ∧ ((plan .active false (some ⟨0, 1⟩)).page 0).count ≤ 1 + 1
      ∧ ((plan .active false (some ⟨0, 1⟩)).page (0 + 1)).state = .empty)
    ∧ (∀ c ∈ [(1601 : Int), 1600],
      ((crossing .ready c).page 0).endFlag = false ∧ ((crossing .ready c).page 0).count ≤ 1 + 1
      ∧ ((crossing .ready c).page (0 + 1)).state = .ready
      ∧ ((crossing .ready c).page 0).last? = some (sleeper 1600)
      ∧ ((crossing .ready c).page (0 + 1)).at? 0 = some (sleeper c)) := by decide

theorem witness_AdmissionChecksThenWorks :
    (32 ≤ (withResults 32 (inState .indexing none none)).results.length
        + (withResults 32 (inState .indexing none none)).seq.reservation)
    ∧ ((withResults 31 (inState .indexing none none)).results.length
        + (withResults 31 (inState .indexing none none)).seq.reservation < 32)
    ∧ ((inState .indexing none none).setAttention ⟨.lapsedOnce, 60⟩).attention.state = .lapsedOnce
    ∧ ((inState .indexing none none).attention.state ≠ .lapsedOnce)
    ∧ (3 ≤ ((inState .indexing none none).modSeq fun q => { q with missCount := 3 }).seq.missCount)
    ∧ (3 ≤ ((inState .indexing none none).modSeq fun q => { q with degradedCount := 3 }).seq.degradedCount)
    ∧ ((inState .indexing none none).seq.missCount < 3 ∧ (inState .indexing none none).seq.degradedCount < 3
      ∧ (inState .indexing none none).plan.workhead = some ⟨0, 0⟩
      ∧ (inState .indexing none none).seq.kind ≠ .retamp
      ∧ (inState .indexing none none).plan.workheadRecord = some (sleeper 1000)) := by decide

/-- Every head READY, or every head PARKED with its outcome fixed. -/
def allHeads (st : HeadState) (o : Option HeadOutcome) (s : State) : State :=
  s.setHeads (s.heads.map fun h => { h with state := st, outcome := o })

theorem witness_PhasesFollowOneAnother :
    (State.reset.lining.releaseAfterHeads = false ∧ State.reset.seq.state ≠ .indexing)
    ∧ ((withUnit .approaching (inState .correcting none (some context))).lining.state ≠ .holding)
    ∧ (let s := allHeads .ready none (withUnit .holding (inState .correcting none (some context)));
      s.seq.context = some context ∧ s.seq.state = .correcting ∧ s.lining.state = .holding
        ∧ ∀ i : Fin 4, (s.heads.get i).state = .ready)
    ∧ (let s := allHeads .parked (some .complete) (withUnit .holding (inState .tamping none (some context)));
      s.seq.context = some context ∧ s.seq.state = .tamping ∧ s.lining.releaseAfterHeads = false
        ∧ ∀ i : Fin 4, (s.heads.get i).state = .parked ∧ (s.heads.get i).outcome ≠ none)
    ∧ (∀ st ∈ [SeqState.idle, .measuring, .hold, .paused, .ended, .indexing], ∀ b ∈ [false, true],
      let s := (withUnit .clamped (inState st none none)).modLining
        fun u => { u with releaseAfterHeads := true, awaited := u.awaited.set 0 b };
      s.seq.state = st ∧ s.lining.releaseAfterHeads = true ∧ s.lining.awaited.get 0 = b
        ∧ ∀ i : Fin 4, i ≠ 0 → s.lining.awaited.get i = false)
    ∧ (let s := (withUnit .clamped (inState .indexing none none)).modLining fun u => { u with frozen := true };
      s.seq.state = .indexing ∧ s.lining.releaseAfterHeads = false ∧ s.lining.frozen = true
        ∧ s.lining.state ≠ .isOpen ∧ (∀ i : Fin 4, (s.heads.get i).state = .parked)
        ∧ ((withHead .opening s).heads.get 0).state ≠ .parked)
    ∧ (∀ i ∈ [State.reset.inputs, clampingState.inputs],
      (releaseOrder i (.all4 0) (confirmWith .clamped).lining).state
        = if i.clampsOpen then .isOpen else .releasing)
    ∧ State.reset.inputs.clampsOpen = true ∧ clampingState.inputs.clampsOpen = false
    ∧ (let s := (withUnit .releasing (inState .releasing none none)).modSeq fun q => { q with advanceOwed := true };
      (releaseOrder s.inputs (heldTrack s) s.lining).state = .isOpen ∧ s.lining.clampPending = false
        ∧ s.seq.state = .releasing ∧ s.seq.context = none ∧ s.seq.advanceOwed = true)
    ∧ (let s := inState .indexing none none;
      s.plan.workheadRecord = some (sleeper 1000) ∧ s.seq.state = .indexing ∧ s.lining.releaseAfterHeads = false
        ∧ s.lining.state = .isOpen ∧ s.chainage.move.demandActive = false
        ∧ ∀ i : Fin 4, (s.heads.get i).state = .parked) := by decide

theorem witness_SqueezePressureReduced :
    (inState .idle none none).paramLaw
    ∧ (∀ r ∈ [(0, 110), (30, 77), (35, 71), (50, 55)],
      (0 : Int) ≤ r.1 ∧ r.1 ≤ 50 ∧ 100 * r.2 ≤ (inState .idle none none).params.squeezePressure * (100 - r.1)
        ∧ (inState .idle none none).params.squeezePressure * (100 - r.1) < 100 * (r.2 + 1)) :=
  ⟨idle_paramLaw, by decide⟩

theorem witness_LiftsAndShiftBeforeLimits :
    (liftsBeforeFloor chord context ⟨some 0, some 80, some 70, some 50, none⟩).right < 0
    ∧ 0 ≤ (liftsBeforeFloor chord context ⟨some 0, some 100, some 100, some 0, none⟩).left
    ∧ 0 ≤ (liftsBeforeFloor chord context ⟨some 0, some 100, some 100, some 0, none⟩).right
    ∧ 0 < chord.b
    ∧ NearestAway ({ context with eF := 120 }.eF * chord.a) (chord.a + chord.b) 36
    ∧ NearestAway ({ context with eFv := -40 }.eFv * chord.aV) (chord.aV + chord.b) (-11)
    ∧ (NearestAway 5 10 1 ∧ ¬ NearestAway 5 10 0 ∧ NearestAway (-5) 10 (-1) ∧ ¬ NearestAway (-5) 10 0) := by
  unfold NearestAway; decide

theorem witness_CommandedValuesWithinLimits :
    0 ≤ context.maxLift ∧ 0 ≤ context.shiftLimit ∧ 0 ≤ context.cycle.slopeLimit
    ∧ 0 ≤ (CorrectionComputer.mk 310 330 0 0 0 0).cL
    ∧ (computeCorrection chord .zero { context with record := { sleeper 0 with branch := true } }
        (.all5 (some 0))).correction.lB.isSome = true := by decide

/-- A window of the given kind short of its bound by one frame, with no valid sample. -/
def lateWindow (kind : WindowKind) : Window := { Window.fresh kind context with frames := 23 }

theorem witness_PreWindowFillsAndCloses :
    let s := (inState .measuring none (some context)).setMeasuring (.window (lateWindow .pre))
    s.resetLow = false ∧ s.measuring = .window (lateWindow .pre) ∧ (lateWindow .pre).kind = .pre
      ∧ s.seq.state = .measuring ∧ s.seq.context = some context ∧ s.lining.releaseAfterHeads = false
      ∧ 0 < (lateWindow .pre).length ∧ ((lateWindow .pre).take (validSamples [] true)).closes = true
      ∧ ((Window.fresh .pre context).take (validSamples [] true)).closes = false := by decide

/-- The context of a sleeper whose correction is computed. -/
def corrected : Context := { context with correction := some ⟨1, 2, none, 3, .all5 (some 4), .all4 true⟩ }

theorem witness_FinalWindowRecordsSleeper :
    let s := (inState .releasing none (some corrected)).setMeasuring (.window (lateWindow .final))
    s.resetLow = false ∧ s.measuring = .window (lateWindow .final) ∧ (lateWindow .final).kind = .final
      ∧ s.seq.state = .releasing ∧ s.seq.context = some corrected
      ∧ corrected.correction = some ⟨1, 2, none, 3, .all5 (some 4), .all4 true⟩
      ∧ s.lining.releaseAfterHeads = false
      ∧ 0 < (lateWindow .final).length ∧ ((lateWindow .final).take (validSamples [] true)).closes = true
      ∧ ((Window.fresh .final context).take (validSamples [] true)).closes = false := by decide

/-- APPROACHING with head H1 still preparing, and with LIFT_L under way or no axis driven. -/
def approachingWith (a : AxisStatus) : State :=
  (withHead .preparing ((withUnit .approaching (inState .correcting none (some corrected))).modLining
    fun u => { u with axis := ⟨a, .notDriven, .notDriven, .notDriven⟩ })).setMeasuring
      (.live (.fresh (channelsFor false)))

theorem witness_ApproachStepsAndHolds :
    (let s := approachingWith .moving;
      s.resetLow = false ∧ s.measuring = .live (.fresh (channelsFor false)) ∧ s.lining.state = .approaching
        ∧ s.seq.state = .correcting ∧ s.seq.context = some corrected ∧ s.lining.releaseAfterHeads = false
        ∧ corrected.engaged 0 = true ∧ (s.heads.get 0).state = .preparing
        ∧ s.lining.correctionTimer.isSome = true
        ∧ ((s.lining.loseChannels (.all5 false) (.all4 0)).stepAxes (.all5 none) (.all4 0)).anyUnderWay = true)
    ∧ (((approachingWith .stopped).lining.loseChannels (.all5 false) (.all4 0)).stepAxes (.all5 none)
        (.all4 0)).anyUnderWay = false
    ∧ (State.reset.measuring = .noWindow ∧ State.reset.resetLow = false ∧ settle State.reset = State.reset)
    ∧ (let s := (withUnit .holding (approachingWith .stopped)).modSeq id;
      s.resetLow = false ∧ s.measuring = .live (.fresh (channelsFor false)) ∧ s.lining.state = .holding
        ∧ s.lining.releaseAfterHeads = false ∧ s.seq.context = some corrected ∧ s.seq.state = .correcting
        ∧ (s.heads.get 0).state = .preparing)
    ∧ (let s := withHead .penetrating (withUnit .holding (inState .tamping none (some corrected)));
      s.seq.state = .tamping ∧ (s.heads.get 0).state ≠ .parked) := by decide

theorem witness_ClampReportsMoveTheUnit :
    (let s := clampingState;
      s.resetLow = false ∧ s.seq.context = some context ∧ s.lining.releaseAfterHeads = false
        ∧ s.lining.frozen = false ∧ s.lining.clampPending = false ∧ s.seq.state = .measuring
        ∧ s.lining.state = .clamping ∧ s.lining.clampTimer.isSome = true
        ∧ (clampLevel .right true s.inputs).clampsClosed s.lining.hookConcerned = true
        ∧ (clampLevel .left false s.inputs).clampsClosed s.lining.hookConcerned = false)
    ∧ (let s := withUnit .releasing ((inState .releasing none (some context)).setInputs clampingState.inputs);
      s.seq.state = .releasing ∧ s.lining.state = .releasing ∧ (clampLevel .left false s.inputs).clampsOpen = true
        ∧ (clampLevel .right true s.inputs).clampsOpen = false)
    ∧ (let s := (withUnit .releasing (inState .measuring none (some context))).modLining
          fun u => { u with clampPending := true };
      s.seq.state = .measuring ∧ s.lining.state = .releasing ∧ s.lining.clampPending = true
        ∧ s.lining.releaseAfterHeads = false ∧ s.lining.frozen = false)
    ∧ (let s := (withUnit .releasing (inState .releasing none none)).modSeq fun q => { q with advanceOwed := true };
      s.seq.context = none ∧ s.seq.advanceOwed = true ∧ s.seq.state = .releasing ∧ s.lining.state = .releasing)
    ∧ (∀ st ∈ [SeqState.idle, .hold, .paused, .ended, .indexing],
      (withUnit .releasing (inState st none none)).seq.state = st
        ∧ (withUnit .releasing (inState st none none)).lining.state = .releasing)
    ∧ (let s := (withUnit .releasing (inState .faultStop none none)).modLining fun u => { u with frozen := true };
      s.lining.frozen = true
        ∧ settle (s.setInputs (clampLevel .left true s.inputs)) = s.setInputs (clampLevel .left true s.inputs))
    ∧ (withUnit .clamped (inState .measuring none (some context))).lining.state = .clamped
    ∧ (let s := clampingState.modLining fun u =>
          { u with clampTimer := none, releaseAfterHeads := true, awaited := u.awaited.set 0 true };
      s.lining.clampTimer = none ∧ s.lining.state = .clamping ∧ s.lining.frozen = false
        ∧ s.lining.awaited.get 0 = true ∧ s.seq.state ≠ .tamping)
    ∧ (let s := (withUnit .releasing (inState .idle none none)).modLining
          fun u => { u with releaseAfterHeads := true, awaited := u.awaited.set 0 true };
      s.lining.state = .releasing ∧ s.lining.releaseAfterHeads = true ∧ s.lining.awaited.get 0 = true
        ∧ s.lining.clampPending = false ∧ s.seq.state = .idle
        ∧ (clampLevel .left false s.inputs).clampsOpen = true) := by decide

theorem witness_ClampTimerFailures :
    (State.reset.resetLow = false ∧ State.reset.lining.clampTimer = none ∧ settle State.reset = State.reset)
    ∧ (clampingState.lining.clampTimer.isSome = true ∧ clampingState.lining.state = .clamping
      ∧ clampingState.seq.state = .measuring ∧ clampingState.seq.context = some context)
    ∧ (∀ c ∈ [none, some context],
      let s := withUnit .releasing (inState .releasing none c)
      s.lining.clampTimer.isSome = true ∧ s.lining.state = .releasing ∧ s.lining.clampPending = false
        ∧ s.lining.releaseAfterHeads = false ∧ s.seq.state = .releasing ∧ s.seq.context = c)
    ∧ (let s := (withUnit .releasing (inState .measuring none (some context))).modLining
          fun u => { u with clampPending := true };
      s.lining.clampTimer.isSome = true ∧ s.lining.state = .releasing ∧ s.lining.clampPending = true
        ∧ s.lining.releaseAfterHeads = false ∧ s.seq.state = .measuring ∧ s.seq.context = some context)
    ∧ (let s := withUnit .releasing (inState .hold (some .aborted) none);
      s.lining.clampTimer.isSome = true ∧ s.lining.state = .releasing ∧ s.lining.clampPending = false
        ∧ s.lining.frozen = false ∧ s.seq.state = .hold) := by decide

/-- A run state in which LIFT_L has been outside its tolerance for four frames, one short of FOLLOW_COUNT. -/
def fourOutside : State :=
  (inState .tamping none (some context)).setSupervisor
    { Supervisor.atPowerOn with count := ⟨.all4 0, .all4 0, .all4 0, ⟨4, 0, 0, 0⟩⟩ }

/-- The same state with LINE one frame short too. -/
def twoOutside : State :=
  fourOutside.setSupervisor { Supervisor.atPowerOn with count := ⟨.all4 0, .all4 0, .all4 0, ⟨4, 0, 0, 4⟩⟩ }

def twoAside : AxisFrame := { liftAside with sensed := { liftAside.sensed with track := ⟨5, 0, 0, 5⟩ } }

/-- 09 R155, R158: the first axis in axis order is the cause, and another that faults in the same frame a further one. -/
theorem test_faults_of_one_frame :
    ((after (.axisFrame liftAside) fourOutside).stop.first, (after (.axisFrame liftAside) fourOutside).stop.further,
        (after (.axisFrame twoAside) twoOutside).stop.first, (after (.axisFrame twoAside) twoOutside).stop.further)
      = (some (.following (.track .liftL)), 0, some (.following (.track .liftL)), 1) := by decide +kernel

theorem witness_AxisFrameSupervised :
    State.reset.resetLow = false ∧ State.reset.awaitFrame = true ∧ (inState .idle none none).awaitFrame = false
    ∧ (after (.startRun 1 0 0) newlyReset).chainage.move.demandActive = true
    ∧ (toleranceOf State.reset.params (.track .liftL)
        < |(inState .idle none none).setpointOf (.track .liftL) - axesGet liftAside.sensed (.track .liftL)|)
    ∧ (fourOutside.resetLow = false ∧ fourOutside.awaitFrame = false ∧ fourOutside.stop.first = none
      ∧ fourOutside.seq.state.isRun = true
      ∧ fourOutside.params.followCount ≤ ((min 20 (axesGet fourOutside.supervisor.count (.track .liftL) + 1) : Nat) : Int)
      ∧ fourOutside.supervisor.latches.getLsbD 12 = false ∧ fourOutside.counters.get .followingFaults ≤ 65535)
    ∧ (fourOutside.setStop ⟨some .attention, 0, false⟩).stop.first = some .attention
    ∧ (twoOutside.stop.first = none
      ∧ ∀ t : TrackAxis, t = .liftL ∨ t = .line →
        toleranceOf twoOutside.params (.track t)
            < |twoOutside.setpointOf (.track t) - axesGet twoAside.sensed (.track t)|
        ∧ twoOutside.params.followCount ≤ ((min 20 (axesGet twoOutside.supervisor.count (.track t) + 1) : Nat) : Int)
        ∧ twoOutside.supervisor.latches.getLsbD (Axis.track t).number = false) := by
  refine ⟨by decide, by decide, by decide, by decide, by decide, by decide, by decide, by decide, ?_⟩
  rintro t (rfl | rfl) <;> decide

theorem witness_StopEntersFaultStop :
    (State.reset.resetLow = false ∧ State.reset.stop.silent = false ∧ State.reset.inputs.chainClosed = true
      ∧ (State.reset.setAttention ⟨.lapsedOnce, 60⟩).attention.state = .lapsedOnce)
    ∧ ((State.reset.setStop ⟨some .attention, 0, false⟩).stop.first = some .attention)
    ∧ (State.reset.stop.first = none ∧ State.reset.seq.state.isRun = false)
    ∧ ((inState .tamping none (some context)).stop.first = none
      ∧ (inState .tamping none (some context)).seq.state.isRun = true
      ∧ (inState .tamping none (some context)).seq.state.attentive = true) := by decide

theorem witness_AttentionTimerAndWatches :
    State.reset.resetLow = false ∧ State.reset.attention.state = .disarmed
    ∧ (inState .measuring none (some context)).attention.state = .running
    ∧ (State.reset.setStop ⟨none, 0, true⟩).stop.silent = true
    ∧ (State.reset.setInputs { State.reset.inputs with chainClosed := false }).inputs.chainClosed = false
    ∧ ((0x33 : Byte) = callCode .confirm ∧ (0x32 : Byte) = callCode .resume)
    ∧ ((inState .hold (some .aborted) none).resetLow = false ∧ (inState .hold (some .aborted) none).seq.state = .hold
      ∧ (inState .hold (some .aborted) none).attention.state ≠ .disarmed
      ∧ (inState .hold (some .aborted) none).seq.hold = some .aborted)
    ∧ ((inState .paused none none).seq.state.attentive = false ∧ (inState .hold (some .aborted) none).seq.state.attentive
      ∧ (inState .ended none none).seq.state.attentive = false) := by decide

theorem witness_resume_taken : (inState .hold (some .aborted) none).linkReady := inState_linkReady _ _ _

/-- 09 R161, R162: a RESUME refused is activity where RESUME is enabled, as any request is where ANY_REQUEST is. -/
theorem test_request_activity :
    let s := fun sources : Int =>
      { inState .measuring none (some context) with
        params := { Params.defaults with attentionSources := sources }, attention := ⟨.lapsedOnce, 7⟩ }
    ([0, 8, 16, 32].map fun k => (after (.resume 1) (s k)).attention.state) = [.lapsedOnce, .lapsedOnce, .running, .running] := by
  decide

theorem witness_HeadSensorsAndTimers :
    (let s := withHead .penetrating (withUnit .holding (inState .tamping none
        (some { context with enabled := 0xFFFE })));
      s.resetLow = false ∧ (s.heads.get 0).working = true
        ∧ ((s.setInputs (tiltLevel 0 0 .between s.inputs)).headEnv 0).guard = false
        ∧ ((s.setInputs (tiltLevel 0 0 .tiltOut s.inputs)).headEnv 0).guard = true
        ∧ (s.heads.get 0).state = .penetrating ∧ (s.heads.get 0).penetrationTimer.isSome = true)
    ∧ (let s := withHead .preparing (inState .measuring none (some context))
      (s.heads.get 0).state = .preparing ∧ (s.headEnv 0).order = some (context.order 0)
        ∧ (s.heads.get 0).preparePending = false ∧ (s.heads.get 0).traverseTimer.isSome = true
        ∧ (s.heads.get 0).tiltTimer.isSome = true)
    ∧ (let s := withHead (.rising .full) (inState .hold (some .aborted) none);
      s.awaitFrame = false ∧ (s.heads.get 0).state = .rising .full ∧ (s.heads.get 0).verticalSet = 0
        ∧ (s.heads.get 0).preparePending = false)
    ∧ (let s := (withHead (.rising .full) (inState .measuring none (some context)))
      let h := { s.heads.get 0 with preparePending := true }
      let t := s.setHeads (s.heads.set 0 h)
      t.awaitFrame = false ∧ (t.heads.get 0).state = .rising .full ∧ (t.heads.get 0).verticalSet = 0
        ∧ (t.heads.get 0).preparePending = true ∧ (t.headEnv 0).order = some (context.order 0))
    ∧ (let s := (withHead (.rising .full) (inState .idle none none)).setAwaitFrame true;
      s.resetLow = false ∧ s.awaitFrame = true ∧ (s.heads.get 0).state ≠ .parked
        ∧ (s.heads.get 1).state = .parked)
    ∧ (let s := withHead .squeezing (inState .tamping none (some context))
      (s.heads.get 0).state = .squeezing ∧ (s.heads.get 0).squeezeTimer.isSome = true)
    ∧ (((inState .idle none none).heads.get 0).working = false
      ∧ ((inState .idle none none).heads.get 0).state ≠ .preparing) := by decide

theorem witness_HeadStrokesAtFrame :
    ((headEnv 479 0 0 76).order = some headOrder ∧ (headEnv 479 0 0 76).awaits = false)
    ∧ ((headIn .ready 0 []).state = .ready ∧ (headIn .ready 0 []).preparePending = false)
    ∧ { headIn (.rising .full) 1 [] with preparePending := true }.preparePending = true
    ∧ (479 : Int) < headOrder.depth ∧ headOrder.depth ≤ (480 : Int)
    ∧ (((76 : Nat) : Int) < headOrder.pressure ∧ headOrder.pressure ≤ ((77 : Nat) : Int))
    ∧ (∀ v ∈ ([4, -4] : List Int), (if 0 < v then max 0 (v - 3) else min 0 (v + 3)) ≠ 0)
    ∧ (∀ v ∈ ([3, 0, -3] : List Int), (if 0 < v then max 0 (v - 3) else min 0 (v + 3)) = 0)
    ∧ ({ headEnv 0 0 0 0 with order := none }.awaits = false ∧ { headEnv 0 0 0 0 with order := none }.raised = true
      ∧ { headEnv 0 0 0 0 with order := none, raised := false }.raised = false)
    ∧ ((headIn .opening 1 []).state = .opening ∧ { headIn .opening 1 [] with squeezeSet := 2 }.squeezeSet = 2)
    ∧ (headIn (.rising .full) 1 []).preparePending = false
    ∧ ({ headEnv 338 0 0 0 with holding := false }.guard = false ∧ (headEnv 338 0 0 0).guard = true)
    ∧ (headIn .preparing 0 []).state = .preparing
    ∧ ({ headEnv 0 0 (-600) 0 with below := some (-855), above := some (-335) }.below = some (-855)
      ∧ (-855 : Int) + 260 ≤ min headOrder.target (-600 + 10 / 2)
      ∧ min headOrder.target (-600 + 10 / 2) ≤ (-335 : Int) - 260)
    ∧ ((-860 : Int) + 260 ≤ -600 ∧ (-600 : Int) ≤ -340 - 260
      ∧ ((headIn .preparing 0 []).onFrame
          { headEnv 0 0 (-600) 0 with below := some (-860), above := some (-340) }).1.traverseSet = -600) := by decide

/-- A state other than reset that meets every law, and takes a step. -/
theorem witness_StepKeepsLaws :
    let s := inState .idle none none
    step s = .next s ∧ s.linkLaw ∧ s.counterLaw ∧ s.paramLaw ∧ s.countLaw ∧ s.flightLaw ∧ s.resultLaw ∧ s.cycleLaw
      ∧ (s.attention.state = .disarmed ↔ s.seq.state.attentive = false) ∧ s.vibrationLaw ∧ s.awaitLaw :=
  ⟨rfl, ⟨by decide, by decide⟩, by unfold State.counterLaw; decide, idle_paramLaw, idle_countLaw,
    by unfold State.flightLaw; decide, by unfold State.resultLaw; decide,
    ⟨by unfold State.stopLaw; decide, by decide, by decide⟩, by decide, by unfold State.vibrationLaw; decide,
    ⟨by decide, by decide⟩⟩

theorem witness_StepKeepsTravelLaw :
    let s := indexingAt 0
    step s = .next s ∧ s.cycleLaw ∧ s.awaitLaw ∧ s.travelLaw ∧ s.chainage.move.demandActive = true :=
  ⟨rfl, ⟨by unfold State.stopLaw; decide, by decide, by decide⟩, ⟨by decide, by decide⟩, fun _ => by decide, rfl⟩

/-- A run PAUSED on record 0 of page 0 with the front pointer on record 1. -/
def pausedRun : State :=
  (inState .paused none none).setPlan
    ⟨⟨page .active false [1000, 1600], page .ready false [1601], .cleared, .cleared⟩, some ⟨0, 0⟩, some ⟨0, 1⟩⟩

theorem witness_StepKeepsPlanLaw :
    step pausedRun = .next pausedRun ∧ pausedRun.paramLaw ∧ pausedRun.cycleLaw ∧ pausedRun.unitPhaseLaw
      ∧ pausedRun.planLaw := by
  refine ⟨rfl, fun p => by cases p <;> decide, ⟨by unfold State.stopLaw; decide, by decide, by decide⟩,
    ⟨by decide, (fun w h => by cases h), by decide⟩, by decide, fun n h => ?_, by decide, by decide, fun w h => ?_⟩
  · match n with
    | 0 => exact (page_whole .active false 1000 1600 (by decide)).2
    | 1 => exact (page_whole .ready false 1601 1602 (by decide)).1
    | 2 => cases h
    | 3 => cases h
  · cases h
    exact ⟨⟨0, 1⟩, sleeper 1000, sleeper 1600, rfl, rfl, rfl, by decide⟩

/-- H1 in the ballast with every arm enabled. -/
def inBallast : State := withHead .penetrating (withUnit .holding (inState .tamping none (some context)))

theorem witness_StepKeepsGuardLaw :
    step inBallast = .next inBallast ∧ inBallast.cycleLaw ∧ inBallast.awaitLaw ∧ inBallast.headPhaseLaw
      ∧ inBallast.unitPhaseLaw ∧ inBallast.firstFrameLaw ∧ inBallast.guardLaw
      ∧ (inBallast.heads.get 0).working = true := by
  have engaged : inBallast.engages 0 := ⟨context, rfl, by decide⟩
  refine ⟨rfl, ⟨by unfold State.stopLaw; decide, by decide, by decide⟩, ⟨by decide, by decide⟩, fun i => ?_,
    ⟨by decide, (fun w h => by cases h), by decide⟩, (by decide : inBallast.awaitFrame = true → _),
    fun _ => by decide, by decide⟩
  match i with
  | 0 => exact ⟨fun _ => ⟨rfl, engaged⟩, (fun h => absurd h (by decide)), (fun h => absurd h (by decide))⟩
  | 1 | 2 | 3 =>
    exact ⟨(fun h => absurd h (by unfold HeadRecord.inserting; decide)), (fun h => absurd h (by decide)), (fun h => absurd h (by decide))⟩

end Sys2Proof.Tests
end

section
/-! PROOFS. Pages and their records: what a whole page says about its places (01 R1, R7). -/

namespace Sys2Proof.Machine

theorem Page.lt_count_of_at? {p : Page} {i : Nat} {x : SleeperRecord} (h : p.at? i = some x) : i < p.count := by
  by_contra hi
  rw [Page.at?, List.getElem?_eq_none (Nat.not_lt.mp hi)] at h
  cases h

/-- Two pages with the same records read alike. -/
theorem Page.at?_congr {p q : Page} (h : p.records = q.records) (i : Nat) : p.at? i = q.at? i := by
  rw [Page.at?, Page.at?, h]

theorem Page.whole_congr {p q : Page} (h : p.records = q.records) : p.whole ↔ q.whole := by
  simp only [Page.whole, Page.at?_congr h, Page.count, h]

theorem Page.workable_iff (p : Page) : p.workable = true ↔ p.state = .ready ∨ p.state = .active := by
  simp [Page.workable]

/-- Every place of a whole page below its count holds a record. -/
theorem Page.whole.exists_at? {p : Page} (h : p.whole) {i : Nat} (hi : i < p.count) : ∃ x, p.at? i = some x :=
  Option.isSome_iff_exists.mp (h.2.2.1 i hi)

theorem Page.whole.exists_last? {p : Page} (h : p.whole) : ∃ a, p.last? = some a := by
  obtain ⟨hpos, -⟩ := id h
  exact h.exists_at? (by omega)

/-- The records of a whole page rise from place to place. -/
theorem Page.whole.chainage_lt {p : Page} (h : p.whole) {i j : Nat} {x y : SleeperRecord} (hij : i < j)
    (hx : p.at? i = some x) (hy : p.at? j = some y) : x.chainage < y.chainage := by
  obtain ⟨-, -, -, hrise⟩ := id h
  induction j generalizing y with
  | zero => cases hij
  | succ j ih =>
    have hlast := Page.lt_count_of_at? hy
    obtain ⟨z, hz⟩ := h.exists_at? (i := j) (by omega)
    have hzy := hrise j z y hz hy
    rcases Nat.lt_succ_iff_lt_or_eq.mp hij with hlt | rfl
    · exact (ih hlt hz).trans hzy
    · rw [hx] at hz; cases hz; exact hzy

theorem Page.whole.chainage_le {p : Page} (h : p.whole) {i j : Nat} {x y : SleeperRecord} (hij : i ≤ j)
    (hx : p.at? i = some x) (hy : p.at? j = some y) : x.chainage ≤ y.chainage := by
  rcases Nat.lt_or_eq_of_le hij with hlt | rfl
  · exact (h.chainage_lt hlt hx hy).le
  · rw [hx] at hy; cases hy; exact le_rfl

/-- No record of a whole page lies beyond its last. -/
theorem Page.whole.le_last {p : Page} (h : p.whole) {i : Nat} {x a : SleeperRecord} (hx : p.at? i = some x)
    (ha : p.last? = some a) : x.chainage ≤ a.chainage :=
  h.chainage_le (by have := Page.lt_count_of_at? hx; omega) hx ha

/-- The order check of two pages (01 R21). -/
theorem inOrder_iff (prev next : Page) :
    inOrder prev next = true ↔ ∃ a b : SleeperRecord, prev.last? = some a ∧ next.at? 0 = some b
      ∧ a.chainage < b.chainage := by
  unfold inOrder
  split
  · next a b ha hb => simp [ha, hb]
  · next h => simpa using fun a ha b hb => absurd hb (h a b ha)

/-- The order check answers where both records are known. -/
theorem inOrder_eq_decide {prev next : Page} {a b : SleeperRecord} (ha : prev.last? = some a)
    (hb : next.at? 0 = some b) : inOrder prev next = decide (a.chainage < b.chainage) := by
  simp [inOrder, ha, hb]

end Sys2Proof.Machine
end

section
/-! PROOFS. The front search (01 R17, R21): the records it covers, in rising chainage. -/

namespace Sys2Proof.Machine

/-! ## The records of one page -/

theorem mem_searchedOf {n : Fin 4} {p : Page} {first : Nat} {e : Searched} :
    e ∈ searchedOf n p first ↔ e.pos.page = n ∧ first ≤ e.pos.index ∧ p.at? e.pos.index = some e.record := by
  obtain ⟨⟨m, i⟩, r⟩ := e
  simp only [searchedOf, List.mem_filterMap, Prod.exists, List.mem_zipIdx_iff_getElem?, Page.at?]
  constructor
  · rintro ⟨x, j, hx, hj⟩
    split at hj
    · next hle =>
      obtain ⟨y, rfl, hy⟩ := Option.map_eq_some_iff.mp hj
      cases hy
      exact ⟨rfl, hle, by simp [hx]⟩
    · cases hj
  · rintro ⟨rfl, hle, hat⟩
    exact ⟨some r, i, Option.join_eq_some_iff.mp hat, by simp [hle]⟩

/-- The records searched in a page stand at rising places. -/
theorem searchedOf_index_rises (n : Fin 4) (p : Page) (first : Nat) :
    (searchedOf n p first).Pairwise fun a b => a.pos.index < b.pos.index := by
  have hidx : (p.records.zipIdx).Pairwise fun a b => a.2 < b.2 := by
    rw [← List.pairwise_map (f := Prod.snd) (R := (· < ·)), List.zipIdx_map_snd]
    exact List.pairwise_lt_range'
  rw [searchedOf, List.pairwise_filterMap]
  refine hidx.imp fun {a b} hab x hx y hy => ?_
  split at hx <;> split at hy <;> simp_all
  obtain ⟨-, -, rfl⟩ := hx
  obtain ⟨-, -, rfl⟩ := hy
  exact hab

/-- Searched records in rising nominal chainage. -/
def Rising (l : List Searched) : Prop := l.Pairwise fun a b => a.record.chainage < b.record.chainage

theorem searchedOf_rising {p : Page} (hp : p.whole) (n : Fin 4) (first : Nat) : Rising (searchedOf n p first) :=
  (searchedOf_index_rises n p first).imp_of_mem fun ha hb hab =>
    hp.chainage_lt hab (mem_searchedOf.mp ha).2.2 (mem_searchedOf.mp hb).2.2

/-- The last of rising records lies furthest along. -/
theorem Rising.le_getLast {l : List Searched} (h : Rising l) {e z : Searched} (hz : l.getLast? = some z)
    (he : e ∈ l) : e.record.chainage ≤ z.record.chainage := by
  obtain ⟨init, rfl⟩ := List.getLast?_eq_some_iff.mp hz
  rcases List.mem_append.mp he with hin | hin
  · exact ((List.pairwise_append.mp h).2.2 e hin z (List.mem_singleton.mpr rfl)).le
  · rw [List.mem_singleton.mp hin]

/-! ## The pages a search covers -/

theorem pageAfter_zero (n : Fin 4) : pageAfter n 0 = n := by simp [pageAfter]

theorem pageAfter_succ (n : Fin 4) (j : Nat) : pageAfter n (j + 1) = pageAfter n j + 1 := by
  apply Fin.ext
  simp only [pageAfter, Fin.val_add, Fin.ofNat, Fin.val_one]
  omega

/-- The four pages of the ring are four pages. -/
theorem pageAfter_inj {n : Fin 4} {i j : Nat} (hi : i ≤ 3) (hj : j ≤ 3) (h : pageAfter n i = pageAfter n j) :
    i = j := by
  have hv := congrArg Fin.val h
  simp only [pageAfter, Fin.val_add, Fin.ofNat] at hv
  omega

/-- The records the search covers with `k` successor pages: the workhead page from the workhead on, then whole
pages (01 R17). -/
def coverage (p : PlanStore) (w : Pos) : Nat → List Searched
  | 0 => searchedOf w.page (p.page w.page) w.index
  | k + 1 => coverage p w k ++ searchedOf (pageAfter w.page (k + 1)) (p.page (pageAfter w.page (k + 1))) 0

/-- The position lies in the part of the store that the search covers with `k` successor pages. -/
def Covers (w : Pos) (k : Nat) (pos : Pos) : Prop :=
  (pos.page = w.page ∧ w.index ≤ pos.index) ∨ ∃ j, 1 ≤ j ∧ j ≤ k ∧ pos.page = pageAfter w.page j

theorem mem_coverage {p : PlanStore} {w : Pos} {k : Nat} {e : Searched} :
    e ∈ coverage p w k ↔ p.at? e.pos = some e.record ∧ Covers w k e.pos := by
  induction k with
  | zero =>
    simp only [coverage, mem_searchedOf, Covers, PlanStore.at?]
    constructor
    · rintro ⟨hp, hi, hat⟩
      exact ⟨by rw [hp]; exact hat, .inl ⟨hp, hi⟩⟩
    · rintro ⟨hat, ⟨hp, hi⟩ | ⟨j, h1, h2, -⟩⟩
      · exact ⟨hp, hi, by rw [← hp]; exact hat⟩
      · omega
  | succ k ih =>
    simp only [coverage, List.mem_append, ih, mem_searchedOf, Covers, PlanStore.at?]
    constructor
    · rintro (⟨hat, hcov | ⟨j, h1, h2, hj⟩⟩ | ⟨hp, -, hat⟩)
      · exact ⟨hat, .inl hcov⟩
      · exact ⟨hat, .inr ⟨j, h1, by omega, hj⟩⟩
      · exact ⟨by rw [hp]; exact hat, .inr ⟨k + 1, by omega, le_rfl, hp⟩⟩
    · rintro ⟨hat, hcov | ⟨j, h1, h2, hj⟩⟩
      · exact .inl ⟨hat, .inl hcov⟩
      · rcases Nat.lt_or_eq_of_le h2 with hlt | rfl
        · exact .inl ⟨hat, .inr ⟨j, h1, by omega, hj⟩⟩
        · exact .inr ⟨hj, Nat.zero_le _, by rw [← hj]; exact hat⟩

/-- The search goes on past page `n` (01 R17, R21): no END, and a successor that is READY or ACTIVE and whose record 0
lies beyond the last record of the page. -/
def PlanStore.onward (p : PlanStore) (n : Fin 4) : Prop :=
  ((p.page n).endFlag = false ∧ ((p.page (n + 1)).state = .ready ∨ (p.page (n + 1)).state = .active))
    ∧ ∃ a b : SleeperRecord, (p.page n).last? = some a ∧ (p.page (n + 1)).at? 0 = some b ∧ a.chainage < b.chainage

/-- A store whose READY and ACTIVE pages are whole (01 R7). -/
def PlanStore.wholePages (p : PlanStore) : Prop := ∀ n, (p.page n).workable = true → (p.page n).whole

section Coverage

variable {p : PlanStore} {w : Pos}

/-- Where the search went on, every page it covers can be worked in. -/
theorem workable_of_onward {k : Nat} (hw : (p.page w.page).workable = true)
    (hon : ∀ j, j < k → p.onward (pageAfter w.page j)) {j : Nat} (hj : j ≤ k) :
    (p.page (pageAfter w.page j)).workable = true := by
  cases j with
  | zero => rwa [pageAfter_zero]
  | succ j => rw [pageAfter_succ, Page.workable_iff]; exact (hon j hj).1.2

theorem workable_of_covers {k : Nat} (hw : (p.page w.page).workable = true)
    (hon : ∀ j, j < k → p.onward (pageAfter w.page j)) {pos : Pos} (hc : Covers w k pos) :
    (p.page pos.page).workable = true := by
  rcases hc with ⟨hp, -⟩ | ⟨j, -, hj, hp⟩
  · rwa [hp]
  · rw [hp]; exact workable_of_onward hw hon hj

/-- No covered record lies beyond the last record of the last page covered. -/
theorem coverage_le_last (hwhole : p.wholePages) (hw : (p.page w.page).workable = true) {k : Nat}
    (hon : ∀ j, j < k → p.onward (pageAfter w.page j)) {e : Searched} (he : e ∈ coverage p w k)
    {a : SleeperRecord} (ha : (p.page (pageAfter w.page k)).last? = some a) :
    e.record.chainage ≤ a.chainage := by
  induction k generalizing a with
  | zero =>
    rw [pageAfter_zero] at ha
    exact (hwhole _ hw).le_last (mem_searchedOf.mp he).2.2 ha
  | succ k ih =>
    have hpage := hwhole _ (workable_of_onward hw hon (le_refl (k + 1)))
    rcases List.mem_append.mp he with hin | hin
    · obtain ⟨-, c, b, hc, hb, hcb⟩ := hon k (Nat.lt_succ_self k)
      rw [← pageAfter_succ] at hb
      have h1 := ih (fun j hj => hon j (by omega)) hin hc
      have h2 := hpage.le_last hb ha
      omega
    · exact hpage.le_last (mem_searchedOf.mp hin).2.2 ha

/-- The covered records rise in nominal chainage, page after page. -/
theorem coverage_rising (hwhole : p.wholePages) (hw : (p.page w.page).workable = true) {k : Nat}
    (hon : ∀ j, j < k → p.onward (pageAfter w.page j)) : Rising (coverage p w k) := by
  induction k with
  | zero => exact searchedOf_rising (hwhole _ hw) _ _
  | succ k ih =>
    have hpage := hwhole _ (workable_of_onward hw hon (le_refl (k + 1)))
    have hon' : ∀ j, j < k → p.onward (pageAfter w.page j) := fun j hj => hon j (by omega)
    refine List.pairwise_append.mpr ⟨ih hon', searchedOf_rising hpage _ _, fun e he f hf => ?_⟩
    obtain ⟨-, c, b, hc, hb, hcb⟩ := hon k (Nat.lt_succ_self k)
    rw [← pageAfter_succ] at hb
    have h1 := coverage_le_last hwhole hw hon' he hc
    have h2 := hpage.chainage_le (Nat.zero_le _) hb (mem_searchedOf.mp hf).2.2
    omega

/-- The last record covered stands in the last page covered. -/
theorem coverage_getLast_page (hwhole : p.wholePages) (hw : (p.page w.page).workable = true) {k : Nat}
    (hon : ∀ j, j < k → p.onward (pageAfter w.page j)) {z : Searched}
    (hz : (coverage p w k).getLast? = some z) : z.pos.page = pageAfter w.page k := by
  cases k with
  | zero =>
    rw [pageAfter_zero]
    exact (mem_searchedOf.mp (List.mem_of_getLast? hz)).1
  | succ k =>
    obtain ⟨a, ha⟩ := (hwhole _ (workable_of_onward hw hon (le_refl (k + 1)))).exists_last?
    have hmem : (⟨⟨pageAfter w.page (k + 1), _⟩, a⟩ : Searched) ∈
        searchedOf (pageAfter w.page (k + 1)) (p.page (pageAfter w.page (k + 1))) 0 :=
      mem_searchedOf.mpr ⟨rfl, Nat.zero_le _, ha⟩
    rw [coverage, List.getLast?_append_of_ne_nil _ (List.ne_nil_of_mem hmem)] at hz
    exact (mem_searchedOf.mp (List.mem_of_getLast? hz)).1

end Coverage

end Sys2Proof.Machine
end

section
/-! PROOFS. What the front search leaves and finds (01 R17, R21). -/

namespace Sys2Proof.Machine

/-- `q` is `p` but for the order-fault flags: clear on the pages after `w` up to the `k`-th, the others as they
were. -/
structure FlagsCleared (p q : PlanStore) (w : Pos) (k : Nat) : Prop where
  workhead : q.workhead = p.workhead
  front : q.front = p.front
  page : ∀ n : Fin 4, q.page n = { p.page n with orderFault := (q.page n).orderFault }
  cleared : ∀ j, 1 ≤ j → j ≤ k → (q.page (pageAfter w.page j)).orderFault = false
  kept : ∀ n : Fin 4, (∀ j, 1 ≤ j → j ≤ k → n ≠ pageAfter w.page j) → (q.page n).orderFault = (p.page n).orderFault

theorem PlanStore.setOrderFault_page (p : PlanStore) (n m : Fin 4) (b : Bool) :
    (p.setOrderFault n b).page m = { p.page m with orderFault := if m = n then b else (p.page m).orderFault } := by
  by_cases h : m = n
  · subst h; simp [PlanStore.setOrderFault]
  · simp [PlanStore.setOrderFault, PlanStore.setPage_page_of_ne _ _ h, h]

theorem FlagsCleared.refl (p : PlanStore) (w : Pos) : FlagsCleared p p w 0 :=
  ⟨rfl, rfl, fun _ => rfl, fun _ h1 h0 => by omega, fun _ _ => rfl⟩

theorem FlagsCleared.next {p q : PlanStore} {w : Pos} {k : Nat} (h : FlagsCleared p q w k) :
    FlagsCleared p (q.setOrderFault (pageAfter w.page (k + 1)) false) w (k + 1) where
  workhead := h.workhead
  front := h.front
  page n := by rw [q.setOrderFault_page, h.page n]
  cleared j h1 hj := by
    rw [q.setOrderFault_page]
    by_cases he : pageAfter w.page j = pageAfter w.page (k + 1)
    · simp [he]
    · have hjk : j ≠ k + 1 := fun h => he (by rw [h])
      simpa [he] using h.cleared j h1 (by omega)
  kept n hn := by
    rw [q.setOrderFault_page]
    simpa [hn (k + 1) (by omega) le_rfl] using h.kept n fun j h1 hj => hn j h1 (by omega)

/-- A store that differs in its order-fault flags goes on where the other does. -/
theorem FlagsCleared.inOrder_eq {p q : PlanStore} {w : Pos} {k : Nat} (h : FlagsCleared p q w k) (n m : Fin 4) :
    inOrder (q.page n) (q.page m) = inOrder (p.page n) (p.page m) := by
  rw [h.page n, h.page m]; rfl

/-- The search ends with no check that failed. -/
theorem FlagsCleared.searched {p q : PlanStore} {w : Pos} {k : Nat} (h : FlagsCleared p q w k) (hk : k ≤ 3)
    (hon : ∀ j, j < k → p.onward (pageAfter w.page j))
    (hstop : k < 3 → ¬((p.page (pageAfter w.page k)).endFlag = false
      ∧ ((p.page (pageAfter w.page k + 1)).state = .ready ∨ (p.page (pageAfter w.page k + 1)).state = .active))) :
    FrontSearched p q w k := by
  simp only [← pageAfter_succ] at hstop
  exact ⟨hk, fun j hj => by have := hon j hj; rwa [PlanStore.onward, ← pageAfter_succ] at this,
    fun hk3 hr => hstop hk3 hr.1, h.workhead, h.front, h.page, h.cleared,
    fun hk3 hr => absurd hr (hstop hk3), fun n hn _ => h.kept n hn⟩

/-- The search ends at a successor that fails the order check. -/
theorem FlagsCleared.searched_fault {p q : PlanStore} {w : Pos} {k : Nat} (h : FlagsCleared p q w k) (hk : k < 3)
    (hon : ∀ j, j < k → p.onward (pageAfter w.page j))
    (hreach : (p.page (pageAfter w.page k)).endFlag = false
      ∧ ((p.page (pageAfter w.page k + 1)).state = .ready ∨ (p.page (pageAfter w.page k + 1)).state = .active))
    (hfail : inOrder (p.page (pageAfter w.page k)) (p.page (pageAfter w.page k + 1)) = false) :
    FrontSearched p (q.setOrderFault (pageAfter w.page k + 1) true) w k := by
  have hne : ∀ j, 1 ≤ j → j ≤ k → pageAfter w.page j ≠ pageAfter w.page (k + 1) := fun j _ hj he => by
    have := pageAfter_inj (by omega) (by omega) he; omega
  rw [← Bool.not_eq_true, inOrder_iff] at hfail
  simp only [← pageAfter_succ] at hreach hfail ⊢
  refine ⟨hk.le, fun j hj => by have := hon j hj; rwa [PlanStore.onward, ← pageAfter_succ] at this,
    fun _ hr => hfail hr.2, h.workhead, h.front, fun n => ?_, fun j h1 hj => ?_, fun _ _ => ?_, fun n hn hk1 => ?_⟩
  · rw [q.setOrderFault_page, h.page n]
  · simpa [q.setOrderFault_page, hne j h1 hj] using h.cleared j h1 hj
  · simp [q.setOrderFault_page]
  · simpa [q.setOrderFault_page, hk1 hk hreach] using h.kept n hn

/-- The search from page `j` on: it covers the pages up to the last one it goes on to, and leaves the flags of its
checks. -/
theorem searchOn_searched {p : PlanStore} {w : Pos} (fuel : Nat) : ∀ (j : Nat) (q : PlanStore), j + fuel = 3 →
    FlagsCleared p q w j → (∀ i, i < j → p.onward (pageAfter w.page i)) →
    ∃ (k : Nat) (t : PlanStore), searchOn fuel (pageAfter w.page j) q (coverage p w j) = (t, coverage p w k)
      ∧ (∀ i, i < k → p.onward (pageAfter w.page i)) ∧ FrontSearched p t w k := by
  induction fuel with
  | zero =>
    intro j q hj hq hon
    exact ⟨j, q, rfl, hon, hq.searched (by omega) hon fun h => by omega⟩
  | succ fuel ih =>
    intro j q hj hq hon
    have hend : (q.page (pageAfter w.page j)).endFlag = (p.page (pageAfter w.page j)).endFlag := by rw [hq.page]
    have hwork : (q.page (pageAfter w.page j + 1)).workable = (p.page (pageAfter w.page j + 1)).workable := by
      rw [hq.page]; rfl
    simp only [searchOn, hend, hwork, hq.inOrder_eq]
    split
    · next he => exact ⟨j, q, rfl, hon, hq.searched (by omega) hon fun _ hr => by simp [hr.1] at he⟩
    · next he =>
      split
      · next hw =>
        have hreach := And.intro (Bool.not_eq_true _ ▸ he) ((Page.workable_iff _).mp hw)
        split
        · next ho =>
          have hsame : searchedOf (pageAfter w.page j + 1) (q.page (pageAfter w.page j + 1)) 0
              = searchedOf (pageAfter w.page j + 1) (p.page (pageAfter w.page j + 1)) 0 := by
            rw [hq.page]; rfl
          rw [hsame, ← pageAfter_succ]
          exact ih (j + 1) _ (by omega) hq.next fun i hi => by
            rcases Nat.lt_succ_iff_lt_or_eq.mp hi with hlt | rfl
            · exact hon i hlt
            · exact ⟨hreach, (inOrder_iff _ _).mp ho⟩
        · next ho =>
          exact ⟨j, _, rfl, hon, hq.searched_fault (by omega) hon hreach (Bool.not_eq_true _ ▸ ho)⟩
      · next hw =>
        exact ⟨j, q, rfl, hon, hq.searched (by omega) hon fun _ hr => hw ((Page.workable_iff _).mpr hr.2)⟩

/-- The whole search of a front computation. -/
theorem searchOn_workhead (p : PlanStore) (w : Pos) :
    ∃ (k : Nat) (q : PlanStore), searchOn 3 w.page p (searchedOf w.page (p.page w.page) w.index) = (q, coverage p w k)
      ∧ (∀ i, i < k → p.onward (pageAfter w.page i)) ∧ FrontSearched p q w k := by
  have h := searchOn_searched 3 0 p rfl (.refl p w) fun _ hi => by omega
  rwa [pageAfter_zero] at h

end Sys2Proof.Machine
end

section
/-! PROOFS. The front computation and the crossing (01 R17 to R22). -/

namespace Sys2Proof.Machine

/-! ## The front pointer moved (01 R2, R18) -/

theorem Page.entered_eq (p : Page) : p.entered = { p with state := if p.state = .ready then .active else p.state } := by
  unfold Page.entered; split <;> rfl

theorem Page.returned_eq (p : Page) :
    p.returned = { p with state := if p.state = .active then .ready else p.state } := by
  unfold Page.returned; split <;> rfl

theorem PlanStore.setPage_page (p : PlanStore) (n m : Fin 4) (x : Page) :
    (p.setPage n x).page m = if m = n then x else p.page m := by
  split
  · next h => rw [h]; exact p.setPage_page_self n x
  · next h => exact p.setPage_page_of_ne x h

/-- The store once the front pointer has left `f` for `pos`, and not yet entered there (01 R2). -/
def PlanStore.leaveFront (q : PlanStore) (f pos : Pos) : PlanStore :=
  if f.page ≠ pos.page ∧ q.workhead.map Pos.page ≠ some f.page then q.setPage f.page (q.page f.page).returned else q

theorem leaveFront_page (q : PlanStore) (f pos : Pos) (n : Fin 4) (hn : n ≠ pos.page) :
    (q.leaveFront f pos).page n
    = { q.page n with state :=
        if (some f).map Pos.page = some n ∧ q.workhead.map Pos.page ≠ some n ∧ (q.page n).state = .active then .ready
        else (q.page n).state } := by
  unfold PlanStore.leaveFront
  by_cases hnf : n = f.page
  · subst hnf
    by_cases hw : q.workhead.map Pos.page = some f.page <;> simp only [hn, hw, ne_eq, not_true_eq_false,
      not_false_eq_true, and_false, and_true, true_and, false_and, if_true, if_false, PlanStore.setPage_page_self,
      Page.returned_eq, Option.map_some]
  · have hother : ¬((some f).map Pos.page = some n ∧ q.workhead.map Pos.page ≠ some n
        ∧ (q.page n).state = .active) := fun h => hnf (Option.some.inj h.1).symm
    rw [if_neg hother]
    split
    · exact q.setPage_page_of_ne _ hnf
    · rfl

/-- The page the front pointer goes to is not touched before it enters. -/
theorem leaveFront_page_entered (q : PlanStore) (f pos : Pos) :
    (q.leaveFront f pos).page pos.page = q.page pos.page := by
  unfold PlanStore.leaveFront
  split
  · next h => exact q.setPage_page_of_ne _ (Ne.symm h.1)
  · rfl

theorem moveFront_moved (q : PlanStore) (pos : Pos) : FrontMoved q (q.moveFront pos) pos := by
  refine ⟨rfl, q.moveFront_workhead pos, fun n => ?_⟩
  unfold PlanStore.moveFront
  show (PlanStore.setPage _ pos.page _).page n = _
  rw [PlanStore.setPage_page]
  by_cases hn : n = pos.page
  · subst hn
    simp only [if_true]
    cases hf : q.front with
    | none => exact Page.entered_eq _
    | some f =>
      show ((q.leaveFront f pos).page pos.page).entered = _
      rw [leaveFront_page_entered, Page.entered_eq]
  · simp only [hn, if_false]
    cases hf : q.front with
    | none => simp
    | some f => exact leaveFront_page q f pos n hn

/-! ## The three outcomes (01 R18, R19, R22) -/

section Outcomes

variable {p q : PlanStore} {w : Pos} {r : SleeperRecord} {c : Int} {found : List Searched} {z : Searched}

theorem computeFront_bracketed (hw : p.workhead = some w) (hr : p.at? w = some r)
    (hs : searchOn 3 w.page p (searchedOf w.page (p.page w.page) w.index) = (q, found))
    (hz : found.getLast? = some z) (hF : r.chainage + c ≤ z.record.chainage) {e : Searched}
    (he : (found.filter fun e => decide (e.record.chainage ≤ r.chainage + c)).getLast? = some e) :
    p.computeFront c = (q.moveFront e.pos, ⟨.bracketed, e.record.eF.getD 0, e.record.eFv.getD 0⟩) := by
  simp [PlanStore.computeFront, hw, hr, hs, hz, hF, he]

theorem computeFront_beyondEnd (hw : p.workhead = some w) (hr : p.at? w = some r)
    (hs : searchOn 3 w.page p (searchedOf w.page (p.page w.page) w.index) = (q, found))
    (hz : found.getLast? = some z) (hF : z.record.chainage < r.chainage + c)
    (hend : (q.page z.pos.page).endFlag = true) :
    p.computeFront c = (q.moveFront z.pos, ⟨.beyondEnd, 0, 0⟩) := by
  simp [PlanStore.computeFront, hw, hr, hs, hz, Int.not_le.mpr hF, hend]

theorem computeFront_held (hw : p.workhead = some w) (hr : p.at? w = some r)
    (hs : searchOn 3 w.page p (searchedOf w.page (p.page w.page) w.index) = (q, found))
    (hz : found.getLast? = some z) (hF : z.record.chainage < r.chainage + c)
    (hend : (q.page z.pos.page).endFlag = false) :
    p.computeFront c = (q.moveFront (q.heldFront w r), ⟨.held, 0, 0⟩) := by
  simp [PlanStore.computeFront, hw, hr, hs, hz, Int.not_le.mpr hF, hend]

end Outcomes

theorem heldFront_none {q : PlanStore} (w : Pos) (r : SleeperRecord) (h : q.front = none) : q.heldFront w r = w := by
  simp [PlanStore.heldFront, h]

theorem heldFront_some {q : PlanStore} {w g : Pos} {r y : SleeperRecord} (h : q.front = some g)
    (hy : q.at? g = some y) : q.heldFront w r = if y.chainage < r.chainage then w else g := by
  simp [PlanStore.heldFront, h, hy]

/-- A store that differs in its order-fault flags holds the same records. -/
theorem searched_at? {p q : PlanStore} {w : Pos} {k : Nat} (h : FrontSearched p q w k) (pos : Pos) :
    q.at? pos = p.at? pos := by
  obtain ⟨-, -, -, -, -, hpage, -⟩ := h
  rw [PlanStore.at?, hpage]; rfl

/-- The front computation of a store whose READY and ACTIVE pages are whole. -/
theorem computeFront_computed {p : PlanStore} {w : Pos} {r : SleeperRecord} {c : Int} (hw : p.workhead = some w)
    (hr : p.at? w = some r) (hact : (p.page w.page).workable = true) (hwhole : p.wholePages) (hc : 0 ≤ c) :
    FrontComputed p w r c := by
  obtain ⟨k, q, hs, hon, hq⟩ := searchOn_workhead p w
  have hrise := coverage_rising hwhole hact hon
  have hself : (⟨w, r⟩ : Searched) ∈ coverage p w k := mem_coverage.mpr ⟨hr, .inl ⟨rfl, le_rfl⟩⟩
  obtain ⟨z, hz⟩ := Option.ne_none_iff_exists'.mp (mt List.getLast?_eq_none_iff.mp (List.ne_nil_of_mem hself))
  obtain ⟨hzat, hzcov⟩ := mem_coverage.mp (List.mem_of_getLast? hz)
  obtain ⟨-, -, -, -, hqf, hqpage, -⟩ := id hq
  have hend : (q.page z.pos.page).endFlag = (p.page z.pos.page).endFlag := by rw [hqpage]
  refine ⟨q, k, z.pos, z.record, hq, ⟨hzat, hzcov⟩, coverage_getLast_page hwhole hact hon hz,
    fun pos x hx => hrise.le_getLast hz (e := ⟨pos, x⟩) (mem_coverage.mpr hx), fun hF => ?_, fun hF he => ?_,
    fun hF he => ?_⟩
  · have hin : (⟨w, r⟩ : Searched) ∈ (coverage p w k).filter fun e => decide (e.record.chainage ≤ r.chainage + c) := by
      simpa [hself] using hc
    obtain ⟨e, he⟩ := Option.ne_none_iff_exists'.mp (mt List.getLast?_eq_none_iff.mp (List.ne_nil_of_mem hin))
    obtain ⟨hmem, hle⟩ := List.mem_filter.mp (List.mem_of_getLast? he)
    rw [computeFront_bracketed hw hr hs hz hF he]
    refine ⟨e.pos, e.record, mem_coverage.mp hmem, by simpa using hle, fun pos x hx hxF => ?_, rfl, moveFront_moved _ _⟩
    exact Rising.le_getLast (hrise.filter _) he (e := ⟨pos, x⟩)
      (List.mem_filter.mpr ⟨mem_coverage.mpr hx, by simpa using hxF⟩)
  · rw [computeFront_beyondEnd hw hr hs hz hF (hend.trans he)]
    exact ⟨rfl, moveFront_moved _ _⟩
  · rw [computeFront_held hw hr hs hz hF (hend.trans he)]
    refine ⟨rfl, fun hn => ?_, fun g y hg hy => ?_⟩
    · rw [heldFront_none w r (hqf.trans hn)]; exact moveFront_moved _ _
    · rw [heldFront_some (hqf.trans hg) ((searched_at? hq g).trans hy)]; exact moveFront_moved _ _

/-! ## The crossing (01 R20) -/

section Crossing

variable {p : PlanStore} {w : Pos} {c : Int}

theorem succ_page_ne (n : Fin 4) : n + 1 ≠ n := by fin_cases n <;> decide

/-- The store in which the workhead has crossed to record 0 of the page after `w`, before the front is computed. -/
def PlanStore.crossed (p : PlanStore) (w : Pos) : PlanStore :=
  { p.setPage (w.page + 1) (p.page (w.page + 1)).entered with workhead := some ⟨w.page + 1, 0⟩ }

/-- A crossing taken (01 R20): the front computed from the new place, the page left emptied. -/
theorem cross_taken (hwork : (p.page (w.page + 1)).workable = true)
    (hord : inOrder (p.page w.page) (p.page (w.page + 1)) = true) :
    p.cross w c = ((((p.crossed w).computeFront c).1.setPage w.page .cleared).setOrderFault (w.page + 1) false, true) := by
  simp [PlanStore.cross, hwork, hord, PlanStore.crossed]

theorem cross_refused (hwork : (p.page (w.page + 1)).workable = true)
    (hord : inOrder (p.page w.page) (p.page (w.page + 1)) = false) :
    p.cross w c = (p.setOrderFault (w.page + 1) true, false) := by
  simp [PlanStore.cross, hwork, hord]

theorem cross_needs_page (hwork : (p.page (w.page + 1)).workable = false) : p.cross w c = (p, false) := by
  simp [PlanStore.cross, hwork]

/-- All that a crossing can do. -/
theorem cross_cases (p : PlanStore) (w : Pos) (c : Int) :
    ((p.page (w.page + 1)).workable = true ∧ inOrder (p.page w.page) (p.page (w.page + 1)) = true
        ∧ p.cross w c
          = ((((p.crossed w).computeFront c).1.setPage w.page .cleared).setOrderFault (w.page + 1) false, true))
      ∨ p.cross w c = (p.setOrderFault (w.page + 1) true, false) ∨ p.cross w c = (p, false) := by
  cases hwork : (p.page (w.page + 1)).workable with
  | false => exact .inr (.inr (cross_needs_page hwork))
  | true =>
    cases hord : inOrder (p.page w.page) (p.page (w.page + 1)) with
    | false => exact .inr (.inl (cross_refused hwork hord))
    | true => exact .inl ⟨rfl, rfl, cross_taken hwork hord⟩

theorem Page.entered_of_workable {x : Page} (h : x.workable = true) : x.entered = { x with state := .active } := by
  rw [Page.entered_eq]
  rcases x.workable_iff.mp h with hs | hs <;> simp [hs]

/-- The pages of a store whose workhead has crossed. -/
theorem crossed_page (hwork : (p.page (w.page + 1)).workable = true) (n : Fin 4) :
    (p.crossed w).page n = if n = w.page + 1 then { p.page n with state := .active } else p.page n := by
  show (p.setPage (w.page + 1) (p.page (w.page + 1)).entered).page n = _
  rw [PlanStore.setPage_page, Page.entered_of_workable hwork]
  split
  · next h => rw [h]
  · rfl

theorem cross_taken_pages (hwork : (p.page (w.page + 1)).workable = true)
    (hord : inOrder (p.page w.page) (p.page (w.page + 1)) = true) :
    (p.cross w c).1.workhead = some ⟨w.page + 1, 0⟩ ∧ ((p.cross w c).1.page w.page).state = .empty
      ∧ ((p.cross w c).1.page (w.page + 1)).orderFault = false
      ∧ ((p.cross w c).1.page (w.page + 1)).state = .active
      ∧ (p.cross w c).1.front = ((p.crossed w).computeFront c).1.front := by
  have hact : ((p.crossed w).page (w.page + 1)).state = .active := by simp [crossed_page hwork]
  rw [cross_taken hwork hord]
  refine ⟨((p.crossed w).computeFront_keeps c).2, ?_, ?_, ?_, rfl⟩
  · simp [PlanStore.setOrderFault_page, Page.cleared]
  · simp [PlanStore.setOrderFault_page]
  · simpa [PlanStore.setOrderFault_page, PlanStore.setPage_page, succ_page_ne] using
      (p.crossed w).computeFront_active c ⟨w.page + 1, 0⟩ rfl hact

end Crossing

/-- Settles O17: the front computation by the records its search covers, the crossing by its two checks. -/
theorem crossingTakenOrRefused : Obligations.CrossingTakenOrRefused := by
  refine ⟨fun p w r c hw hr hact hwhole hc =>
    computeFront_computed hw hr ((Page.workable_iff _).mpr (.inr hact)) hwhole hc, fun p w c a b _ ha hb => ?_⟩
  have hord := inOrder_eq_decide ha hb
  refine ⟨fun hst hab => ?_, fun hst hab => ?_, fun hst => ?_⟩
  · have hwork := (Page.workable_iff _).mpr hst
    have hord' : inOrder (p.page w.page) (p.page (w.page + 1)) = true := by simpa [hord] using hab
    obtain ⟨h1, h2, h3, h4, h5⟩ := cross_taken_pages (c := c) hwork hord'
    refine ⟨by rw [cross_taken hwork hord'], h1, h2, h3, h4, ?_⟩
    rw [← Page.entered_of_workable hwork]
    exact h5
  · exact cross_refused ((Page.workable_iff _).mpr hst) (by simpa [hord] using hab)
  · exact cross_needs_page (by rcases hst with h | h <;> simp [Page.workable, h])

end Sys2Proof.Machine
end

section
/-! PROOFS. The law of the plan store (01 R2, R7, R17, R25), kept by every operation on the store. -/

namespace Sys2Proof.Machine

/-- What the law of the plan says of the store alone. -/
structure PlanStore.Lawful (p : PlanStore) : Prop where
  active : ∀ n : Fin 4, (p.page n).state = .active ↔
    p.workhead.map Pos.page = some n ∨ p.front.map Pos.page = some n
  whole : p.wholePages
  frontNone : p.workhead = none → p.front = none
  pointers : ∀ w : Pos, p.workhead = some w →
    ∃ (f : Pos) (x y : SleeperRecord), p.front = some f ∧ p.at? w = some x ∧ p.at? f = some y
      ∧ x.chainage ≤ y.chainage

theorem State.planLaw_iff (s : State) :
    s.planLaw ↔ s.plan.Lawful ∧ (s.plan.workhead = none ↔ s.seq.state = .idle ∨ s.seq.state = .ended) :=
  ⟨fun ⟨ha, hw, hr, hf, hp⟩ => ⟨⟨ha, hw, hf, hp⟩, hr⟩, fun ⟨⟨ha, hw, hf, hp⟩, hr⟩ => ⟨ha, hw, hr, hf, hp⟩⟩

/-! ## Stores that differ little -/

/-- Stores with the same pointers, page states and records keep the law alike. -/
theorem PlanStore.Lawful.congr {p q : PlanStore} (h : p.Lawful) (hw : q.workhead = p.workhead)
    (hf : q.front = p.front) (hs : ∀ n, (q.page n).state = (p.page n).state)
    (hr : ∀ n, (q.page n).records = (p.page n).records) : q.Lawful where
  active n := by rw [hw, hf, hs]; exact h.active n
  whole n hn := by
    rw [Page.workable, hs] at hn
    exact (Page.whole_congr (hr n)).mpr (h.whole n hn)
  frontNone := by rw [hw, hf]; exact h.frontNone
  pointers := by
    have hat : ∀ pos, q.at? pos = p.at? pos := fun pos => Page.at?_congr (hr _) _
    simp only [hw, hf, hat]; exact h.pointers

theorem PlanStore.Lawful.setOrderFault {p : PlanStore} (h : p.Lawful) (n : Fin 4) (b : Bool) :
    (p.setOrderFault n b).Lawful :=
  h.congr rfl rfl (p.setOrderFault_state n · b) fun m => (p.sameRecords_orderFault n b m).1

/-- A page without a pointer changed to one without. -/
theorem PlanStore.Lawful.setPage {p : PlanStore} (h : p.Lawful) {n : Fin 4} {x : Page}
    (hn : (p.page n).state ≠ .active) (hx : x.state ≠ .active) (hwhole : x.workable = true → x.whole) :
    (p.setPage n x).Lawful where
  active m := by
    rw [PlanStore.setPage_page]
    split
    · next hm =>
      subst hm
      exact iff_of_false hx fun hp => hn ((h.active m).mpr hp)
    · exact h.active m
  whole m hm := by
    rw [PlanStore.setPage_page] at hm ⊢
    split at hm <;> simp_all
    exact h.whole m hm
  frontNone := h.frontNone
  pointers w hw := by
    rw [PlanStore.setPage_workhead] at hw
    obtain ⟨f, y, z, hf, hy, hz, hle⟩ := h.pointers w hw
    have hkept : ∀ pos : Pos, (p.workhead.map Pos.page = some pos.page ∨ p.front.map Pos.page = some pos.page) →
        (p.setPage n x).at? pos = p.at? pos := fun pos hpos => by
      rw [PlanStore.at?, PlanStore.setPage_page_of_ne, PlanStore.at?]
      rintro rfl
      exact hn ((h.active _).mpr hpos)
    exact ⟨f, y, z, hf, (hkept w (.inl (by rw [hw]; rfl))).trans hy, (hkept f (.inr (by rw [hf]; rfl))).trans hz, hle⟩

theorem PlanStore.Lawful.of_no_pointer {p : PlanStore} (hw : p.workhead = none) (hf : p.front = none)
    (ha : ∀ n, (p.page n).state ≠ .active) (hwhole : p.wholePages) : p.Lawful where
  active n := iff_of_false (ha n) (by simp [hw, hf])
  whole := hwhole
  frontNone _ := hf
  pointers w h := by rw [hw] at h; cases h

theorem PlanStore.cleared_lawful : PlanStore.cleared.Lawful := by
  have hpage : ∀ n, PlanStore.cleared.page n = .cleared := fun n => by simp [PlanStore.cleared, PlanStore.page]
  refine PlanStore.Lawful.of_no_pointer rfl rfl (fun n => ?_) fun n hn => ?_
  · rw [hpage]; decide
  · rw [hpage] at hn; cases hn

/-- With no workhead no page is ACTIVE. -/
theorem PlanStore.Lawful.not_active {p : PlanStore} (h : p.Lawful) (hw : p.workhead = none) (n : Fin 4) :
    (p.page n).state ≠ .active := fun ha => by
  have hf := h.frontNone hw
  simpa [hw, hf] using (h.active n).mp ha

/-! ## The front computation -/

/-- The workhead stands on record `r` in an ACTIVE page, and a front pointer, if any, on a record of an ACTIVE page: the
store from which a front is computed. -/
structure PlanStore.Seated (p : PlanStore) (w : Pos) (r : SleeperRecord) : Prop where
  workhead : p.workhead = some w
  record : p.at? w = some r
  active : (p.page w.page).state = .active
  whole : p.wholePages
  front : ∀ g : Pos, p.front = some g → (∃ y, p.at? g = some y) ∧ (p.page g.page).state = .active

theorem PlanStore.Lawful.seated {p : PlanStore} (h : p.Lawful) {w : Pos} (hw : p.workhead = some w) :
    ∃ r, p.Seated w r := by
  obtain ⟨f, x, y, hf, hx, hy, -⟩ := h.pointers w hw
  refine ⟨x, hw, hx, (h.active _).mpr (.inl (by rw [hw]; rfl)), h.whole, fun g hg => ?_⟩
  cases hf.symm.trans hg
  exact ⟨⟨y, hy⟩, (h.active _).mpr (.inr (by rw [hf]; rfl))⟩

/-- `t` is the store `p` with the front pointer placed at `pos`, on a record not behind the workhead record `r`. -/
structure FrontPlaced (p t : PlanStore) (r : SleeperRecord) (pos : Pos) (x : SleeperRecord) : Prop where
  front : t.front = some pos
  workhead : t.workhead = p.workhead
  record : p.at? pos = some x
  workable : (p.page pos.page).workable = true
  notBehind : r.chainage ≤ x.chainage
  records : ∀ n, (t.page n).records = (p.page n).records
  state : ∀ n, (t.page n).state =
    if n = pos.page then .active
    else if p.front.map Pos.page = some n ∧ p.workhead.map Pos.page ≠ some n ∧ (p.page n).state = .active then .ready
    else (p.page n).state

/-- A front pointer moved in the searched store is placed in the store itself. -/
theorem FrontPlaced.of_moved {p q t : PlanStore} {w pos : Pos} {r x : SleeperRecord} {k : Nat}
    (hq : FrontSearched p q w k) (ht : FrontMoved q t pos) (hx : p.at? pos = some x)
    (hwork : (p.page pos.page).workable = true) (hle : r.chainage ≤ x.chainage) : FrontPlaced p t r pos x := by
  obtain ⟨-, -, -, hqw, hqf, hqpage, -⟩ := hq
  obtain ⟨htf, htw, htpage⟩ := ht
  refine ⟨htf, htw.trans hqw, hx, hwork, hle, fun n => by rw [htpage, hqpage], fun n => ?_⟩
  rw [htpage, hqpage, hqw, hqf]
  by_cases hn : n = pos.page
  · subst hn
    rcases (Page.workable_iff _).mp hwork with hs | hs <;> simp [hs]
  · simp [hn]

/-- Where a front computation places the pointer (01 R17 to R19). -/
theorem PlanStore.Seated.placed {p : PlanStore} {w : Pos} {r : SleeperRecord} {c : Int} (h : p.Seated w r)
    (hc : 0 ≤ c) : ∃ pos x, FrontPlaced p (p.computeFront c).1 r pos x := by
  have hwork := (Page.workable_iff _).mpr (.inr h.active)
  obtain ⟨q, k, last, z, hq, hlast, -, hmax, hbracketed, hbeyond, hheld⟩ :=
    computeFront_computed h.workhead h.record hwork h.whole hc
  obtain ⟨-, hon, -⟩ := id hq
  have hcovered : ∀ {pos : Pos}, Covers w k pos → (p.page pos.page).workable = true := fun hcov =>
    workable_of_covers hwork (fun j hj => by have := hon j hj; rwa [PlanStore.onward, ← pageAfter_succ]) hcov
  have hself : Covers w k w := .inl ⟨rfl, le_rfl⟩
  rcases lt_or_ge z.chainage (r.chainage + c) with hF | hF
  · cases he : (p.page last.page).endFlag with
    | true => exact ⟨last, z, .of_moved hq (hbeyond hF he).2 hlast.1 (hcovered hlast.2) (hmax w r ⟨h.record, hself⟩)⟩
    | false =>
      obtain ⟨-, hnone, hsome⟩ := hheld hF he
      cases hf : p.front with
      | none => exact ⟨w, r, .of_moved hq (hnone hf) h.record hwork le_rfl⟩
      | some g =>
        obtain ⟨⟨y, hy⟩, hg⟩ := h.front g hf
        have hmoved := hsome g y hf hy
        by_cases hlt : y.chainage < r.chainage
        · rw [if_pos hlt] at hmoved
          exact ⟨w, r, .of_moved hq hmoved h.record hwork le_rfl⟩
        · rw [if_neg hlt] at hmoved
          exact ⟨g, y, .of_moved hq hmoved hy ((Page.workable_iff _).mpr (.inr hg)) (by omega)⟩
  · obtain ⟨pos, x, hpos, -, hgreatest, -, hmoved⟩ := hbracketed hF
    exact ⟨pos, x, .of_moved hq hmoved hpos.1 (hcovered hpos.2)
      (hgreatest w r ⟨h.record, hself⟩ (by omega))⟩

section Placed

variable {p t : PlanStore} {w pos : Pos} {r x : SleeperRecord}

/-- Where a page was ACTIVE exactly with a pointer, it is so with the front pointer placed. -/
theorem FrontPlaced.active_iff (ht : FrontPlaced p t r pos x) {n : Fin 4}
    (hn : (p.page n).state = .active ↔ p.workhead.map Pos.page = some n ∨ p.front.map Pos.page = some n) :
    (t.page n).state = .active ↔ t.workhead.map Pos.page = some n ∨ t.front.map Pos.page = some n := by
  rw [ht.state, ht.workhead, ht.front]
  by_cases hpos : n = pos.page
  · simp [hpos]
  · by_cases hw : p.workhead.map Pos.page = some n
    · simp [hpos, hw, hn]
    · by_cases hf : p.front.map Pos.page = some n
      · have hact := hn.mpr (.inr hf)
        simp [hpos, hw, hf, hact, Ne.symm hpos]
      · have hact := mt hn.mp (not_or.mpr ⟨hw, hf⟩)
        simp [hpos, hw, hf, hact, Ne.symm hpos]

theorem FrontPlaced.wholePages (ht : FrontPlaced p t r pos x) (hp : p.wholePages) : t.wholePages := fun n hn => by
  refine (Page.whole_congr (ht.records n)).mpr (hp n ?_)
  by_cases he : n = pos.page
  · rw [he]; exact ht.workable
  · rw [Page.workable_iff, ht.state, if_neg he] at hn
    rw [Page.workable_iff]
    split at hn
    · next hleft => exact .inr hleft.2.2
    · exact hn

/-- Such a store reads like the one it came from. -/
theorem FrontPlaced.at? (ht : FrontPlaced p t r pos x) (a : Pos) : t.at? a = p.at? a :=
  Page.at?_congr (ht.records _) _

end Placed

/-- A front computation makes a store lawful in which a page is ACTIVE exactly with a pointer. -/
theorem PlanStore.Seated.computeFront_lawful {p : PlanStore} {w : Pos} {r : SleeperRecord} {c : Int}
    (h : p.Seated w r) (hc : 0 ≤ c)
    (ha : ∀ n, (p.page n).state = .active ↔ p.workhead.map Pos.page = some n ∨ p.front.map Pos.page = some n) :
    (p.computeFront c).1.Lawful := by
  obtain ⟨pos, x, ht⟩ := h.placed hc
  refine ⟨fun n => ht.active_iff (ha n), ht.wholePages h.whole, fun hw => ?_, fun w' hw' => ?_⟩
  · rw [ht.workhead, h.workhead] at hw; cases hw
  · rw [ht.workhead, h.workhead] at hw'
    cases hw'
    exact ⟨pos, r, x, ht.front, (ht.at? w).trans h.record, (ht.at? pos).trans ht.record, ht.notBehind⟩

theorem PlanStore.Lawful.computeFront {p : PlanStore} (h : p.Lawful) {c : Int} (hc : 0 ≤ c) :
    (p.computeFront c).1.Lawful := by
  cases hw : p.workhead with
  | none => simpa [PlanStore.computeFront, hw] using h
  | some w =>
    obtain ⟨r, hseat⟩ := h.seated hw
    exact hseat.computeFront_lawful hc h.active

/-! ## The run begins, goes on and ends (01 R14, R15, R20, R25) -/

/-- A store in which page `m` has been entered: it is ACTIVE, the other pages keep their states, and every page its
records. -/
structure PageEntered (p q : PlanStore) (m : Fin 4) : Prop where
  workable : (p.page m).workable = true
  records : ∀ n, (q.page n).records = (p.page n).records
  state : ∀ n, (q.page n).state = if n = m then .active else (p.page n).state

theorem PageEntered.wholePages {p q : PlanStore} {m : Fin 4} (h : PageEntered p q m) (hp : p.wholePages) :
    q.wholePages := fun n hn => by
  refine (Page.whole_congr (h.records n)).mpr (hp n ?_)
  rw [Page.workable_iff, h.state] at hn
  by_cases he : n = m
  · rw [he]; exact h.workable
  · rw [Page.workable_iff]; simpa [he] using hn

theorem PageEntered.at? {p q : PlanStore} {m : Fin 4} (h : PageEntered p q m) (pos : Pos) : q.at? pos = p.at? pos :=
  Page.at?_congr (h.records _) _

/-- The store in which a run begins, before the front is computed. -/
def PlanStore.begun (p : PlanStore) (pos : Pos) : PlanStore :=
  let cleared : PlanStore := { p with pages := p.pages.map Page.faultCleared }
  { cleared.setPage pos.page (cleared.page pos.page).entered with workhead := some pos, front := none }

theorem startRun_eq (p : PlanStore) (pos : Pos) (c : Int) : p.startRun pos c = ((p.begun pos).computeFront c).1 := rfl

theorem begun_entered {p : PlanStore} {pos : Pos} (hpos : (p.page pos.page).workable = true) :
    PageEntered p (p.begun pos) pos.page := by
  have hcleared : ∀ n, PlanStore.page { p with pages := p.pages.map Page.faultCleared } n = (p.page n).faultCleared :=
    fun n => by simp [PlanStore.page]
  have hpage : ∀ n, (p.begun pos).page n = if n = pos.page then { (p.page n).faultCleared with state := .active }
      else (p.page n).faultCleared := fun n => by
    show (PlanStore.setPage _ pos.page _).page n = _
    rw [PlanStore.setPage_page, hcleared, hcleared, Page.entered_of_workable (by exact hpos)]
    split
    · next hn => rw [hn]
    · rfl
  exact ⟨hpos, fun n => by rw [hpage]; split <;> rfl, fun n => by rw [hpage]; split <;> rfl⟩

/-- The start of a run from a store without pointers. -/
theorem PlanStore.Lawful.startRun {p : PlanStore} (h : p.Lawful) (hw : p.workhead = none) {pos : Pos}
    {r : SleeperRecord} (hpos : (p.page pos.page).state = .ready) (hr : (p.page pos.page).at? pos.index = some r)
    {c : Int} (hc : 0 ≤ c) : (p.startRun pos c).Lawful ∧ (p.startRun pos c).workhead = some pos := by
  have hent := begun_entered ((Page.workable_iff _).mpr (.inl hpos))
  have hseat : (p.begun pos).Seated pos r :=
    ⟨rfl, (hent.at? pos).trans hr, by rw [hent.state, if_pos rfl], hent.wholePages h.whole, fun g hg => by cases hg⟩
  rw [startRun_eq]
  refine ⟨hseat.computeFront_lawful hc fun n => ?_, (PlanStore.computeFront_keeps _ c).2⟩
  rw [hent.state]
  by_cases he : n = pos.page
  · simp [he, PlanStore.begun]
  · simp [he, h.not_active hw n, Ne.symm he, PlanStore.begun]

section Cross

variable {p : PlanStore} {w : Pos}

theorem crossed_entered (hwork : (p.page (w.page + 1)).workable = true) : PageEntered p (p.crossed w) (w.page + 1) :=
  ⟨hwork, fun n => by rw [crossed_page hwork]; split <;> rfl, fun n => by rw [crossed_page hwork]; split <;> rfl⟩

theorem PlanStore.Lawful.crossed_seated (h : p.Lawful) (hw : p.workhead = some w)
    (hwork : (p.page (w.page + 1)).workable = true) {b : SleeperRecord} (hb : (p.page (w.page + 1)).at? 0 = some b) :
    (p.crossed w).Seated ⟨w.page + 1, 0⟩ b := by
  have hent := crossed_entered hwork
  obtain ⟨r, hseated⟩ := h.seated hw
  refine ⟨rfl, (hent.at? _).trans hb, by rw [hent.state, if_pos rfl], hent.wholePages h.whole, fun g hg => ?_⟩
  obtain ⟨⟨y, hy⟩, hg⟩ := hseated.front g hg
  refine ⟨⟨y, (hent.at? g).trans hy⟩, ?_⟩
  rw [hent.state, hg]; exact ite_self _

/-- The front pointer does not stay in the page that the crossing leaves: every record there lies before record 0 of
the page entered (01 R20, R21). -/
theorem FrontPlaced.page_ne_left {t : PlanStore} {pos : Pos} {a b x : SleeperRecord}
    (ht : FrontPlaced (p.crossed w) t b pos x) (hwork : (p.page (w.page + 1)).workable = true)
    (hleft : (p.page w.page).whole) (ha : (p.page w.page).last? = some a) (hab : a.chainage < b.chainage) :
    pos.page ≠ w.page := fun he => by
  have hx : (p.page w.page).at? pos.index = some x := by
    rw [← he]; exact ((crossed_entered hwork).at? pos).symm.trans ht.record
  have hle := hleft.le_last hx ha
  have hnot := ht.notBehind
  omega

/-- The store after a crossing, the page left emptied. -/
theorem PlanStore.Lawful.left_emptied {t : PlanStore} {pos : Pos} {b x : SleeperRecord} (h : p.Lawful)
    (hw : p.workhead = some w) (hwork : (p.page (w.page + 1)).workable = true)
    (hseat : (p.crossed w).Seated ⟨w.page + 1, 0⟩ b) (ht : FrontPlaced (p.crossed w) t b pos x)
    (hleft : pos.page ≠ w.page) : (t.setPage w.page .cleared).Lawful := by
  have hworkhead : t.workhead = some ⟨w.page + 1, 0⟩ := ht.workhead
  have hkept : ∀ a : Pos, a.page ≠ w.page → (t.setPage w.page .cleared).at? a = (p.crossed w).at? a :=
    fun a hne => by rw [PlanStore.at?, PlanStore.setPage_page_of_ne _ _ hne]; exact ht.at? a
  refine ⟨fun n => ?_, fun n hn => ?_, fun hn => ?_, fun w' hw' => ?_⟩
  · rw [PlanStore.setPage_page, PlanStore.setPage_workhead, PlanStore.setPage_front]
    by_cases hn : n = w.page
    · rw [hn, if_pos rfl, hworkhead, ht.front]
      simp [Page.cleared, hleft]
    · rw [if_neg hn]
      apply ht.active_iff
      rw [(crossed_entered hwork).state]
      by_cases he : n = w.page + 1
      · simp [he, PlanStore.crossed]
      · rw [if_neg he, h.active, hw]
        simp [PlanStore.crossed, Ne.symm hn, Ne.symm he]
  · rw [PlanStore.setPage_page] at hn ⊢
    split at hn
    · cases hn
    · next hne => rw [if_neg hne]; exact ht.wholePages hseat.whole n hn
  · rw [PlanStore.setPage_workhead, hworkhead] at hn; cases hn
  · rw [PlanStore.setPage_workhead, hworkhead] at hw'
    cases hw'
    exact ⟨pos, b, x, ht.front, (hkept _ (succ_page_ne _)).trans hseat.record, (hkept _ hleft).trans ht.record,
      ht.notBehind⟩

/-- A crossing, taken or refused. -/
theorem PlanStore.Lawful.cross (h : p.Lawful) (hw : p.workhead = some w) {c : Int} (hc : 0 ≤ c) :
    (p.cross w c).1.Lawful ∧ (p.cross w c).1.workhead ≠ none := by
  rcases cross_cases p w c with ⟨hwork, hord, htaken⟩ | href | href
  · obtain ⟨a, b, ha, hb, hab⟩ := (inOrder_iff _ _).mp hord
    have hseat := h.crossed_seated hw hwork hb
    have hwhole := h.whole w.page ((Page.workable_iff _).mpr (.inr ((h.active _).mpr (.inl (by rw [hw]; rfl)))))
    obtain ⟨pos, x, ht⟩ := hseat.placed hc
    rw [htaken]
    exact ⟨(h.left_emptied hw hwork hseat ht (ht.page_ne_left hwork hwhole ha hab)).setOrderFault _ _,
      by rw [PlanStore.setOrderFault_workhead, PlanStore.setPage_workhead, ht.workhead]; simp [PlanStore.crossed]⟩
  · rw [href]; exact ⟨h.setOrderFault _ _, by simp [hw]⟩
  · rw [href]; exact ⟨h, by simp [hw]⟩

end Cross

/-- The advance of the workhead, taken or refused. -/
theorem PlanStore.Lawful.advance {p : PlanStore} (h : p.Lawful) (hw : p.workhead ≠ none) {c : Int} (hc : 0 ≤ c) :
    (p.advance c).1.Lawful ∧ (p.advance c).1.workhead ≠ none := by
  obtain ⟨w, hw⟩ := Option.ne_none_iff_exists'.mp hw
  obtain ⟨r, hseat⟩ := h.seated hw
  simp only [PlanStore.advance, hw]
  split
  · next hnext =>
    obtain ⟨x, hx⟩ := (h.whole w.page ((Page.workable_iff _).mpr (.inr hseat.active))).exists_at? hnext
    refine ⟨PlanStore.Seated.computeFront_lawful ⟨rfl, hx, hseat.active, hseat.whole, hseat.front⟩ hc fun n => ?_, ?_⟩
    · exact (h.active n).trans (by rw [hw]; rfl)
    · rw [(PlanStore.computeFront_keeps _ _).2]; simp
  · exact h.cross hw hc

theorem PlanStore.Lawful.endRun {p : PlanStore} (h : p.Lawful) : p.endRun.Lawful := by
  have hpage : ∀ n, p.endRun.page n = (p.page n).worked := fun n => by simp [PlanStore.endRun, PlanStore.page]
  refine .of_no_pointer rfl rfl (fun n ha => ?_) fun n hn => ?_
  · rw [hpage, Page.worked] at ha
    split at ha
    · cases ha
    · exact absurd ha ‹_›
  · rw [hpage, Page.worked] at hn ⊢
    split at hn
    · cases hn
    · next hne => rw [if_neg hne]; exact h.whole n hn

theorem PlanStore.Lawful.stopRun {p : PlanStore} (h : p.Lawful) : p.stopRun.Lawful := by
  have hpage : ∀ n, p.stopRun.page n = (p.page n).returned := fun n => by simp [PlanStore.stopRun, PlanStore.page]
  refine .of_no_pointer rfl rfl (fun n ha => ?_) fun n hn => ?_
  · rw [hpage, Page.returned_eq] at ha
    split at ha
    · cases ha
    · exact absurd ha ‹_›
  · rw [hpage] at hn ⊢
    refine (Page.whole_congr (Page.returned_keeps _).1).mpr (h.whole n ?_)
    rw [Page.workable_iff, Page.returned_eq] at hn
    rw [Page.workable_iff]
    split at hn
    · exact .inr ‹_›
    · exact hn

end Sys2Proof.Machine
end

section
/-! PROOFS. The plan requests on the store (01 R3 to R9): CLOSE_PAGE's two searches, and what a request can do. -/

namespace Sys2Proof.Machine

/-! ## The places of a page that CLOSE_PAGE reads (01 R7) -/

/-- The record after place `i` lies beyond the record there, where both places hold one. -/
def Page.RisesAt (p : Page) (i : Nat) : Prop :=
  ∀ x y : SleeperRecord, p.at? i = some x → p.at? (i + 1) = some y → x.chainage < y.chainage

theorem firstUnwritten_eq_some {p : Page} {count i : Nat} :
    firstUnwritten p count = some i ↔ i < count ∧ p.at? i = none ∧ ∀ j, j < i → ∃ x, p.at? j = some x := by
  simp only [firstUnwritten, List.find?_range_eq_some, List.mem_range, Option.isNone_iff_eq_none, Bool.not_eq_true',
    Option.isNone_eq_false_iff, Option.isSome_iff_exists]
  tauto

theorem firstUnwritten_eq_none {p : Page} {count : Nat} :
    firstUnwritten p count = none ↔ ∀ i, i < count → ∃ x, p.at? i = some x := by
  simp only [firstUnwritten, List.find?_range_eq_none, Bool.not_eq_true', Option.isNone_eq_false_iff,
    Option.isSome_iff_exists]

/-- The test of the disorder search at one place. -/
def Page.disorderAt (p : Page) : Nat → Bool
  | 0 => false
  | j + 1 =>
    match p.at? j, p.at? (j + 1) with
    | some a, some b => decide (b.chainage ≤ a.chainage)
    | _, _ => false

theorem firstDisorder_eq_find? (p : Page) (count : Nat) :
    firstDisorder p count = (List.range count).find? p.disorderAt := rfl

theorem Page.disorderAt_succ (p : Page) (j : Nat) : p.disorderAt (j + 1) = true ↔ ¬p.RisesAt j := by
  unfold Page.RisesAt
  rw [Page.disorderAt]
  split
  · next a b ha hb => simp [ha, hb]
  · next h =>
    simp only [Bool.false_eq_true, false_iff, not_not]
    exact fun x y hx hy => absurd hy (h x y hx)

theorem firstDisorder_eq_some_succ {p : Page} {count i : Nat} :
    firstDisorder p count = some (i + 1) ↔ i + 1 < count ∧ ¬p.RisesAt i ∧ ∀ j, j < i → p.RisesAt j := by
  have hbefore : (∀ j, j < i + 1 → (!p.disorderAt j) = true) ↔ ∀ j, j < i → p.RisesAt j := by
    constructor
    · intro h j hj
      by_contra hr
      simpa [(p.disorderAt_succ j).mpr hr] using h (j + 1) (by omega)
    · intro h j hj
      cases j with
      | zero => rfl
      | succ j =>
        rw [Bool.not_eq_true', ← Bool.not_eq_true, p.disorderAt_succ, not_not]
        exact h j (by omega)
  rw [firstDisorder_eq_find?, List.find?_range_eq_some, p.disorderAt_succ, List.mem_range, hbefore]
  tauto

theorem firstDisorder_eq_none {p : Page} {count : Nat} :
    firstDisorder p count = none ↔ ∀ i, i + 1 < count → p.RisesAt i := by
  rw [firstDisorder_eq_find?, List.find?_range_eq_none]
  constructor
  · intro h i hi
    by_contra hr
    simpa [(p.disorderAt_succ i).mpr hr] using h (i + 1) hi
  · intro h i hi
    cases i with
    | zero => rfl
    | succ i =>
      rw [Bool.not_eq_true', ← Bool.not_eq_true, p.disorderAt_succ, not_not]
      exact h i hi

/-- A page closed over written places that rise is whole. -/
theorem whole_take {p : Page} {count : Nat} (e o : Bool) (hpos : 1 ≤ count) (hmax : count ≤ 64)
    (hall : ∀ i, i < count → ∃ x, p.at? i = some x) (hrise : ∀ i, i + 1 < count → p.RisesAt i) :
    Page.whole ⟨.ready, e, o, p.records.take count⟩ := by
  have hlen : count ≤ p.count := by
    obtain ⟨x, hx⟩ := hall (count - 1) (by omega)
    have := Page.lt_count_of_at? hx
    omega
  have hcount : (⟨.ready, e, o, p.records.take count⟩ : Page).count = count := by
    simpa [Page.count] using hlen
  have hat : ∀ i, i < count → (⟨.ready, e, o, p.records.take count⟩ : Page).at? i = p.at? i := fun i hi => by
    simp [Page.at?, hi]
  refine ⟨hcount.symm ▸ hpos, hcount.symm ▸ hmax, fun i hi => ?_, fun i x y hx hy => ?_⟩
  · rw [hcount] at hi
    rw [hat i hi]
    exact Option.isSome_iff_exists.mpr (hall i hi)
  · have hlt := Page.lt_count_of_at? hy
    rw [hcount] at hlt
    rw [hat _ (by omega)] at hx
    rw [hat _ hlt] at hy
    exact hrise i hlt x y hx hy

/-! ## What a plan request does, by its checks in order -/

section Requests

variable {p : PlanStore} {page : Byte} {n : Fin 4}

theorem closePage_bad_page (count endByte : Byte) (h : 3 < page.toNat) :
    p.closePage page count endByte = (p, badPosition 0) := by
  simp [PlanStore.closePage, pageOf?_none h]

theorem closePage_not_loading (count endByte : Byte) (h : page.toNat = n.val) (hs : (p.page n).state ≠ .loading) :
    p.closePage page count endByte = (p, .plain .pageState) := by
  simp [PlanStore.closePage, pageOf?_of_toNat h, hs]

theorem yesNo?_eq_some {b : Byte} {e : Bool} : yesNo? b = some e ↔ b.toNat = if e then 1 else 0 := by
  unfold yesNo?
  split <;> cases e <;> simp_all

theorem yesNo?_eq_none {b : Byte} : yesNo? b = none ↔ 1 < b.toNat := by
  unfold yesNo?
  split <;> simp_all
  omega

theorem closePage_bad_operand {count endByte : Byte} (h : page.toNat = n.val) (hs : (p.page n).state = .loading)
    (hbad : 1 < endByte.toNat ∨ count.toNat = 0 ∨ 64 < count.toNat) :
    p.closePage page count endByte = (p, badPosition 0) := by
  simp only [PlanStore.closePage, pageOf?_of_toNat h, hs, if_true]
  cases he : yesNo? endByte with
  | none => rfl
  | some e =>
    have hend : ¬1 < endByte.toNat := fun hlt => by rw [yesNo?_eq_none.mpr hlt] at he; cases he
    exact if_pos (by omega)

section Closing

variable {count endByte : Byte} {e : Bool} (h : page.toNat = n.val) (hs : (p.page n).state = .loading)
  (he : endByte.toNat = if e then 1 else 0) (hpos : 1 ≤ count.toNat) (hmax : count.toNat ≤ 64)

include h hs he hpos hmax

theorem closePage_unwritten {i : Nat} (hi : firstUnwritten (p.page n) count.toNat = some i) :
    p.closePage page count endByte = (p, badPosition i) := by
  have hrange : ¬(count.toNat < 1 ∨ 64 < count.toNat) := by omega
  simp only [PlanStore.closePage, pageOf?_of_toNat h, hs, yesNo?_eq_some.mpr he, if_true, hrange, if_false, hi]

theorem closePage_disorder {i : Nat} (hall : firstUnwritten (p.page n) count.toNat = none)
    (hi : firstDisorder (p.page n) count.toNat = some i) : p.closePage page count endByte = (p, badPosition i) := by
  have hrange : ¬(count.toNat < 1 ∨ 64 < count.toNat) := by omega
  simp only [PlanStore.closePage, pageOf?_of_toNat h, hs, yesNo?_eq_some.mpr he, if_true, hrange, if_false, hall, hi]

theorem closePage_closed (hall : firstUnwritten (p.page n) count.toNat = none)
    (hrise : firstDisorder (p.page n) count.toNat = none) :
    p.closePage page count endByte
      = (p.setPage n ⟨.ready, e, (p.page n).orderFault, (p.page n).records.take count.toNat⟩, .plain .ok) := by
  have hrange : ¬(count.toNat < 1 ∨ 64 < count.toNat) := by omega
  simp only [PlanStore.closePage, pageOf?_of_toNat h, hs, yesNo?_eq_some.mpr he, if_true, hrange, if_false, hall, hrise]

end Closing

end Requests

/-! ## Plan requests and the law of the store -/

/-- `q` is `p`, or `p` with one page that holds no pointer replaced by one that holds none and is whole where it can be
worked in: all that a plan request can do. -/
def PageReplaced (p q : PlanStore) : Prop :=
  q = p ∨ ∃ (n : Fin 4) (x : Page), (p.page n).state ≠ .active ∧ x.state ≠ .active ∧ (x.workable = true → x.whole)
    ∧ q = p.setPage n x

theorem PageReplaced.lawful {p q : PlanStore} (h : PageReplaced p q) (hp : p.Lawful) : q.Lawful := by
  rcases h with rfl | ⟨n, x, hn, hx, hwhole, rfl⟩
  · exact hp
  · exact hp.setPage hn hx hwhole

theorem PageReplaced.workhead {p q : PlanStore} (h : PageReplaced p q) : q.workhead = p.workhead := by
  rcases h with rfl | ⟨n, x, -, -, -, rfl⟩ <;> rfl

/-- A page that becomes EMPTY or LOADING. -/
theorem PageReplaced.of_not_workable {p : PlanStore} {n : Fin 4} {x : Page} (hn : (p.page n).state ≠ .active)
    (hx : x.workable = false) : PageReplaced p (p.setPage n x) := by
  refine .inr ⟨n, x, hn, fun ha => ?_, fun hw => ?_, rfl⟩
  · simp [Page.workable, ha] at hx
  · simp [hx] at hw

theorem openPage_replaced (p : PlanStore) (page : Byte) : PageReplaced p (p.openPage page).1 := by
  unfold PlanStore.openPage
  split
  · exact .inl rfl
  · split
    · next hs => exact .of_not_workable (by rcases hs with hs | hs <;> simp [hs]) rfl
    · exact .inl rfl

theorem loadRecords_replaced (p : PlanStore) (page first : Byte) (records : List WireRecord) :
    PageReplaced p (p.loadRecords page first records).1 := by
  unfold PlanStore.loadRecords
  split
  · exact .inl rfl
  · split
    · next hs =>
      split
      · exact .inl rfl
      · split
        · exact .inl rfl
        · split
          · exact .inl rfl
          · exact .of_not_workable (by simp [hs]) (by simp [Page.workable, hs])
    · exact .inl rfl

theorem discardPage_replaced (p : PlanStore) (page : Byte) : PageReplaced p (p.discardPage page).1 := by
  unfold PlanStore.discardPage
  split
  · exact .inl rfl
  · split
    · exact .inl rfl
    · exact .inl rfl
    · next hs => exact .of_not_workable (by simp [hs]) rfl
    · next hs => exact .of_not_workable (by simp [hs]) rfl

theorem closePage_replaced (p : PlanStore) (page count endByte : Byte) :
    PageReplaced p (p.closePage page count endByte).1 := by
  unfold PlanStore.closePage
  split
  · exact .inl rfl
  · split
    · next hs =>
      split
      · exact .inl rfl
      · split
        · exact .inl rfl
        · next hrange =>
          split
          · exact .inl rfl
          · next hall =>
            split
            · exact .inl rfl
            · next hrise =>
              exact .inr ⟨_, _, by simp [hs], by simp, fun _ => whole_take _ _ (by omega) (by omega)
                (firstUnwritten_eq_none.mp hall) (firstDisorder_eq_none.mp hrise), rfl⟩
    · exact .inl rfl

end Sys2Proof.Machine
end

section
/-! PROOFS. The law of the plan (01 R2, R7, R17, R25) kept by the operations of the sleeper cycle. -/

namespace Sys2Proof.Machine

/-! ## The plan of a run -/

/-- A run is in progress: neither IDLE nor ENDED (01 R25). -/
def State.InRun (s : State) : Prop := s.seq.state ≠ .idle ∧ s.seq.state ≠ .ended

/-- The law of the plan, with a CHORD_FRONT that looks ahead, as every value in its range does (11 R184). -/
structure State.Planned (s : State) : Prop where
  chord : 0 ≤ s.params.chordFront
  law : s.planLaw

section Planned

variable {s t : State}

theorem State.not_inRun_iff (s : State) : ¬s.InRun ↔ s.seq.state = .idle ∨ s.seq.state = .ended := by
  unfold State.InRun; tauto

theorem State.InRun.congr (h : s.InRun) (hs : t.seq.state = s.seq.state) : t.InRun := by
  unfold State.InRun; rw [hs]; exact h

theorem State.InRun.of_state {q : SeqState} (h : s.seq.state = q) (hq : q ≠ .idle ∧ q ≠ .ended) : s.InRun := by
  unfold State.InRun; rw [h]; exact hq

theorem State.Planned.lawful (h : s.Planned) : s.plan.Lawful := (s.planLaw_iff.mp h.law).1

theorem State.Planned.workhead_none_iff (h : s.Planned) : s.plan.workhead = none ↔ ¬s.InRun := by
  rw [s.not_inRun_iff]; exact (s.planLaw_iff.mp h.law).2

/-- In a run the workhead stands. -/
theorem State.Planned.workhead (h : s.Planned) (hr : s.InRun) : s.plan.workhead ≠ none :=
  fun hn => h.workhead_none_iff.mp hn hr

theorem State.Planned.of_lawful (hc : 0 ≤ t.params.chordFront) (hl : t.plan.Lawful)
    (hr : t.plan.workhead = none ↔ ¬t.InRun) : t.Planned :=
  ⟨hc, t.planLaw_iff.mpr ⟨hl, by rw [← t.not_inRun_iff]; exact hr⟩⟩

/-- A plan in a run. -/
theorem State.Planned.of_run (hc : 0 ≤ t.params.chordFront) (hl : t.plan.Lawful ∧ t.plan.workhead ≠ none)
    (hr : t.InRun) : t.Planned :=
  .of_lawful hc hl.1 (iff_of_false hl.2 (not_not.mpr hr))

/-- A change that stays in the run, or out of it, and touches neither the plan nor the parameters. -/
theorem State.Planned.of_same_plan (h : s.Planned) (hp : t.params = s.params) (hq : t.plan = s.plan)
    (hr : t.InRun ↔ s.InRun) : t.Planned :=
  .of_lawful (hp ▸ h.chord) (hq ▸ h.lawful) (by rw [hq, hr]; exact h.workhead_none_iff)

theorem State.Planned.of_same (h : s.Planned) (hp : t.params = s.params) (hq : t.plan = s.plan)
    (hs : t.seq.state = s.seq.state) : t.Planned :=
  h.of_same_plan hp hq (by unfold State.InRun; rw [hs])

/-- A run goes on in another state of the sequencer. -/
theorem State.Planned.of_run_same_plan (h : s.Planned) (hrun : s.InRun) (hp : t.params = s.params)
    (hq : t.plan = s.plan) (hr : t.InRun) : t.Planned :=
  h.of_same_plan hp hq (iff_of_true hr hrun)

end Planned

/-! ## States of the sequencer -/

section Operations

variable {s : State}

theorem enterHold_inRun (r : HoldReason) (s : State) : (enterHold r s).InRun := by
  simp [enterHold, State.InRun]

theorem enterHold_planned (h : s.Planned) (hr : s.InRun) (r : HoldReason) : (enterHold r s).Planned :=
  h.of_run_same_plan hr (by simp) (by simp) (enterHold_inRun r s)

@[simp] theorem enterState_state (st : SeqState) (s : State) : (enterState st s).seq.state = st := rfl

theorem enterState_inRun {st : SeqState} (hst : st ≠ .idle ∧ st ≠ .ended) (s : State) : (enterState st s).InRun := hst

theorem enterState_planned (h : s.Planned) (hr : s.InRun) {st : SeqState} (hst : st ≠ .idle ∧ st ≠ .ended) :
    (enterState st s).Planned :=
  h.of_run_same_plan hr (by simp) (by simp) (enterState_inRun hst s)

theorem enterEnded_planned (h : s.Planned) : (enterEnded s).Planned := by
  have hplan : (enterEnded s).plan = s.plan.endRun := by simp [enterEnded]
  refine .of_lawful (by simpa using h.chord) (hplan ▸ h.lawful.endRun) (iff_of_true (by rw [hplan]; rfl) ?_)
  rw [State.not_inRun_iff]
  exact .inr rfl

/-! ## After a recording -/

theorem advanceRun_planned (h : s.Planned) (hr : s.InRun) : (advanceRun s).Planned := by
  have hadv := h.lawful.advance (h.workhead hr) h.chord
  unfold advanceRun
  split
  · next p hp =>
    rw [hp] at hadv
    exact .of_run (by simpa using h.chord) (by simpa using hadv) (enterState_inRun (by decide) _)
  · next p hp =>
    rw [hp] at hadv
    exact .of_run (by simpa using h.chord) (by simpa using hadv) (enterHold_inRun _ _)

theorem continueRun_planned (h : s.Planned) (hr : s.InRun) : (continueRun s).Planned := by
  unfold continueRun
  split
  · exact enterEnded_planned h
  · split
    · exact h.of_run_same_plan hr (by simp) (by simp) (enterState_inRun (by decide) _)
    · exact advanceRun_planned h hr

theorem afterRecording_planned (h : s.Planned) (hr : s.InRun) : (afterRecording s).Planned :=
  continueRun_planned (h.of_same rfl rfl rfl) (hr.congr rfl)

@[simp] theorem recordSleeper_state (o : SleeperOutcome) (s : State) :
    (recordSleeper o s).seq.state = s.seq.state := by
  cases hc : s.seq.context with
  | none => rw [recordSleeper_none hc]
  | some c => rw [(recordSleeper_of_context hc o).1]; rfl

theorem recordSleeper_planned (h : s.Planned) (o : SleeperOutcome) : (recordSleeper o s).Planned :=
  h.of_same (by simp) (by simp) (by simp)

/-! ## The unit -/

theorem clampUnit_planned (h : s.Planned) : (clampUnit s).Planned := h.of_same (by simp) (by simp) (by simp)

theorem reportOpen_planned (h : s.Planned) : (reportOpen s).Planned := by
  unfold reportOpen
  split
  · exact clampUnit_planned h
  · split
    · next hs =>
      split
      · exact h.of_same (by simp) (by simp) (by simp)
      · exact continueRun_planned h (.of_state hs (by decide))
    · exact h

theorem releaseUnit_planned (h : s.Planned) : (releaseUnit s).Planned := by
  have ht : (endLive (s.modLining fun u => u.release s.inputs s.trackSensed)).Planned :=
    h.of_same (by simp) (by simp) (by simp)
  unfold releaseUnit
  dsimp only
  split
  · exact reportOpen_planned ht
  · exact ht

theorem clampOrder_planned (c : Context) (h : s.Planned) : (clampOrder c s).Planned := by
  have hl : ∀ u, (s.setLining u).Planned := fun u => h.of_same rfl rfl rfl
  unfold clampOrder
  dsimp only
  split
  · exact clampUnit_planned (hl _)
  · exact releaseUnit_planned (hl _)
  all_goals exact hl _

theorem enterMeasuring_planned (c : Context) (h : s.Planned) (hr : s.InRun) : (enterMeasuring c s).Planned :=
  (clampOrder_planned c (enterState_planned h hr (st := .measuring) (by decide))).of_same (by simp [enterMeasuring])
    (by simp [enterMeasuring]) (by simp [enterMeasuring])

/-! ## Admission -/

theorem takeContext_planned (record : SleeperRecord) (pos : Pos) (h : s.Planned) :
    (takeContext record pos s).Planned := by
  have hplan : (takeContext record pos s).plan = (s.plan.computeFront s.params.chordFront).1 := by simp [takeContext]
  refine .of_lawful (by simpa using h.chord) (hplan ▸ h.lawful.computeFront h.chord) ?_
  rw [hplan, (s.plan.computeFront_keeps _).2, h.workhead_none_iff]
  simp [State.InRun, takeContext]

theorem takeContext_state (record : SleeperRecord) (pos : Pos) (s : State) :
    (takeContext record pos s).seq.state = s.seq.state := by simp [takeContext]

theorem workContext_planned (h : s.Planned) (hr : s.InRun) : (workContext s).Planned := by
  have hrec : ∀ o, (afterRecording (recordSleeper o s)).Planned := fun o =>
    afterRecording_planned (recordSleeper_planned h o) (hr.congr (recordSleeper_state o s))
  unfold workContext
  split
  · exact h
  · split
    · exact hrec _
    · split
      · exact hrec _
      · split
        · exact enterHold_planned h hr _
        · exact enterMeasuring_planned _ h hr

theorem admitSleeper_planned (h : s.Planned) (hr : s.InRun) : (admitSleeper s).Planned := by
  unfold admitSleeper
  split
  · exact enterHold_planned h hr _
  · split
    · exact enterHold_planned h hr _
    · split
      · exact enterHold_planned h hr _
      · split
        · exact enterHold_planned h hr _
        · split
          · exact workContext_planned (takeContext_planned _ _ h) (hr.congr (takeContext_state _ _ s))
          · exact h

end Operations

end Sys2Proof.Machine
end

section
/-! PROOFS. The law of the plan kept by every event and every request, and so by every step. -/

namespace Sys2Proof.Machine

/-! ## Positioning -/

section Events

variable {s : State}

theorem positioned_planned (h : s.Planned) (hr : s.InRun) : (positioned s).Planned := by
  unfold positioned
  dsimp only
  refine admitSleeper_planned (h.of_same ?_ ?_ ?_) (hr.congr ?_) <;> split <;> simp

theorem takeHalted_planned (h : s.Planned) (hd : s.chainage.move.demandActive = true → s.InRun) :
    (takeHalted s).Planned := by
  have ht : (s.modMove fun m => { m with timer := none }).Planned := h.of_same rfl rfl rfl
  unfold takeHalted
  dsimp only
  split
  · next hm =>
    have hr := hd (by simp [IndexMove.demandActive, hm])
    split
    · exact positioned_planned ht (hr.congr rfl)
    · exact h.of_same rfl rfl rfl
  · next hm =>
    have hr := hd (by simp [IndexMove.demandActive, hm])
    split
    · exact positioned_planned ht (hr.congr rfl)
    · exact enterHold_planned (h.of_same (by rfl) (by rfl) (by rfl)) (hr.congr (by rfl)) _
  all_goals exact h

theorem expireIndexTimer_planned (h : s.Planned) (hd : s.chainage.move.demandActive = true → s.InRun) :
    (expireIndexTimer s).Planned := by
  unfold expireIndexTimer
  split
  · next ha => exact enterHold_planned (h.of_same (by rfl) (by rfl) (by rfl)) ((hd ha.1).congr (by rfl)) _
  · exact h

theorem takeDetection_planned (h : s.Planned) : (takeDetection s).Planned := by
  unfold takeDetection
  dsimp only
  split
  · split
    · exact h
    · split <;> exact h.of_same rfl rfl rfl
  · exact h

/-! ## The close of a window and the approach -/

theorem closeWindow_planned (w : Window) (h : s.Planned) (hc : s.seq.context.isSome = true → s.InRun) :
    (closeWindow w s).Planned := by
  unfold closeWindow
  split
  · exact h.of_same rfl rfl rfl
  · next c hctx =>
    have hr := hc (by rw [hctx]; rfl)
    split
    · exact h.of_run_same_plan hr (by simp) (by simp) (enterState_inRun (by decide) _)
    · unfold closeFinal
      exact afterRecording_planned (recordSleeper_planned (h.of_same (by simp) (by simp) (by simp)) _)
        (hr.congr (by simp))

theorem enterHolding_planned (last : Channels (Option Int)) (h : s.Planned) : (enterHolding last s).Planned :=
  h.of_same (by simp) (by simp) (by simp [enterHolding])

theorem takeLive_planned (l : Live) (samples : Channels (Option Int)) (h : s.Planned) :
    (takeLive l samples s).Planned := by
  unfold takeLive
  dsimp only
  split
  · split
    · exact h.of_same rfl rfl rfl
    · exact enterHolding_planned _ (h.of_same rfl rfl rfl)
  · exact h.of_same rfl rfl rfl

theorem takeMeasuringFrame_planned (samples : Channels (Option Int)) (h : s.Planned)
    (hc : s.seq.context.isSome = true → s.InRun) : (takeMeasuringFrame samples s).Planned := by
  unfold takeMeasuringFrame
  split
  · exact h
  · split
    · exact closeWindow_planned _ h hc
    · exact h.of_same rfl rfl rfl
  · exact takeLive_planned _ _ h

theorem expireSilence_planned (h : s.Planned) (hc : s.seq.context.isSome = true → s.InRun) :
    (expireSilence s).Planned := by
  unfold expireSilence
  split
  · exact h
  · exact closeWindow_planned _ h hc
  · exact h

theorem expireCorrection_planned (h : s.Planned) : (expireCorrection s).Planned := by
  unfold expireCorrection
  split
  · exact enterHolding_planned _ (h.of_same rfl rfl rfl)
  · exact h

/-! ## Failures and reports of the clamps -/

theorem clampFailure_planned (h : s.Planned) : (clampFailure s).Planned := by
  unfold clampFailure
  split
  · next hs =>
    have hr : s.InRun := .of_state hs (by decide)
    exact enterHold_planned (h.of_same (by simp) (by simp) (by simp)) (hr.congr (by simp)) _
  · exact h

theorem releaseFailure_planned (h : s.Planned) : (releaseFailure s).Planned := by
  unfold releaseFailure
  split
  · exact clampFailure_planned h
  · split
    · next hs =>
      have hr : s.InRun := .of_state hs (by decide)
      split
      · exact enterHold_planned (h.of_same (by simp) (by simp) (by simp [State.raiseFlags]))
          (hr.congr (by simp [State.raiseFlags])) _
      · exact enterHold_planned (h.of_same (by rfl) (by rfl) (by rfl)) (hr.congr (by rfl)) _
    · exact h

theorem expireClampTimer_planned (h : s.Planned) : (expireClampTimer s).Planned := by
  have ht : (s.modLining fun u => { u with clampTimer := none }).Planned := h.of_same rfl rfl rfl
  unfold expireClampTimer
  dsimp only
  split
  · split
    · exact clampFailure_planned ht
    · exact releaseFailure_planned ht
    all_goals exact ht
  · exact h

theorem takeClampLevels_planned (h : s.Planned) : (takeClampLevels s).Planned := by
  unfold takeClampLevels
  split
  · exact h.of_same (by simp) (by simp) (by simp)
  · split
    · exact reportOpen_planned (h.of_same rfl rfl rfl)
    · exact h

/-! ## The end of an event -/

theorem beginTamping_planned (h : s.Planned) : (beginTamping s).Planned := by
  unfold beginTamping
  split
  · exact h
  · split
    · next hs =>
      exact h.of_run_same_plan (.of_state hs.1 (by decide)) (by simp) (by simp) (by simp [State.InRun])
    · exact h

theorem endTamping_planned (h : s.Planned) : (endTamping s).Planned := by
  unfold endTamping
  split
  · exact h
  · split
    · next hs => exact releaseUnit_planned (enterState_planned h (.of_state hs.1 (by decide)) (by decide))
    · exact h

theorem releaseAfterHeads_planned (h : s.Planned) : (releaseAfterHeads s).Planned := by
  unfold releaseAfterHeads
  split
  · exact releaseUnit_planned h
  · exact h

theorem releaseFrozen_planned (h : s.Planned) : (releaseFrozen s).Planned := by
  unfold releaseFrozen
  split
  · exact releaseUnit_planned h
  · exact h

theorem settle_planned (h : s.Planned) : (settle s).Planned :=
  (releaseFrozen_planned (releaseAfterHeads_planned (endTamping_planned (beginTamping_planned h)))).of_same
    (by simp [settle]) (by simp [settle]) (by simp [settle])

/-! ## Heads, stops and axis frames -/

theorem stepHead_planned (f : HeadEnv → HeadRecord → HeadStep) (i : Fin 4) (h : s.Planned) : (s.stepHead f i).Planned :=
  h.of_same (by simp) (by simp) (by simp)

theorem takeRaised_planned (i : Fin 4) (h : s.Planned) : (takeRaised i s).Planned := by
  unfold takeRaised
  refine settle_planned ?_
  split
  · exact h.of_same (by simp) (by simp) (by simp)
  · exact stepHead_planned _ i h

theorem expireTraverse_planned (i : Fin 4) (h : s.Planned) : (expireTraverse i s).Planned := by
  unfold expireTraverse
  split
  · exact settle_planned (stepHead_planned _ i h)
  · exact h

theorem expireTilt_planned (i : Fin 4) (h : s.Planned) : (expireTilt i s).Planned := by
  unfold expireTilt
  split
  · exact settle_planned (stepHead_planned _ i h)
  · exact h

theorem expirePenetration_planned (i : Fin 4) (h : s.Planned) : (expirePenetration i s).Planned := by
  unfold expirePenetration
  split
  · exact h.of_same rfl rfl rfl
  · exact h

theorem expireSqueeze_planned (i : Fin 4) (h : s.Planned) : (expireSqueeze i s).Planned := by
  unfold expireSqueeze
  split
  · exact h.of_same rfl rfl rfl
  · exact h

theorem isRun_inRun {q : SeqState} (h : q.isRun = true) : q ≠ .idle ∧ q ≠ .ended := by
  cases q <;> first | exact ⟨by decide, by decide⟩ | cases h

theorem raiseStop_planned (c : StopCause) (h : s.Planned) : (raiseStop c s).Planned := by
  unfold raiseStop
  dsimp only
  split
  · split
    · next hrun => exact h.of_run_same_plan (isRun_inRun hrun) (by simp) (by simp) (enterState_inRun (by decide) _)
    · exact h.of_same rfl rfl rfl
  · exact h.of_same rfl rfl rfl

theorem supervise_planned (f : AxisFrame) (h : s.Planned) : (supervise f s).Planned := by
  have key : ∀ (l : List Axis) (t : State), t.Planned → (l.foldl testAxis t).Planned := fun l => by
    induction l with
    | nil => exact fun t ht => ht
    | cons a l ih =>
      refine fun t ht => ih _ ?_
      unfold testAxis
      split
      · exact raiseStop_planned _ (ht.of_same rfl rfl rfl)
      · exact ht
  exact key _ _ (h.of_same rfl rfl rfl)

theorem takeAxisFrame_planned (f : AxisFrame) (h : s.Planned) : (takeAxisFrame f s).Planned := by
  have hsense : (s.senseFrame f).Planned := h.of_same rfl rfl rfl
  unfold takeAxisFrame
  dsimp only
  split
  · exact settle_planned (hsense.of_same (by simp) (by simp) (by simp))
  · exact settle_planned ((supervise_planned f hsense).of_same (by simp) (by simp) (by simp))

theorem expireAxisLine_planned (h : s.Planned) : (expireAxisLine s).Planned := by
  unfold expireAxisLine
  split
  · exact h
  · exact raiseStop_planned _ (h.of_same rfl rfl rfl)

theorem takeChain_planned (closed : Bool) (h : s.Planned) : (takeChain closed s).Planned := by
  unfold takeChain
  dsimp only
  split
  · exact raiseStop_planned _ (h.of_same rfl rfl rfl)
  · exact h.of_same rfl rfl rfl

theorem expireAttention_planned (h : s.Planned) : (expireAttention s).Planned := by
  unfold expireAttention
  split
  · exact h
  · exact h.of_same rfl rfl rfl
  · exact raiseStop_planned _ h

end Events

end Sys2Proof.Machine
end

section
/-! PROOFS. The law of the plan kept by the requests, by every command and by every step (01 R2, R7, R17, R25). -/

namespace Sys2Proof.Machine

section Requests

variable {s : State}

theorem State.Planned.inRun (h : s.Planned) (hw : s.plan.workhead ≠ none) : s.InRun :=
  not_not.mp (mt h.workhead_none_iff.mpr hw)

/-! ## The plan requests -/

theorem PageReplaced.planned {q : PlanStore} (hq : PageReplaced s.plan q) (h : s.Planned) : (s.setPlan q).Planned :=
  .of_lawful h.chord (hq.lawful h.lawful) (by
    rw [State.setPlan_plan, hq.workhead, h.workhead_none_iff]; rfl)

theorem retryCrossing_planned (h : s.Planned) {w : Pos} (hw : s.plan.workhead = some w) :
    (retryCrossing w s).Planned := by
  have hcross := h.lawful.cross hw h.chord
  have hr := h.inRun (by simp [hw])
  unfold retryCrossing
  split
  · next p hp =>
    rw [hp] at hcross
    exact .of_run (by simpa using h.chord) (by simpa using hcross) (enterState_inRun (by decide) _)
  · next p hp =>
    rw [hp] at hcross
    exact .of_run h.chord hcross hr

theorem closePage_planned (page count endByte : Byte) (h : s.Planned) : (closePage page count endByte s).1.Planned := by
  have ht := (closePage_replaced s.plan page count endByte).planned h
  unfold closePage
  dsimp only
  split
  · next hw =>
    dsimp only
    split
    · exact settle_planned (retryCrossing_planned ht hw)
    · exact ht
  · exact ht

/-! ## The requests of the run -/

theorem beginRun_planned (h : s.Planned) (hr : ¬s.InRun) {pos : Pos} {r : SleeperRecord}
    (hpos : (s.plan.page pos.page).state = .ready) (hat : (s.plan.page pos.page).at? pos.index = some r) :
    (beginRun pos s).Planned := by
  obtain ⟨hl, hw⟩ := h.lawful.startRun (h.workhead_none_iff.mpr hr) hpos hat h.chord
  have hplan : (beginRun pos s).plan = s.plan.startRun pos s.params.chordFront := by simp [beginRun]
  exact .of_run (by simpa using h.chord) ⟨hplan ▸ hl, by simp [hplan, hw]⟩ (enterState_inRun (by decide) _)

theorem startRun_planned (page index : Byte) (h : s.Planned) : (startRun page index s).1.Planned := by
  unfold startRun
  split
  · exact h
  · next hidle =>
    have hr : ¬s.InRun := hidle
    split
    · exact h
    · split
      · exact h
      · split
        · exact h
        · split
          · exact h
          · split
            · exact h
            · next hready =>
              split
              · exact h
              · split
                · exact h
                · exact settle_planned (beginRun_planned h hr (not_not.mp hready) ‹_›)

theorem pauseRun_planned (h : s.Planned) : (pauseRun s).1.Planned := by
  unfold pauseRun
  split <;> exact h.of_same rfl rfl rfl

theorem readmit_planned (h : s.Planned) (hr : s.InRun) : (readmit s).Planned := by
  unfold readmit
  dsimp only
  split
  · exact admitSleeper_planned (h.of_same (by rfl) (by rfl) (by rfl)) (hr.congr (by rfl))
  · exact h.of_run_same_plan hr (by simp) (by simp) (enterState_inRun (by decide) _)

theorem retryRelease_planned (h : s.Planned) (hr : s.InRun) : (retryRelease s).Planned :=
  releaseUnit_planned (h.of_run_same_plan hr (by simp) (by simp) (enterState_inRun (by decide) _))

theorem resumeAdvance_planned (h : s.Planned) (hr : s.InRun) : (resumeAdvance s).Planned :=
  advanceRun_planned (h.of_same rfl rfl rfl) (hr.congr rfl)

theorem takeAction_planned (a : Option ResumeAction) (h : s.Planned) (hr : s.InRun) : (takeAction a s).Planned := by
  unfold takeAction
  split
  · exact readmit_planned h hr
  · exact retryRelease_planned h hr
  · exact resumeAdvance_planned h hr
  · exact readmit_planned h hr

theorem resumeHold_planned {r : HoldReason} {t : State} (h : s.Planned) (hr : s.InRun) (ht : resumeHold r s = some t) :
    t.Planned := by
  have hcleared : ∀ f : Sequencer → Sequencer, (f s.seq).state = s.seq.state → (readmit (s.modSeq f)).Planned :=
    fun f hf => readmit_planned (h.of_same rfl rfl hf) (hr.congr hf)
  unfold resumeHold at ht
  split at ht
  · cases ht
  · cases ht
  · cases ht
  · cases ht; exact readmit_planned h hr
  · cases ht; exact hcleared _ rfl
  · cases ht; exact hcleared _ rfl
  · cases ht; exact readmit_planned h hr
  · cases ht; exact readmit_planned h hr
  · cases ht; exact takeAction_planned _ h hr
  · cases ht; exact takeAction_planned _ h hr

theorem resumeRun_planned (h : s.Planned) : (resumeRun s).1.Planned := by
  have ha : (activity s).Planned := h.of_same (by simp) (by simp) (by simp)
  have hstate : (activity s).seq.state = s.seq.state := by simp
  unfold resumeRun
  split
  · next t ht =>
    refine settle_planned ?_
    unfold resumed at ht
    split at ht
    · next hs => cases ht; exact resumeAdvance_planned ha (.of_state (hstate.trans hs) (by decide))
    · next hs _ => exact resumeHold_planned ha (.of_state (hstate.trans hs) (by decide)) ht
    · cases ht
  · exact h

theorem awaitsConfirm_inRun (hq : s.seq.awaitsConfirm = true) : s.InRun := by
  exact .of_state (of_decide_eq_true hq).1 (by decide)

theorem confirmSleeper_planned (h : s.Planned) : (confirmSleeper s).1.Planned := by
  unfold confirmSleeper
  split
  · next hq _ => exact settle_planned (enterMeasuring_planned _ h (awaitsConfirm_inRun hq))
  · exact h

theorem skipSleeper_planned (h : s.Planned) : (skipSleeper s).1.Planned := by
  have hpend : (pendSkip s).1.Planned := h.of_same rfl rfl rfl
  unfold skipSleeper
  split
  · exact hpend
  · exact hpend
  · next hs =>
    split
    · next hq => exact settle_planned (afterRecording_planned (recordSleeper_planned h _)
        ((awaitsConfirm_inRun hq).congr (recordSleeper_state _ _)))
    · exact hpend
  all_goals exact h

theorem abortFlight_planned (h : s.Planned) (hr : s.InRun) : (abortFlight s).Planned :=
  enterHold_planned (h.of_same (by simp) (by simp) (by simp)) (hr.congr (by simp)) _

theorem abortSleeper_planned (h : s.Planned) : (abortSleeper s).1.Planned := by
  have habort : ∀ q, s.seq.state = q → q ≠ .idle ∧ q ≠ .ended → (settle (abortFlight s)).Planned :=
    fun q hs hq => settle_planned (abortFlight_planned h (.of_state hs hq))
  unfold abortSleeper
  split
  · exact habort _ ‹_› (by decide)
  · exact habort _ ‹_› (by decide)
  · exact habort _ ‹_› (by decide)
  all_goals exact h

theorem retampSleeper_planned (h : s.Planned) : (retampSleeper s).1.Planned := by
  unfold retampSleeper
  split
  · next hs => exact settle_planned (admitSleeper_planned (h.of_same (by rfl) (by rfl) (by rfl))
      (.of_state hs (by decide)))
  · exact h

theorem endRunNow_planned (h : s.Planned) : (endRunNow s).Planned := by
  have hplan : (endRunNow s).plan = s.plan.stopRun := by simp [endRunNow]
  refine .of_lawful (by simpa using h.chord) (hplan ▸ h.lawful.stopRun) (iff_of_true (by rw [hplan]; rfl) ?_)
  rw [State.not_inRun_iff]
  exact .inl rfl

theorem stopRun_planned (h : s.Planned) : (stopRun s).1.Planned := by
  unfold stopRun
  split
  · exact h
  · exact settle_planned (endRunNow_planned h)

theorem clearStop_planned (h : s.Planned) : (clearStop s).1.Planned := by
  unfold clearStop
  dsimp only
  split
  · exact h
  · split
    · exact h
    · split
      · dsimp only
        split
        · next hs => exact enterHold_planned (h.of_same (by rfl) (by rfl) (by rfl)) (.of_state hs (by decide)) _
        · exact h.of_same rfl rfl rfl
      · exact h

/-! ## The other requests -/

theorem releaseResults_planned (n : Byte) (h : s.Planned) : (releaseResults n s).1.Planned := by
  unfold releaseResults
  split
  · exact h
  · split <;> exact h.of_same rfl rfl rfl

theorem releaseResults_state (n : Byte) (s : State) : (releaseResults n s).1.seq = s.seq := by
  unfold releaseResults
  split
  · rfl
  · split <;> rfl

theorem releaseResultsRequest_planned (n : Byte) (h : s.Planned) : (releaseResultsRequest n s).1.Planned := by
  unfold releaseResultsRequest
  dsimp only
  split
  · next hs => exact settle_planned (admitSleeper_planned (releaseResults_planned n h)
      (State.InRun.congr (s := s) (.of_state hs.1 (by decide)) (by rw [releaseResults_state])))
  · exact releaseResults_planned n h

theorem setChainageTo_planned (value : BitVec 32) (h : s.Planned) : (setChainageTo value s).1.Planned := by
  unfold setChainageTo
  split
  · exact h
  · split
    · exact h
    · exact h.of_same rfl rfl rfl

theorem getCounters_planned (clear : Byte) (h : s.Planned) : (getCounters clear s).1.Planned := by
  unfold getCounters
  split
  · exact h
  · dsimp only
    split
    · exact h.of_same rfl rfl rfl
    · exact h

/-- SET_PARAM touches neither the plan nor the sequencer. -/
theorem setParam_keeps (id : Byte) (value : BitVec 32) (s : State) :
    (setParam id value s).1.plan = s.plan ∧ (setParam id value s).1.seq = s.seq := by
  have hstore : ∀ p v, (storeParam p v s).plan = s.plan ∧ (storeParam p v s).seq = s.seq := fun p v => by
    unfold storeParam
    dsimp only
    split <;> simp
  unfold setParam setChord setClamped
  dsimp only
  split
  · exact ⟨rfl, rfl⟩
  · split
    · split
      · exact ⟨rfl, rfl⟩
      · split
        · exact ⟨rfl, rfl⟩
        · exact hstore _ _
    · exact hstore _ _

/-- States with the same plan in the same state of the sequencer keep the law alike. -/
theorem planLaw_of_same {t : State} (h : s.planLaw) (hq : t.plan = s.plan) (hs : t.seq.state = s.seq.state) :
    t.planLaw := by
  rw [State.planLaw_iff, hq, hs]
  exact s.planLaw_iff.mp h

/-- The owner of a request keeps the law of the plan. -/
theorem runCall_planLaw (c : Call) (h : s.Planned) : (runCall c s).1.planLaw := by
  cases c with
  | setParam id value =>
    obtain ⟨hplan, hseq⟩ := setParam_keeps id value s
    exact planLaw_of_same h.law hplan (by rw [runCall, hseq])
  | openPage page => exact ((openPage_replaced s.plan page).planned h).law
  | loadRecords page first records => exact ((loadRecords_replaced s.plan page first records).planned h).law
  | closePage page count endByte => exact (closePage_planned page count endByte h).law
  | discardPage page => exact ((discardPage_replaced s.plan page).planned h).law
  | setChainage value => exact (setChainageTo_planned value h).law
  | startRun page index => exact (startRun_planned page index h).law
  | pause => exact (pauseRun_planned h).law
  | resume => exact (resumeRun_planned h).law
  | confirm => exact (confirmSleeper_planned h).law
  | skipSleeper => exact (skipSleeper_planned h).law
  | abortSleeper => exact (abortSleeper_planned h).law
  | retamp => exact (retampSleeper_planned h).law
  | stopRun => exact (stopRun_planned h).law
  | clearStop => exact (clearStop_planned h).law
  | releaseResults n => exact (releaseResultsRequest_planned n h).law
  | getCounters clear => exact (getCounters_planned clear h).law
  | _ => exact h.law

/-! ## The link -/

theorem report_keeps_plan (before after : State) :
    (report before after).plan = after.plan ∧ (report before after).seq = after.seq := by
  obtain ⟨-, -, -, -, -, hplan, -, -, -, -, -, hseq, -⟩ := State.reportOf_keeps (report_reportOf before after)
  exact ⟨hplan, hseq⟩

/-- The execution of a request leaves the plan and the sequencer to its owner. -/
theorem execute_keeps_plan (r : Request) (s : State) :
    (execute r s).plan = (runCall r.call s).1.plan ∧ (execute r s).seq = (runCall r.call s).1.seq := by
  unfold execute
  obtain ⟨hplan, hseq⟩ := report_keeps_plan s (requestActivity r (runCall r.call s).2
    (followAttention s ((runCall r.call s).1.modLink fun l => l.afterRequest r (runCall r.call s).2)))
  exact ⟨hplan.trans (by simp), hseq.trans (by simp)⟩

theorem acceptRequest_keeps_plan (r : Request) (s : State) :
    (acceptRequest r s).params = s.params ∧ (acceptRequest r s).plan = s.plan ∧ (acceptRequest r s).seq = s.seq := by
  unfold acceptRequest
  dsimp only
  split
  · exact ⟨rfl, rfl, rfl⟩
  · split
    · exact ⟨rfl, rfl, rfl⟩
    · split <;> exact ⟨rfl, rfl, rfl⟩

theorem acceptRequest_planned (r : Request) (h : s.Planned) : (acceptRequest r s).Planned := by
  obtain ⟨hparams, hplan, hseq⟩ := acceptRequest_keeps_plan r s
  exact h.of_same hparams hplan (by rw [hseq])

theorem executeOldest_planLaw (h : s.Planned) : (executeOldest s).planLaw := by
  unfold executeOldest
  split
  · exact h.law
  · next r _ _ =>
    split
    · obtain ⟨hplan, hseq⟩ := execute_keeps_plan r s
      exact planLaw_of_same (runCall_planLaw r.call h) hplan (by rw [hseq])
    · exact h.law

theorem request_planLaw (r : Request) (h : s.Planned) : (request r s).planLaw := by
  unfold request
  split
  · exact h.law
  · split
    · exact executeOldest_planLaw h
    · split
      · exact executeOldest_planLaw (acceptRequest_planned r h)
      · exact (acceptRequest_planned r h).law

theorem dropFrame_planned (k : Counter) (h : s.Planned) : (dropFrame k s).Planned := h.of_same rfl rfl rfl

theorem takeFrame_planned (n : Nat) (bytes : List Byte) (h : s.Planned) : (takeFrame n bytes s).Planned := by
  unfold takeFrame
  split
  · split
    · split
      · exact acceptRequest_planned _ (h.of_same rfl rfl rfl)
      · exact dropFrame_planned _ h
    · exact dropFrame_planned _ h
  · exact dropFrame_planned _ h

theorem takeByte_planned (b : RxByte) (h : s.Planned) : (takeByte b s).Planned := by
  unfold takeByte
  split
  · split
    · exact h.of_same rfl rfl rfl
    · exact h
  · split
    · unfold collect
      split
      · exact h
      · split
        · exact dropFrame_planned _ h
        · split
          · exact takeFrame_planned _ _ h
          · exact h.of_same rfl rfl rfl
    · exact dropFrame_planned _ h

theorem expireGap_planned (h : s.Planned) : (expireGap s).Planned := by
  unfold expireGap
  split
  · exact h
  · exact dropFrame_planned _ h

/-! ## Both resets -/

theorem cleared_planned {t : State} (hc : 0 ≤ t.params.chordFront) (hq : t.plan = .cleared) (hs : t.seq.state = .idle) :
    t.Planned :=
  .of_lawful hc (hq ▸ PlanStore.cleared_lawful) (iff_of_true (by rw [hq]; rfl) (t.not_inRun_iff.mpr (.inl hs)))

theorem takeSent_planned (h : s.Planned) : (takeSent s).Planned := by
  unfold takeSent
  split
  · exact h
  · split
    · exact h.of_same rfl rfl rfl
    · split
      · exact cleared_planned h.chord rfl rfl
      · exact h.of_same rfl rfl rfl

/-! ## Events -/

/-- An event keeps the law of the plan where its own change does. -/
theorem event_planned {f : State → State} (h : s.Planned) (hf : (f s).Planned) : (event f s).Planned := by
  unfold event closeEvent
  split
  · exact h
  · obtain ⟨-, -, -, -, hparams, hplan, -, -, -, -, -, hseq, -⟩ :=
      State.reportOf_keeps (report_reportOf s (followAttention s (f s)))
    exact hf.of_same (hparams.trans (by simp)) (hplan.trans (by simp)) (by rw [hseq]; simp)

theorem levelEvent_planned {g : Inputs → Inputs} {f : State → State} (h : s.Planned) (hf : (f s).Planned) :
    (levelEvent g f s).Planned := by
  cases hr : s.resetLow with
  | true =>
    rw [levelEvent, if_pos hr]
    exact h.of_same rfl rfl rfl
  | false => rw [levelEvent_eq hr]; exact event_planned h hf

theorem event_planLaw {f : State → State} (h : s.Planned) (hf : (f s).Planned) : (event f s).planLaw :=
  (event_planned h hf).law

theorem levelEvent_planLaw {g : Inputs → Inputs} {f : State → State} (h : s.Planned) (hf : (f s).Planned) :
    (levelEvent g f s).planLaw :=
  (levelEvent_planned h hf).law

end Requests

/-! ## Every command and every step -/

/-- What the laws give a step: the law of the plan, and a run wherever a demand or a context stands. -/
structure State.PlanGoverned (s : State) : Prop where
  planned : s.Planned
  demand : s.chainage.move.demandActive = true → s.InRun
  context : s.seq.context.isSome = true → s.InRun

theorem State.PlanGoverned.of_laws {s : State} (hp : s.paramLaw) (hc : s.cycleLaw) (hl : s.planLaw) :
    s.PlanGoverned where
  planned := ⟨le_trans (by decide) (hp .chordFront).1, hl⟩
  demand hd := .of_state (hc.2.1 hd) (by decide)
  context hx := by
    rcases hc.2.2 hx with h | h | h | h | h
    · exact .of_state h (by decide)
    · exact .of_state h (by decide)
    · exact .of_state h (by decide)
    · exact .of_state h (by decide)
    · exact awaitsConfirm_inRun h

/-- Bytes received one after the other (log entry 3). -/
theorem bytes_planned (bytes : List RxByte) (s : State) (h : s.Planned) :
    (bytes.foldl (fun t b => event (takeByte b) t) s).Planned := by
  induction bytes generalizing s with
  | nil => exact h
  | cons b rest ih => exact ih _ (event_planned h (takeByte_planned b h))

/-- Every command keeps the law of the plan. -/
theorem exec_planLaw {c : Instr} {s t : State} (h : exec c s = .next t) (hg : s.PlanGoverned) : t.planLaw := by
  obtain ⟨hp, hdemand, hcontext⟩ := hg
  have hinputs : ∀ i, (s.setInputs i).Planned := fun i => hp.of_same rfl rfl rfl
  cases c with
  | loadRecords tag page first records =>
    simp only [exec, execLoadRecords] at h
    split at h
    · cases h; exact request_planLaw _ hp
    · cases h
  | frameReceived bytes => cases h; exact (bytes_planned bytes s hp).law
  | gapLimitExpiry => cases h; exact event_planLaw hp (expireGap_planned hp)
  | frameSent => cases h; exact event_planLaw hp (takeSent_planned hp)
  | powerOnReset => cases h; exact (cleared_planned (by decide : 0 ≤ State.reset.params.chordFront) rfl rfl).law
  | measuringFrame bytes intact =>
    cases h; exact event_planLaw hp (settle_planned (takeMeasuringFrame_planned _ hp hcontext))
  | silenceLimitExpiry => cases h; exact event_planLaw hp (settle_planned (expireSilence_planned hp hcontext))
  | axisFrame frame => cases h; exact event_planLaw hp (takeAxisFrame_planned frame hp)
  | axisLineSilenceExpiry => cases h; exact event_planLaw hp (expireAxisLine_planned hp)
  | safetyChainChange closed => cases h; exact levelEvent_planLaw hp (takeChain_planned closed hp)
  | operatorInputActive input =>
    cases h
    have hactivity := activityFrom_eq (operatorSource input) s
    exact event_planLaw hp (hactivity ▸ hp.of_same rfl rfl rfl)
  | odometerCount forward => cases h; exact event_planLaw hp (hp.of_same rfl rfl rfl)
  | detection => cases h; exact event_planLaw hp (takeDetection_planned hp)
  | halted => cases h; exact event_planLaw hp (settle_planned (takeHalted_planned hp hdemand))
  | indexTimerExpiry => cases h; exact event_planLaw hp (expireIndexTimer_planned hp hdemand)
  | clampSensorReport clamp closed =>
    cases h; exact levelEvent_planLaw hp (settle_planned (takeClampLevels_planned (hinputs _)))
  | clampTimerExpiry => cases h; exact event_planLaw hp (settle_planned (expireClampTimer_planned hp))
  | correctionTimerExpiry => cases h; exact event_planLaw hp (settle_planned (expireCorrection_planned hp))
  | tiltSensorReport head arm report =>
    cases h; exact levelEvent_planLaw hp (settle_planned (stepHead_planned _ head (hinputs _)))
  | headRaisedSensorReport head raised =>
    cases h; exact levelEvent_planLaw hp (takeRaised_planned head (hinputs _))
  | traverseTimerExpiry head => cases h; exact event_planLaw hp (expireTraverse_planned head hp)
  | tiltTimerExpiry head => cases h; exact event_planLaw hp (expireTilt_planned head hp)
  | penetrationTimerExpiry head => cases h; exact event_planLaw hp (expirePenetration_planned head hp)
  | squeezeTimerExpiry head => cases h; exact event_planLaw hp (expireSqueeze_planned head hp)
  | attentionTimerExpiry => cases h; exact event_planLaw hp (expireAttention_planned hp)
  | receivedByte byte => cases h; exact event_planLaw hp (takeByte_planned byte hp)
  | resetLineLow => cases h; exact planLaw_of_same hp.law rfl rfl
  | _ => cases h; exact request_planLaw _ hp

/-- Settles O58: the law holds of the store after every change of a request or an event, and the pointers stand as the
sequencer enters and leaves a run. -/
theorem stepKeepsPlanLaw : Obligations.StepKeepsPlanLaw := by
  intro s t h hparam hcycle _ hplan
  have hg := State.PlanGoverned.of_laws hparam hcycle hplan
  unfold step at h
  split at h
  · cases h
    unfold idle
    split
    · exact hplan
    · exact executeOldest_planLaw hg.planned
  · exact exec_planLaw h ⟨hg.planned.of_same rfl rfl rfl, hg.demand, hg.context⟩

end Sys2Proof.Machine
end

section
/-! PROOFS. The plan requests on a ready link: OPEN_PAGE, DISCARD_PAGE and CLOSE_PAGE (01 R3, R4, R7, R8, R20). -/

namespace Sys2Proof.Machine

/-- A request on a ready link that changes the plan store alone. -/
theorem plan_request_answered {s : State} {r : Request} {q : PlanStore} {y : Reply} (h : s.linkReady)
    (hr : r.call ≠ .restart) (hrun : runCall r.call (s.queued r) = ((s.queued r).setPlan q, y)) :
    request r s = (s.setPlan q).answered r y :=
  request_answered h hr hrun rfl rfl rfl rfl

/-- A request on a ready link that changes nothing. -/
theorem unchanged_request_answered {s : State} {r : Request} {y : Reply} (h : s.linkReady) (hr : r.call ≠ .restart)
    (hrun : runCall r.call (s.queued r) = (s.queued r, y)) : request r s = s.answered r y :=
  request_answered h hr hrun rfl rfl rfl rfl

/-! ## OPEN_PAGE and DISCARD_PAGE (01 R4, R8) -/

section OpenDiscard

variable {p : PlanStore} {page : Byte} {n : Fin 4}

theorem openPage_bad_page (h : 3 < page.toNat) : p.openPage page = (p, badPosition 0) := by
  simp [PlanStore.openPage, pageOf?_none h]

theorem openPage_opened (h : page.toNat = n.val) (hs : (p.page n).state = .empty ∨ (p.page n).state = .ready) :
    p.openPage page = (p.setPage n ⟨.loading, false, false, []⟩, .plain .ok) := by
  simp [PlanStore.openPage, pageOf?_of_toNat h, hs]

theorem openPage_refused (h : page.toNat = n.val) (hs : (p.page n).state = .loading ∨ (p.page n).state = .active) :
    p.openPage page = (p, .plain .pageState) := by
  rcases hs with hs | hs <;> simp [PlanStore.openPage, pageOf?_of_toNat h, hs]

theorem discardPage_bad_page (h : 3 < page.toNat) : p.discardPage page = (p, badPosition 0) := by
  simp [PlanStore.discardPage, pageOf?_none h]

theorem discardPage_empty (h : page.toNat = n.val) (hs : (p.page n).state = .empty) :
    p.discardPage page = (p, .plain .ok) := by
  simp [PlanStore.discardPage, pageOf?_of_toNat h, hs]

theorem discardPage_emptied (h : page.toNat = n.val) (hs : (p.page n).state = .loading ∨ (p.page n).state = .ready) :
    p.discardPage page = (p.setPage n .cleared, .plain .ok) := by
  rcases hs with hs | hs <;> simp [PlanStore.discardPage, pageOf?_of_toNat h, hs]

theorem discardPage_active (h : page.toNat = n.val) (hs : (p.page n).state = .active) :
    p.discardPage page = (p, .plain .pageState) := by
  simp [PlanStore.discardPage, pageOf?_of_toNat h, hs]

end OpenDiscard

section OpenDiscardExec

variable {s : State} {tag page : Byte} {q : PlanStore} {y : Reply}

theorem exec_openPage (h : s.linkReady) (hq : s.plan.openPage page = (q, y)) :
    exec (.openPage tag page) s = .next (State.answered ⟨tag, .openPage page⟩ y (s.setPlan q)) :=
  congrArg Host.Outcome.next (plan_request_answered h (by simp) (by simp [runCall, planRequest, hq]))

theorem exec_discardPage (h : s.linkReady) (hq : s.plan.discardPage page = (q, y)) :
    exec (.discardPage tag page) s = .next (State.answered ⟨tag, .discardPage page⟩ y (s.setPlan q)) :=
  congrArg Host.Outcome.next (plan_request_answered h (by simp) (by simp [runCall, planRequest, hq]))

end OpenDiscardExec

/-- Settles O12, by the state of the page. -/
theorem pageOpenedOrDiscarded : Obligations.PageOpenedOrDiscarded := by
  intro s tag page h
  refine ⟨fun hp => ⟨exec_openPage h (openPage_bad_page hp), exec_discardPage h (discardPage_bad_page hp)⟩,
    fun n hn => ⟨fun hs => ?_, fun hs => ?_, fun hs => ?_, fun hs => ?_⟩⟩
  · exact ⟨exec_openPage h (openPage_opened hn (.inl hs)), exec_discardPage h (discardPage_empty hn hs)⟩
  · exact ⟨exec_openPage h (openPage_opened hn (.inr hs)), exec_discardPage h (discardPage_emptied hn (.inr hs))⟩
  · exact ⟨exec_openPage h (openPage_refused hn (.inl hs)), exec_discardPage h (discardPage_emptied hn (.inl hs))⟩
  · exact ⟨exec_openPage h (openPage_refused hn (.inr hs)), exec_discardPage h (discardPage_active hn hs)⟩

/-! ## CLOSE_PAGE (01 R7, R20) -/

section Close

variable {s : State} {tag page count endByte : Byte} {q : PlanStore} {y : Reply}

theorem closePage_refused (hq : s.plan.closePage page count endByte = (s.plan, y)) (hy : y.code ≠ .ok) :
    closePage page count endByte s = (s, y) := by
  unfold closePage
  rw [hq]
  dsimp only [State.setPlan_same]
  split
  · exact absurd ‹_› hy
  · rfl

/-- No hold waits for the page closed: the store changes and nothing else. -/
theorem closePage_unawaited (hq : s.plan.closePage page count endByte = (q, .plain .ok))
    (hwait : (s.setPlan q).waitsFor page = false) : closePage page count endByte s = (s.setPlan q, .plain .ok) := by
  unfold closePage
  rw [hq]
  dsimp only
  split
  · rw [hwait]; rfl
  · rfl

/-- The crossing is tried again (01 R20). -/
theorem closePage_awaited {w : Pos} (hq : s.plan.closePage page count endByte = (q, .plain .ok))
    (hw : q.workhead = some w) (hwait : (s.setPlan q).waitsFor page = true) :
    closePage page count endByte s = (settle (retryCrossing w (s.setPlan q)), .plain .ok) := by
  unfold closePage
  rw [hq]
  dsimp only [State.setPlan_plan]
  rw [hw]
  dsimp only [Reply.plain]
  rw [hwait]
  rfl

/-- Which page a HOLD(PLAN_EXHAUSTED) waits for (01 R20). -/
theorem waitsFor_iff {n : Fin 4} (hn : page.toNat = n.val) :
    s.waitsFor page = true ↔ s.seq.state = .hold ∧ s.seq.hold = some .planExhausted
      ∧ ∃ w : Pos, s.plan.workhead = some w ∧ n = w.page + 1 := by
  unfold State.waitsFor
  split
  · next hw => simp [hw]
  · next w hw => simp [hw, pageOf?_of_toNat hn]

theorem exec_closePage_refused (h : s.linkReady) (hq : s.plan.closePage page count endByte = (s.plan, y))
    (hy : y.code ≠ .ok) :
    exec (.closePage tag page count endByte) s = .next (State.answered ⟨tag, .closePage page count endByte⟩ y s) :=
  congrArg Host.Outcome.next
    (unchanged_request_answered h (by simp) (closePage_refused (s := s.queued _) (by simpa using hq) hy))

theorem exec_closePage_unawaited (h : s.linkReady) (hq : s.plan.closePage page count endByte = (q, .plain .ok))
    (hwait : (s.setPlan q).waitsFor page = false) :
    exec (.closePage tag page count endByte) s
      = .next (State.answered ⟨tag, .closePage page count endByte⟩ (.plain .ok) (s.setPlan q)) :=
  congrArg Host.Outcome.next
    (plan_request_answered h (by simp) (closePage_unawaited (s := s.queued _) (by simpa using hq) hwait))

theorem exec_closePage_awaited {w : Pos} (h : s.linkReady)
    (hq : s.plan.closePage page count endByte = (q, .plain .ok)) (hw : q.workhead = some w)
    (hwait : (s.setPlan q).waitsFor page = true) :
    ∃ t, exec (.closePage tag page count endByte) s = .next t
      ∧ t.reportOf (s.moved ⟨tag, .closePage page count endByte⟩ (.plain .ok)
        (settle (retryCrossing w (s.setPlan q)))) := by
  refine ⟨_, rfl, request_settled h (by simp) ?_ (by simp)⟩
  rw [← retryCrossing_queued]
  exact closePage_awaited (s := s.queued _) (by simpa using hq) hw hwait

end Close

/-- The crossing tried again and taken. -/
theorem retryCrossing_taken {s : State} {w : Pos} (hwork : (s.plan.page (w.page + 1)).workable = true)
    (hord : inOrder (s.plan.page w.page) (s.plan.page (w.page + 1)) = true) :
    retryCrossing w s = { s with
      plan := (s.plan.cross w s.params.chordFront).1
      chainage := { s.chainage with
        move := { s.chainage.move with state := .noMove, drift := none, outcome := none, timer := none } }
      seq := { s.seq with state := .indexing, hold := none, advanceOwed := false, kind := .normal } } := by
  unfold retryCrossing
  rw [cross_taken hwork hord]
  rfl

/-- The crossing tried again and refused by the order check. -/
theorem retryCrossing_refused {s : State} {w : Pos} (hwork : (s.plan.page (w.page + 1)).workable = true)
    (hord : inOrder (s.plan.page w.page) (s.plan.page (w.page + 1)) = false) :
    retryCrossing w s = { s with
      plan := s.plan.setOrderFault (w.page + 1) true, latches := s.latches ||| 0x08 } := by
  unfold retryCrossing
  rw [cross_refused hwork hord]
  rfl

/-- Settles O15: the checks in their order, then the page made READY, and the crossing retried where a hold waits for
it. -/
theorem closedPageIsReady : Obligations.ClosedPageIsReady := by
  intro s tag page count endByte h
  refine ⟨fun hp => exec_closePage_refused h (closePage_bad_page _ _ hp) (by decide), fun n hn =>
    ⟨fun hs => exec_closePage_refused h (closePage_not_loading _ _ hn hs) (by decide),
     fun hs hbad => exec_closePage_refused h (closePage_bad_operand hn hs (by omega)) (by decide),
     fun e hs he hpos hmax => ⟨fun i hi hnone hbefore => ?_, fun hall => ?_⟩⟩⟩
  · have hfirst := firstUnwritten_eq_some.mpr ⟨hi, hnone, hbefore⟩
    exact exec_closePage_refused h (closePage_unwritten hn hs he hpos hmax hfirst) (by simp)
  have hwritten := firstUnwritten_eq_none.mpr hall
  refine ⟨fun i hi hdis hbefore => ?_, fun hrise => ?_⟩
  · have hfirst := firstDisorder_eq_some_succ.mpr ⟨hi, hdis, hbefore⟩
    exact exec_closePage_refused h (closePage_disorder hn hs he hpos hmax hwritten hfirst) (by simp)
  have hclosed := closePage_closed hn hs he hpos hmax hwritten (firstDisorder_eq_none.mpr hrise)
  refine ⟨fun hwait => ?_, fun w hw hwait => ⟨?_, fun a b ha hb => ?_⟩⟩
  · refine exec_closePage_unawaited h hclosed ?_
    rw [← Bool.not_eq_true, waitsFor_iff hn]
    exact hwait
  · exact exec_closePage_awaited h hclosed hw ((waitsFor_iff hn).mpr hwait)
  · obtain ⟨-, -, v, hv, hnv⟩ := hwait
    cases hw.symm.trans hv
    subst hnv
    have hord := inOrder_eq_decide ha hb
    exact ⟨fun hab => retryCrossing_taken (by simp [Page.workable]) (hord.trans (decide_eq_true hab)),
      fun hba => retryCrossing_refused (by simp [Page.workable]) (hord.trans (decide_eq_false (not_lt.mpr hba)))⟩

end Sys2Proof.Machine
end

section
/-! PROOFS. LOAD_RECORDS (01 R3, R5, R6, R13): where its records are placed, and its checks in their order. -/

namespace Sys2Proof.Machine

/-! ## Records placed in a page (01 R6) -/

theorem placeAt_length (records : List (Option SleeperRecord)) (i : Nat) (r : SleeperRecord) :
    (placeAt records i r).length = max records.length (i + 1) := by
  unfold placeAt
  split <;> simp <;> omega

/-- What a place holds after a record is written at `i`; a place that was not there holds none. -/
theorem placeAt_join (records : List (Option SleeperRecord)) (i : Nat) (r : SleeperRecord) (j : Nat) :
    ((placeAt records i r)[j]?).join = if j = i then some r else (records[j]?).join := by
  unfold placeAt
  split
  · next hi =>
    rw [List.getElem?_set]
    by_cases hj : j = i
    · subst hj; simp [hi]
    · simp [hj, Ne.symm hj]
  · next hi =>
    rw [List.append_assoc]
    by_cases hj : j < records.length
    · rw [List.getElem?_append_left hj, if_neg (by omega)]
    · rw [List.getElem?_append_right (by omega), List.getElem?_eq_none (l := records) (by omega)]
      rcases Nat.lt_trichotomy j i with hlt | rfl | hgt
      · rw [List.getElem?_append_left (by simp; omega), List.getElem?_replicate_of_lt (by omega), if_neg (by omega)]
        rfl
      · simp
      · rw [List.getElem?_eq_none (by simp; omega), if_neg (by omega)]

theorem placeAll_length_of_le (l : List SleeperRecord) : ∀ (records : List (Option SleeperRecord)) (i : Nat),
    i ≤ records.length → (placeAll records i l).length = max records.length (i + l.length) := by
  induction l with
  | nil => intro records i hi; simp [placeAll, hi]
  | cons r rest ih =>
    intro records i hi
    rw [placeAll, ih _ _ (by rw [placeAt_length]; omega), placeAt_length, List.length_cons]
    omega

/-- The count covers the records of a message. -/
theorem placeAll_length {l : List SleeperRecord} (hl : l ≠ []) (records : List (Option SleeperRecord)) (i : Nat) :
    (placeAll records i l).length = max records.length (i + l.length) := by
  obtain ⟨r, rest, rfl⟩ := List.exists_cons_of_ne_nil hl
  rw [placeAll, placeAll_length_of_le _ _ _ (by rw [placeAt_length]; omega), placeAt_length, List.length_cons]
  omega

/-- The records of a message stand at consecutive places, and the other places hold what they held. -/
theorem placeAll_join (l : List SleeperRecord) : ∀ (records : List (Option SleeperRecord)) (i j : Nat),
    ((placeAll records i l)[j]?).join = if i ≤ j ∧ j < i + l.length then l[j - i]? else (records[j]?).join := by
  induction l with
  | nil => intro records i j; rw [placeAll, if_neg (by simp)]
  | cons r rest ih =>
    intro records i j
    rw [placeAll, ih, placeAt_join, List.length_cons]
    rcases Nat.lt_trichotomy j i with hlt | rfl | hgt
    · simp [show ¬i + 1 ≤ j by omega, show ¬i ≤ j by omega, show j ≠ i by omega]
    · simp
    · have hsub : j - i = (j - (i + 1)) + 1 := by omega
      by_cases hend : j < i + 1 + rest.length
      · rw [if_pos ⟨by omega, hend⟩, if_pos ⟨by omega, by omega⟩, hsub, List.getElem?_cons_succ]
      · rw [if_neg (by omega), if_neg (by omega), if_neg (by omega)]

/-! ## The records of a message validated (01 R5, R13) -/

theorem validateAll_inl {records : List WireRecord} : ∀ {l : List SleeperRecord} (k : Nat),
    records.map validateRecord? = l.map some → validateAll k records = .inl l := by
  induction records with
  | nil =>
    intro l k h
    cases l with
    | nil => rfl
    | cons x xs => cases h
  | cons r rest ih =>
    intro l k h
    cases l with
    | nil => cases h
    | cons x xs =>
      simp only [List.map_cons, List.cons.injEq] at h
      simp [validateAll, h.1, ih (k + 1) h.2]

/-- The first record that fails gives its position. -/
theorem validateAll_inr {good : List WireRecord} {bad : WireRecord} {more : List WireRecord}
    (hbad : validateRecord? bad = none) : ∀ (k : Nat), (∀ x ∈ good, (validateRecord? x).isSome = true) →
    validateAll k (good ++ bad :: more) = .inr (k + good.length) := by
  induction good with
  | nil => intro k _; simp [validateAll, hbad]
  | cons g rest ih =>
    intro k hgood
    obtain ⟨x, hx⟩ := Option.isSome_iff_exists.mp (hgood g (by simp))
    have hrest := ih (k + 1) fun y hy => hgood y (by simp [hy])
    simp only [List.cons_append, validateAll, hx, hrest, List.length_cons]
    congr 1
    omega

/-! ## The checks of LOAD_RECORDS in their order -/

section Load

variable {p : PlanStore} {page first : Byte} {records : List WireRecord} {n : Fin 4}

theorem loadRecords_bad_page (h : 3 < page.toNat) : p.loadRecords page first records = (p, badPosition 0) := by
  simp [PlanStore.loadRecords, pageOf?_none h]

theorem loadRecords_not_loading (h : page.toNat = n.val) (hs : (p.page n).state ≠ .loading) :
    p.loadRecords page first records = (p, .plain .pageState) := by
  simp [PlanStore.loadRecords, pageOf?_of_toNat h, hs]

theorem loadRecords_bad_count (h : page.toNat = n.val) (hs : (p.page n).state = .loading)
    (hbad : records = [] ∨ 8 < records.length ∨ 64 < first.toNat + records.length) :
    p.loadRecords page first records = (p, badPosition 0) := by
  have hlen : records = [] ↔ records.length < 1 := by rw [Nat.lt_one_iff, List.length_eq_zero_iff]
  rw [hlen] at hbad
  simp only [PlanStore.loadRecords, pageOf?_of_toNat h, hs, if_true]
  by_cases hcount : records.length < 1 ∨ 8 < records.length
  · rw [if_pos hcount]
  · rw [if_neg hcount, if_pos (by omega)]

section Fits

variable (h : page.toNat = n.val) (hs : (p.page n).state = .loading) (hpos : 1 ≤ records.length)
  (hmax : records.length ≤ 8) (hend : first.toNat + records.length ≤ 64)

include h hs hpos hmax hend

theorem loadRecords_bad_record {k : Nat} (hv : validateAll 1 records = .inr k) :
    p.loadRecords page first records = (p, badPosition k) := by
  have hcount : ¬(records.length < 1 ∨ 8 < records.length) := by omega
  have hplace : ¬63 < first.toNat + records.length - 1 := by omega
  simp only [PlanStore.loadRecords, pageOf?_of_toNat h, hs, if_true, hcount, hplace, if_false, hv]

theorem loadRecords_loaded {l : List SleeperRecord} (hv : validateAll 1 records = .inl l) :
    p.loadRecords page first records
      = (p.setPage n { p.page n with records := placeAll (p.page n).records first.toNat l },
        ⟨.ok, [BitVec.ofNat 8 (placeAll (p.page n).records first.toNat l).length]⟩) := by
  have hcount : ¬(records.length < 1 ∨ 8 < records.length) := by omega
  have hplace : ¬63 < first.toNat + records.length - 1 := by omega
  simp only [PlanStore.loadRecords, pageOf?_of_toNat h, hs, if_true, hcount, hplace, if_false, hv]

end Fits

theorem exec_loadRecords {s : State} {tag : Byte} {q : PlanStore} {y : Reply} (h : s.linkReady)
    (hsize : loadBodySize records ≤ 240) (hq : s.plan.loadRecords page first records = (q, y)) :
    exec (.loadRecords tag page first records) s
      = .next (State.answered ⟨tag, .loadRecords page first records⟩ y (s.setPlan q)) :=
  (if_pos hsize).trans (congrArg Host.Outcome.next
    (plan_request_answered h (by simp) (by simp [runCall, planRequest, hq])))

end Load

/-- Settles O13: the checks in their order, then every record placed, or none. -/
theorem recordsLoadedTogetherOrNotAtAll : Obligations.RecordsLoadedTogetherOrNotAtAll := by
  intro s tag page first records h
  refine ⟨fun hsize => if_neg (not_le.mpr hsize), fun hsize hp => exec_loadRecords h hsize (loadRecords_bad_page hp),
    fun n hsize hn => ⟨fun hs => exec_loadRecords h hsize (loadRecords_not_loading hn hs),
      fun hs hbad => exec_loadRecords h hsize (loadRecords_bad_count hn hs hbad),
      fun hs hpos hmax hend => ⟨fun l hl => ?_, fun good bad more hrec hgood hbad => ?_⟩⟩⟩
  · have hlen : l.length = records.length := by simpa using (congrArg List.length hl).symm
    have hne : l ≠ [] := List.ne_nil_of_length_pos (by omega)
    refine ⟨_, exec_loadRecords h hsize (loadRecords_loaded hn hs hpos hmax hend (validateAll_inl 1 hl)), hs, rfl, rfl,
      placeAll_length hne _ _, fun i => placeAll_join l _ _ _⟩
  · have hv : validateAll 1 records = .inr (good.length + 1) := by
      rw [hrec, validateAll_inr hbad 1 hgood, Nat.add_comm]
    exact exec_loadRecords h hsize (loadRecords_bad_record hn hs hpos hmax hend hv)

end Sys2Proof.Machine
end

section
/-! PROOFS. The validation of a record (01 R10 to R13): each field's check, and the record as a whole. -/

namespace Sys2Proof.Machine

/-! ## The check of one field -/

theorem yesNo?_iff {b : Byte} {e : Bool} : yesNo? b = some e ↔ b = if e then 1 else 0 := by
  rw [yesNo?_eq_some, ← BitVec.toNat_inj]
  cases e <;> rfl

/-- The row of the kinds in 11 "Codes" is the model's. -/
theorem kindCode_eq (k : SleeperKind) : kindCode k = k.code := by cases k <;> decide

theorem railCode_eq (m : MainRail) : codeIn [.left, .right] m = m.code := by cases m <;> decide

theorem kindOfByte?_iff {b : Byte} {k : SleeperKind} : SleeperKind.ofByte? b = some k ↔ b = k.code := by
  unfold SleeperKind.ofByte?
  rw [← BitVec.toNat_inj]
  split <;> cases k <;> simp_all [SleeperKind.code]

theorem railOfByte?_iff {b : Byte} {m : MainRail} : MainRail.ofByte? b = some m ↔ b = m.code := by
  unfold MainRail.ofByte?
  rw [← BitVec.toNat_inj]
  split <;> cases m <;> simp_all [MainRail.code]

theorem railsOfByte?_iff {b : Byte} {e : Bool} : railsOfByte? b = some e ↔ b = if e then 7 else 3 := by
  unfold railsOfByte?
  rw [← BitVec.toNat_inj]
  split <;> cases e <;> simp_all

theorem signedIn?_iff {lo hi x : Int} {v : BitVec 16} :
    signedIn? lo hi v = some x ↔ x = v.toInt ∧ lo ≤ x ∧ x ≤ hi := by
  unfold signedIn?
  constructor
  · intro h
    split at h
    · next hr => cases h; exact ⟨rfl, hr⟩
    · cases h
  · rintro ⟨rfl, hr⟩
    exact if_pos hr

theorem optionalIn?_iff {lo hi : Int} {o : Option (BitVec 16)} {y : Option Int} :
    optionalIn? lo hi o = some y ↔ y = o.map BitVec.toInt ∧ ∀ v, y = some v → lo ≤ v ∧ v ≤ hi := by
  cases o with
  | none =>
    simp only [optionalIn?, Option.some.injEq, Option.map_none]
    constructor
    · rintro rfl; exact ⟨rfl, fun v hv => by cases hv⟩
    · rintro ⟨rfl, -⟩; rfl
  | some v =>
    simp only [optionalIn?, Option.map_eq_some_iff, signedIn?_iff, Option.map_some]
    constructor
    · rintro ⟨x, ⟨rfl, hx⟩, rfl⟩; exact ⟨rfl, fun u hu => by cases hu; exact hx⟩
    · rintro ⟨rfl, hr⟩; exact ⟨_, ⟨rfl, hr _ rfl⟩, rfl⟩

/-! ## The head list (01 R12) -/

theorem headEntry?_iff {e : Byte × BitVec 16} {f : Fin 4 × Int} :
    headEntry? e = some f ↔ (f.1.val + 1, f.2) = (e.1.toNat, e.2.toInt) ∧ -1200 ≤ f.2 ∧ f.2 ≤ 1200 := by
  obtain ⟨i, x⟩ := f
  simp only [headEntry?, Option.bind_eq_some_iff, signedIn?_iff, Prod.mk.injEq]
  constructor
  · rintro ⟨y, ⟨rfl, hy⟩, hhead⟩
    split at hhead <;> simp_all
    all_goals obtain ⟨rfl, rfl⟩ := hhead; simp_all
  · rintro ⟨⟨hi, rfl⟩, hr⟩
    refine ⟨_, ⟨rfl, hr⟩, ?_⟩
    rw [← hi]
    fin_cases i <;> rfl

theorem allSome_iff {α : Type} {l : List (Option α)} {m : List α} : allSome l = some m ↔ l = m.map some := by
  induction l generalizing m with
  | nil => cases m <;> simp [allSome]
  | cons o rest ih =>
    cases o with
    | none => cases m <;> simp [allSome]
    | some x =>
      cases m with
      | nil => simp [allSome]
      | cons y ys => simp [allSome, ih, and_comm]

theorem mapHeads_iff {heads : List (Byte × BitVec 16)} : ∀ {l : List (Fin 4 × Int)},
    heads.map headEntry? = l.map some ↔
      l.map (fun e => ((e.1.val + 1 : Nat), e.2)) = heads.map (fun e => (e.1.toNat, e.2.toInt))
        ∧ ∀ e ∈ l, -1200 ≤ e.2 ∧ e.2 ≤ 1200 := by
  induction heads with
  | nil => intro l; cases l <;> simp
  | cons h rest ih =>
    intro l
    cases l with
    | nil => simp
    | cons e es =>
      simp only [List.map_cons, List.cons.injEq, headEntry?_iff, ih, List.forall_mem_cons]
      tauto

theorem headListOf?_iff {heads : List (Byte × BitVec 16)} {l : List (Fin 4 × Int)} :
    headListOf? heads = some l ↔
      (l.map (fun e => ((e.1.val + 1 : Nat), e.2)) = heads.map (fun e => (e.1.toNat, e.2.toInt))
        ∧ ∀ e ∈ l, -1200 ≤ e.2 ∧ e.2 ≤ 1200)
      ∧ heads.length ≤ 4 ∧ (l.map Prod.fst).Nodup ∧ lateralSpaced (lateralTargets l) = true := by
  simp only [headListOf?, Option.bind_eq_some_iff, allSome_iff, mapHeads_iff]
  constructor
  · rintro ⟨m, hm, hif⟩
    split at hif
    · next hc =>
      have hlen : m.length = heads.length := by simpa using congrArg List.length hm.1
      cases hif
      exact ⟨hm, hlen ▸ hc⟩
    · cases hif
  · rintro ⟨hm, hc⟩
    have hlen : l.length = heads.length := by simpa using congrArg List.length hm.1
    exact ⟨l, hm, if_pos (hlen ▸ hc)⟩

/-- A listed head stands at its listed place (01 R12). -/
theorem lateralTargets_listed {heads : List (Fin 4 × Int)} (hn : (heads.map Prod.fst).Nodup) {i : Fin 4} {x : Int}
    (hx : (i, x) ∈ heads) : (lateralTargets heads).get i = x := by
  have hfind : heads.find? (fun e => decide (e.1 = i)) = some (i, x) := by
    cases hf : heads.find? (fun e => decide (e.1 = i)) with
    | none => simpa using List.find?_eq_none.mp hf _ hx
    | some e =>
      have hi : e.1 = i := by simpa using List.find?_some hf
      exact congrArg some (List.inj_on_of_nodup_map hn (List.mem_of_find?_eq_some hf) hx hi)
  simp [lateralTargets, hfind]

/-- A head that is not listed stands at its default. -/
theorem lateralTargets_default {heads : List (Fin 4 × Int)} {i : Fin 4} (hi : ∀ x : Int, (i, x) ∉ heads) :
    (lateralTargets heads).get i = defaultLateral.get i := by
  have hfind : heads.find? (fun e => decide (e.1 = i)) = none :=
    List.find?_eq_none.mpr fun e he => by
      simp only [decide_eq_true_eq]
      rintro rfl
      exact hi e.2 he
  simp [lateralTargets, hfind]

/-! ## The record as a whole -/

/-- Every check of a record passed, with the field it stores. -/
structure RecordChecked (w : WireRecord) (r : SleeperRecord) : Prop where
  kind : SleeperKind.ofByte? w.kind = some r.kind
  branch : railsOfByte? w.rails = some r.branch
  refRail : MainRail.ofByte? w.refRail = some r.refRail
  vd : signedIn? (-3000) 3000 w.vd = some r.vd
  vvd : signedIn? (-1000) 1000 w.vvd = some r.vvd
  cd : signedIn? (-1800) 1800 w.cd = some r.cd
  skip : yesNo? w.skip = some r.skip
  confirm : yesNo? w.confirm = some r.confirm
  runOut : yesNo? w.runOut = some r.runOut
  noDetect : yesNo? w.noDetect = some r.noDetect
  eF : optionalIn? (-1000) 1000 w.eF = some r.eF
  eFv : optionalIn? (-1000) 1000 w.eFv = some r.eFv
  liftOverride : optionalIn? 0 1500 w.liftOverride = some r.liftOverride
  shiftOverride : optionalIn? (-1500) 1500 w.shiftOverride = some r.shiftOverride
  branchLift : optionalIn? 0 1500 w.branchLift = some r.branchLift
  heads : headListOf? w.heads = some r.heads
  chainage : r.chainage = w.chainage.toNat
  obstacles : r.obstacles = w.obstacles
  inRange : w.chainage.toNat ≤ chainageMax
  spare : w.spare = 0
  withBranch : r.branchLift = none ∨ r.branch = true

theorem validateRecord?_iff {w : WireRecord} {r : SleeperRecord} : validateRecord? w = some r ↔ RecordChecked w r := by
  constructor
  · intro h
    obtain ⟨kind, h1, h⟩ := Option.bind_eq_some_iff.mp h
    obtain ⟨branch, h2, h⟩ := Option.bind_eq_some_iff.mp h
    obtain ⟨refRail, h3, h⟩ := Option.bind_eq_some_iff.mp h
    obtain ⟨vd, h4, h⟩ := Option.bind_eq_some_iff.mp h
    obtain ⟨vvd, h5, h⟩ := Option.bind_eq_some_iff.mp h
    obtain ⟨cd, h6, h⟩ := Option.bind_eq_some_iff.mp h
    obtain ⟨skip, h7, h⟩ := Option.bind_eq_some_iff.mp h
    obtain ⟨confirm, h8, h⟩ := Option.bind_eq_some_iff.mp h
    obtain ⟨runOut, h9, h⟩ := Option.bind_eq_some_iff.mp h
    obtain ⟨noDetect, h10, h⟩ := Option.bind_eq_some_iff.mp h
    obtain ⟨eF, h11, h⟩ := Option.bind_eq_some_iff.mp h
    obtain ⟨eFv, h12, h⟩ := Option.bind_eq_some_iff.mp h
    obtain ⟨lift, h13, h⟩ := Option.bind_eq_some_iff.mp h
    obtain ⟨shift, h14, h⟩ := Option.bind_eq_some_iff.mp h
    obtain ⟨branchLift, h15, h⟩ := Option.bind_eq_some_iff.mp h
    obtain ⟨heads, h16, h⟩ := Option.bind_eq_some_iff.mp h
    split at h
    · next hc =>
      obtain ⟨hrange, hspare, hbranch⟩ := hc
      cases h
      exact ⟨h1, h2, h3, h4, h5, h6, h7, h8, h9, h10, h11, h12, h13, h14, h15, h16, rfl, rfl, hrange, hspare, hbranch⟩
    · cases h
  · rintro ⟨h1, h2, h3, h4, h5, h6, h7, h8, h9, h10, h11, h12, h13, h14, h15, h16, hchainage, hobstacles, hrange, hspare,
      hbranch⟩
    unfold validateRecord?
    rw [h1, h2, h3, h4, h5, h6, h7, h8, h9, h10, h11, h12, h13, h14, h15, h16]
    refine (if_pos ⟨hrange, hspare, hbranch⟩).trans ?_
    rw [← hchainage, ← hobstacles]

theorem lateralSpaced_iff (q : Quad Int) :
    lateralSpaced q = true ↔ q.a + 260 ≤ q.b ∧ q.b + 260 ≤ q.c ∧ q.c + 260 ≤ q.d := by
  unfold lateralSpaced headClearance
  exact decide_eq_true_iff

theorem recordChecked_iff {w : WireRecord} {r : SleeperRecord} : RecordChecked w r ↔ RecordStored w r := by
  constructor
  · rintro ⟨h1, h2, h3, h4, h5, h6, h7, h8, h9, h10, h11, h12, h13, h14, h15, h16, hchainage, hobstacles, hrange, hspare,
      hbranch⟩
    rw [kindOfByte?_iff, ← kindCode_eq] at h1
    rw [railsOfByte?_iff] at h2
    rw [railOfByte?_iff, ← railCode_eq] at h3
    rw [signedIn?_iff] at h4 h5 h6
    rw [yesNo?_iff] at h7 h8 h9 h10
    rw [optionalIn?_iff] at h11 h12 h13 h14 h15
    obtain ⟨⟨hlist, hplaces⟩, hlen, hnodup, hspaced⟩ := headListOf?_iff.mp h16
    obtain ⟨hab, hbc, hcd⟩ := (lateralSpaced_iff _).mp hspaced
    unfold chainageMax at hrange
    exact ⟨hchainage, by omega, h1, h2, h3, hobstacles, h4.1, h4.2.1, h4.2.2, h5.1, h5.2.1, h5.2.2, h6.1, h6.2.1, h6.2.2,
      h7, h8, h9, h10, h11.2, h12.2, h13.2, h14.2,
      fun v hv => ⟨(h15.2 v hv).1, (h15.2 v hv).2, hbranch.resolve_left (by simp [hv])⟩,
      hnodup, hplaces, hab, hbc, hcd, h11.1, h12.1, h13.1, h14.1, h15.1, hspare, hlen, hlist⟩
  · rintro ⟨hchainage, hrange, h1, h2, h3, hobstacles, hvd, hvd1, hvd2, hvvd, hvvd1, hvvd2, hcd, hcd1, hcd2,
      h7, h8, h9, h10, h11, h12, h13, h14, h15, hnodup, hplaces, hlab, hlbc, hlcd, heF, heFv, hlift, hshift, hbranch,
      hspare, hlen, hlist⟩
    refine ⟨kindOfByte?_iff.mpr (h1.trans (kindCode_eq _)), railsOfByte?_iff.mpr h2,
      railOfByte?_iff.mpr (h3.trans (railCode_eq _)), signedIn?_iff.mpr ⟨hvd, hvd1, hvd2⟩,
      signedIn?_iff.mpr ⟨hvvd, hvvd1, hvvd2⟩, signedIn?_iff.mpr ⟨hcd, hcd1, hcd2⟩, yesNo?_iff.mpr h7, yesNo?_iff.mpr h8,
      yesNo?_iff.mpr h9, yesNo?_iff.mpr h10, optionalIn?_iff.mpr ⟨heF, h11⟩, optionalIn?_iff.mpr ⟨heFv, h12⟩,
      optionalIn?_iff.mpr ⟨hlift, h13⟩, optionalIn?_iff.mpr ⟨hshift, h14⟩,
      optionalIn?_iff.mpr ⟨hbranch, fun v hv => ⟨(h15 v hv).1, (h15 v hv).2.1⟩⟩,
      headListOf?_iff.mpr ⟨⟨hlist, hplaces⟩, hlen, hnodup, (lateralSpaced_iff _).mpr ⟨hlab, hlbc, hlcd⟩⟩,
      hchainage, hobstacles, by unfold chainageMax; omega, hspare, ?_⟩
    cases hb : r.branchLift with
    | none => exact .inl rfl
    | some v => exact .inr (h15 v hb).2.2

/-- Settles O14, field by field. -/
theorem validatedRecordInRange : Obligations.ValidatedRecordInRange :=
  ⟨fun _ _ => validateRecord?_iff.trans recordChecked_iff,
    fun _ _ hn => ⟨fun _ hx => lateralTargets_listed hn hx, fun hi => lateralTargets_default hi⟩⟩

end Sys2Proof.Machine
end

section
/-! PROOFS. READ_RECORD (01 R9) and the bytes of a stored record (01 R13). -/

namespace Sys2Proof.Machine

/-! ## The fields of a stored record are the bytes they were read from -/

theorem unsignedField_chainage {v : BitVec 32} (h : v.toNat ≤ chainageMax) : unsignedField 4 v.toNat = bytes4 v := by
  unfold chainageMax at h
  exact (if_pos (by omega)).trans (congrArg (beBytes 4) (Int.toNat_natCast _))

theorem signedField_toInt (v : BitVec 16) : signedField 2 v.toInt = bytes2 v := by
  have hmod : (v.toInt % 256 ^ 2).toNat = v.toNat := by
    rw [BitVec.toInt_eq_toNat_cond]
    split <;> omega
  have hlo := BitVec.le_toInt v
  have hhi := BitVec.toInt_lt (x := v)
  exact (if_pos (by omega)).trans (congrArg (beBytes 2) hmod)

/-- The optional values present, in the order of their bits, take the bytes they came in. -/
theorem values_bytes (l : List (Option (BitVec 16))) :
    ((l.map (Option.map BitVec.toInt)).filterMap id).flatMap (signedField 2) = (l.filterMap id).flatMap bytes2 := by
  induction l with
  | nil => rfl
  | cons o rest ih =>
    cases o with
    | none => simpa using ih
    | some v => simp_all [signedField_toInt]

theorem maskByte_spare_zero (a b c d e : Bool) :
    maskByte [a, b, c, d, e, false, false, false] = maskByte [a, b, c, d, e] := by
  have hspare : maskByte [false, false, false] = maskByte [] := rfl
  simp only [maskByte] at hspare ⊢
  rw [hspare]

/-- The presence byte of a record with no spare bit set says which values are present. -/
theorem recordPresence_of_spare {w : WireRecord} (h : w.spare = 0) :
    recordPresence w = maskByte [w.eF.isSome, w.eFv.isSome, w.liftOverride.isSome, w.shiftOverride.isSome,
      w.branchLift.isSome] := by
  simp only [recordPresence, h]
  exact maskByte_spare_zero _ _ _ _ _

/-- The head list takes the bytes it came in: its entries are the same heads at the same places. -/
theorem heads_bytes {wire : List (Byte × BitVec 16)} : ∀ {l : List (Fin 4 × Int)},
    l.map (fun e => ((e.1.val + 1 : Nat), e.2)) = wire.map (fun e => (e.1.toNat, e.2.toInt)) →
      l.flatMap (fun e => BitVec.ofNat 8 (e.1.val + 1) :: signedField 2 e.2)
        = wire.flatMap fun e => e.1 :: bytes2 e.2 := by
  induction wire with
  | nil => intro l h; rw [List.map_eq_nil_iff.mp h]; rfl
  | cons f rest ih =>
    intro l h
    cases l with
    | nil => cases h
    | cons e es =>
      obtain ⟨hentry, hes⟩ := List.cons.inj h
      obtain ⟨hhead, hplace⟩ := Prod.mk.inj hentry
      simp only [List.flatMap_cons, ih hes, hhead, hplace, signedField_toInt, BitVec.ofNat_toNat, BitVec.setWidth_eq]

/-- A stored record reads back as it was loaded (01 R13). -/
theorem bytes_of_recordChecked {w : WireRecord} {r : SleeperRecord} (h : RecordChecked w r) :
    r.bytes = wireRecordBytes w := by
  obtain ⟨hkind, hrails, hrefRail, hvd, hvvd, hcd, hskip, hconfirm, hrunOut, hnoDetect, heF, heFv, hlift, hshift, hbranch,
    hheads, hchainage, hobstacles, hrange, hspare, -⟩ := h
  obtain ⟨⟨hlist, -⟩, -⟩ := headListOf?_iff.mp hheads
  have hlen : r.heads.length = w.heads.length := by simpa using congrArg List.length hlist
  have hvalues : r.values
      = [w.eF, w.eFv, w.liftOverride, w.shiftOverride, w.branchLift].map (Option.map BitVec.toInt) := by
    simp only [SleeperRecord.values, List.map, (optionalIn?_iff.mp heF).1, (optionalIn?_iff.mp heFv).1,
      (optionalIn?_iff.mp hlift).1, (optionalIn?_iff.mp hshift).1, (optionalIn?_iff.mp hbranch).1]
  have hpresence : maskByte (r.values.map Option.isSome) = recordPresence w := by
    simp only [hvalues, recordPresence_of_spare hspare, List.map, Option.isSome_map]
  unfold SleeperRecord.bytes wireRecordBytes
  rw [hpresence, hvalues, values_bytes, heads_bytes hlist, hlen, hchainage, unsignedField_chainage hrange, hobstacles,
    (signedIn?_iff.mp hvd).1, (signedIn?_iff.mp hvvd).1, (signedIn?_iff.mp hcd).1, signedField_toInt, signedField_toInt,
    signedField_toInt, kindOfByte?_iff.mp hkind, railsOfByte?_iff.mp hrails, railOfByte?_iff.mp hrefRail,
    yesNo?_iff.mp hskip, yesNo?_iff.mp hconfirm, yesNo?_iff.mp hrunOut, yesNo?_iff.mp hnoDetect]
  rfl

/-! ## READ_RECORD by the state of the page (01 R9) -/

section Read

variable {p : PlanStore} {page index : Byte} {n : Fin 4}

theorem readRecord_bad_page (h : 3 < page.toNat) : p.readRecord page index = badPosition 0 := by
  simp [PlanStore.readRecord, pageOf?_none h]

theorem readRecord_empty (h : page.toNat = n.val) (hs : (p.page n).state = .empty) :
    p.readRecord page index = .plain .pageState := by
  simp [PlanStore.readRecord, pageOf?_of_toNat h, hs]

theorem readRecord_no_record (h : page.toNat = n.val) (hs : (p.page n).state ≠ .empty)
    (hx : (p.page n).at? index.toNat = none) : p.readRecord page index = badPosition 0 := by
  simp [PlanStore.readRecord, pageOf?_of_toNat h, hs, hx]

theorem readRecord_record {x : SleeperRecord} (h : page.toNat = n.val) (hs : (p.page n).state ≠ .empty)
    (hx : (p.page n).at? index.toNat = some x) : p.readRecord page index = ⟨.ok, page :: index :: x.bytes⟩ := by
  simp [PlanStore.readRecord, pageOf?_of_toNat h, hs, hx]

end Read

theorem exec_readRecord {s : State} {tag page index : Byte} {y : Reply} (h : s.linkReady)
    (hy : s.plan.readRecord page index = y) :
    exec (.readRecord tag page index) s = .next (State.answered ⟨tag, .readRecord page index⟩ y s) :=
  congrArg Host.Outcome.next (unchanged_request_answered h (by simp) (congrArg (Prod.mk _) hy))

/-- Settles O16, by the state of the page and what stands at the place. -/
theorem readRecordReturnsRecord : Obligations.ReadRecordReturnsRecord := fun _ _ _ _ h =>
  ⟨fun hp => exec_readRecord h (readRecord_bad_page hp), fun _ hn =>
    ⟨fun hs => exec_readRecord h (readRecord_empty hn hs),
      fun hs hx => exec_readRecord h (readRecord_no_record hn hs hx),
      fun _ hs hx => exec_readRecord h (readRecord_record hn hs hx),
      fun _ _ hv => bytes_of_recordChecked (validateRecord?_iff.mp hv)⟩⟩

end Sys2Proof.Machine
end

section
/-! PROOFS. The zone rule table and its requests (02 R27 to R30, R41): the validation of a rule, the bytes of a stored
rule, and the four requests. -/

namespace Sys2Proof.Machine

/-! ## The checks of a rule, each followed by the rest of the validation (02 R27) -/

/-- The key, then the rest. -/
def thenKey (r : WireRule) (next : RuleKey → Option ZoneRule) : Option ZoneRule :=
  match r.keyType.toNat with
  | 0 =>
    if r.lo.toNat ≤ chainageMax ∧ r.hi.toNat ≤ chainageMax ∧ r.lo.toNat ≤ r.hi.toNat then
      next (.chainage r.lo.toNat r.hi.toNat)
    else none
  | 1 => ((SleeperKind.ofByte? r.kind).map .kind).bind next
  | _ => none

/-- The max lift, checked where it is present, then the rest. -/
def thenLift (r : WireRule) (next : Option Int → Option ZoneRule) : Option ZoneRule :=
  (yesNo? r.maxLiftPresent).bind fun present =>
    if present then
      (if r.maxLift.toNat ≤ 1500 then some (some (r.maxLift.toNat : Int)) else none).bind next
    else next none

/-- The reduction, then the rest. -/
def thenReduction (r : WireRule) (next : Int → Option ZoneRule) : Option ZoneRule :=
  if r.reduction.toNat ≤ 50 then next r.reduction.toNat else none

/-- The insertions, then the rest. -/
def thenInsertions (r : WireRule) (next : Option Nat → Option ZoneRule) : Option ZoneRule :=
  match r.insertions.toNat with
  | 0 => next none
  | 1 => next (some 1)
  | 2 => next (some 2)
  | _ => none

theorem validateRule?_eq (r : WireRule) : validateRule? r =
    (yesNo? r.enabled).bind fun enabled => thenKey r fun key => thenLift r fun lift =>
      (yesNo? r.shiftInhibit).bind fun inhibit => thenReduction r fun reduction =>
        thenInsertions r fun insertions => (yesNo? r.confirm).bind fun confirm => (yesNo? r.skip).bind fun skip =>
          some ⟨enabled, key, r.forbid, lift, inhibit, reduction, insertions, confirm, skip⟩ := rfl

section Checks

variable {r : WireRule} {z : ZoneRule}

theorem yesNo?_bind_iff {b : Byte} {next : Bool → Option ZoneRule} :
    (yesNo? b).bind next = some z ↔ ∃ e, b = boolByte e ∧ next e = some z := by
  simp only [Option.bind_eq_some_iff, yesNo?_iff, boolByte]

theorem thenKey_iff {next : RuleKey → Option ZoneRule} : thenKey r next = some z ↔
    ∃ key, ((r.keyType = 0 ∧ r.lo.toNat ≤ r.hi.toNat ∧ r.hi.toNat ≤ 99999999
          ∧ key = .chainage r.lo.toNat r.hi.toNat)
        ∨ (r.keyType = 1 ∧ ∃ k : SleeperKind, k.code = r.kind ∧ key = .kind k)) ∧ next key = some z := by
  unfold thenKey chainageMax
  simp only [← BitVec.toNat_inj (x := r.keyType)]
  split
  · next h =>
    simp only [h, Option.ite_none_right_eq_some]
    constructor
    · rintro ⟨⟨-, hmax, hle⟩, hnext⟩
      exact ⟨_, .inl ⟨rfl, hle, hmax, rfl⟩, hnext⟩
    · rintro ⟨key, ⟨-, hle, hmax, rfl⟩ | ⟨hone, -⟩, hnext⟩
      · exact ⟨⟨hle.trans hmax, hmax, hle⟩, hnext⟩
      · cases hone
  · next h => simp [h, Option.bind_eq_some_iff, kindOfByte?_iff, eq_comm (a := r.kind)]
  · next hzero hone => exact iff_of_false nofun fun ⟨_, hkey, _⟩ => hkey.elim (hzero ·.1) (hone ·.1)

theorem thenLift_iff {next : Option Int → Option ZoneRule} : thenLift r next = some z ↔
    ∃ lift, ((r.maxLiftPresent = 0 ∧ lift = none)
      ∨ (r.maxLiftPresent = 1 ∧ r.maxLift.toNat ≤ 1500 ∧ lift = some (r.maxLift.toNat : Int)))
      ∧ next lift = some z := by
  rw [thenLift, yesNo?_bind_iff]
  simp [boolByte, or_and_right, exists_or, and_assoc, Option.bind_eq_some_iff]

theorem thenReduction_iff {next : Int → Option ZoneRule} : thenReduction r next = some z ↔
    r.reduction.toNat ≤ 50 ∧ next r.reduction.toNat = some z := Option.ite_none_right_eq_some

theorem thenInsertions_iff {next : Option Nat → Option ZoneRule} : thenInsertions r next = some z ↔
    ∃ n, ((r.insertions = 0 ∧ n = none) ∨ (r.insertions = 1 ∧ n = some 1) ∨ (r.insertions = 2 ∧ n = some 2))
      ∧ next n = some z := by
  unfold thenInsertions
  simp only [← BitVec.toNat_inj]
  split <;> simp_all

theorem validateRule?_iff : validateRule? r = some z ↔ RuleStored r z := by
  simp only [validateRule?_eq, yesNo?_bind_iff, thenKey_iff, thenLift_iff, thenReduction_iff, thenInsertions_iff]
  constructor
  · rintro ⟨_, henabled, _, hkey, _, hlift, _, hinhibit, hpercent, _, hinsertions, _, hconfirm, _, hskip, ⟨⟩⟩
    exact ⟨henabled, hkey, rfl, hlift, hinhibit, hpercent, rfl, hinsertions, hconfirm, hskip⟩
  · rintro ⟨henabled, hkey, hforbid, hlift, hinhibit, hpercent, hreduction, hinsertions, hconfirm, hskip⟩
    refine ⟨_, henabled, _, hkey, _, hlift, _, hinhibit, hpercent, _, hinsertions, _, hconfirm, _, hskip, ?_⟩
    rw [← hforbid, ← hreduction]

end Checks

/-! ## The bytes of a stored rule (11 "Zone rule") -/

theorem bytes2_eq_wordBytes (v : BitVec 16) : bytes2 v = wordBytes v := by
  simp [bytes2, beBytes, wordBytes, BitVec.toNat_eq, Nat.shiftRight_eq_div_pow]

theorem bytes4_eq_longBytes (v : BitVec 32) : bytes4 v = longBytes v := by
  simp [bytes4, beBytes, longBytes, BitVec.toNat_eq, Nat.shiftRight_eq_div_pow]

theorem unsignedField_long {v : BitVec 32} (h : v.toNat ≤ chainageMax) : unsignedField 4 v.toNat = longBytes v :=
  (unsignedField_chainage h).trans (bytes4_eq_longBytes v)

theorem unsignedField_word (v : BitVec 16) : unsignedField 2 v.toNat = wordBytes v := by
  rw [← bytes2_eq_wordBytes]
  exact (if_pos (by omega)).trans (congrArg (beBytes 2) (Int.toNat_natCast _))

theorem unsignedField_byte (v : Byte) : unsignedField 1 v.toNat = [v] := by
  refine (if_pos (by omega)).trans ?_
  simp [beBytes]

/-- A stored rule is written as its layout in 11 "Zone rule". -/
theorem bytes_of_ruleStored {r : WireRule} {z : ZoneRule} (h : RuleStored r z) : z.bytes = ruleLayout z := by
  obtain ⟨-, hkey, -, hlift, -, -, hreduction, -⟩ := h
  have hzeros : beBytes 8 0 = longBytes 0 ++ longBytes 0 := by decide
  have habsent : unsignedField 2 0 = wordBytes 0 := unsignedField_word 0
  unfold ZoneRule.bytes ruleLayout
  rw [hreduction, unsignedField_byte, bytes2_eq_wordBytes]
  rcases hkey with ⟨-, hle, hmax, hkey⟩ | ⟨-, k, -, hkey⟩
  · have hlo := unsignedField_long (hle.trans hmax)
    have hhi := unsignedField_long hmax
    rcases hlift with ⟨-, hlift⟩ | ⟨-, -, hlift⟩
    · simp [hkey, hlift, hlo, hhi, habsent, boolByte]
    · simp [hkey, hlift, hlo, hhi, unsignedField_word, boolByte]
  · rcases hlift with ⟨-, hlift⟩ | ⟨-, -, hlift⟩
    · simp [hkey, hlift, hzeros, kindCode_eq, habsent, boolByte]
    · simp [hkey, hlift, hzeros, kindCode_eq, unsignedField_word, boolByte]

/-! ## The requests (02 R27, R29, R30, R41) -/

section Requests

variable {s : State} {tag slot : Byte} {rule : WireRule} {z : ZoneRule}

theorem writeRuleIn_stored {rules : List ZoneRule} (hslot : slot.toNat < 32) (hz : validateRule? rule = some z) :
    writeRuleIn rules slot rule = (rules.set slot.toNat z, .plain .ok) := by
  simp [writeRuleIn, hslot, hz]

theorem writeRuleIn_refused {rules : List ZoneRule} (h : 32 ≤ slot.toNat ∨ validateRule? rule = none) :
    writeRuleIn rules slot rule = (rules, .plain .badValue) := by
  unfold writeRuleIn
  split
  · next hslot => simp [h.resolve_left (not_le.mpr hslot)]
  · rfl

theorem readRuleFrom_rule {rules : List ZoneRule} (hslot : slot.toNat < 32) (hz : rules[slot.toNat]? = some z) :
    readRuleFrom rules slot = ⟨.ok, slot :: z.bytes⟩ := by
  simp [readRuleFrom, ruleAt, hslot, hz]

theorem readRuleFrom_refused {rules : List ZoneRule} (hslot : 32 ≤ slot.toNat) :
    readRuleFrom rules slot = .plain .badValue := if_neg (not_lt.mpr hslot)

theorem exec_writeRule (h : s.linkReady) {rules : List ZoneRule} {y : Reply}
    (hw : writeRuleIn s.rules slot rule = (rules, y)) :
    exec (.writeRule tag slot rule) s
      = .next (State.answered ⟨tag, .writeRule slot rule⟩ y (s.setRules rules)) :=
  congrArg Host.Outcome.next (request_answered h (by simp) (congrArg (ruleRequest · (s.queued _)) hw) rfl rfl rfl rfl)

theorem exec_readRule (h : s.linkReady) {y : Reply} (hy : readRuleFrom s.rules slot = y) :
    exec (.readRule tag slot) s = .next (State.answered ⟨tag, .readRule slot⟩ y s) :=
  congrArg Host.Outcome.next (unchanged_request_answered h (by simp) (congrArg (Prod.mk _) hy))

theorem exec_clearRules (h : s.linkReady) :
    exec (.clearRules tag) s
      = .next (State.answered ⟨tag, .clearRules⟩ (.plain .ok) (s.setRules clearedRules)) :=
  congrArg Host.Outcome.next (request_answered h (by simp) rfl rfl rfl rfl rfl)

theorem exec_setManualMask (h : s.linkReady) (mask : TineMask) :
    exec (.setManualMask tag mask) s
      = .next (State.answered ⟨tag, .setManualMask mask⟩ (.plain .ok)
          (s.setManualMask (if mask = 0 then none else some mask))) :=
  congrArg Host.Outcome.next (request_answered h (by simp) rfl rfl rfl rfl rfl)

end Requests

/-- Settles O18: the validation in both directions, then each request by its checks. -/
theorem ruleTableRequests : Obligations.RuleTableRequests :=
  ⟨fun _ _ => validateRule?_iff, fun _ _ _ _ mask h =>
    ⟨fun _ hslot hz => exec_writeRule h (writeRuleIn_stored hslot hz),
      fun hbad => exec_writeRule h (writeRuleIn_refused hbad),
      fun _ hslot hz hstored =>
        exec_readRule h ((readRuleFrom_rule hslot hz).trans (by rw [bytes_of_ruleStored hstored])),
      fun z hslot hz => ⟨z.bytes, exec_readRule h (readRuleFrom_rule hslot hz)⟩,
      fun hslot => exec_readRule h (readRuleFrom_refused hslot), exec_clearRules h, exec_setManualMask h mask⟩⟩

end Sys2Proof.Machine
end

section
/-! PROOFS. The squeeze pressure of a context by SQUEEZE_PRESSURE and the reduction (02 R37). -/

namespace Sys2Proof.Machine

theorem squeezePressureOf_least (pressure reduction : Int) : 40 ≤ squeezePressureOf pressure reduction :=
  le_max_left _ _

/-- The floor of the division by 100, found as the whole number it lies at or above. -/
theorem squeezePressureOf_eq {pressure reduction q : Int} (hle : 100 * q ≤ pressure * (100 - reduction))
    (hlt : pressure * (100 - reduction) < 100 * (q + 1)) :
    squeezePressureOf pressure reduction = if q < 40 then 40 else q := by
  have hfloor : pressure * (100 - reduction) / 100 = q := by omega
  simp only [squeezePressureOf, leastPressure, hfloor]
  omega

theorem squeezePressureOf_zero {pressure : Int} (h : 40 ≤ pressure) : squeezePressureOf pressure 0 = pressure := by
  simp only [squeezePressureOf, leastPressure]
  omega

/-- A reduction takes no pressure above its own. -/
theorem squeezePressureOf_le {pressure reduction : Int} (h : 40 ≤ pressure) (hr : 0 ≤ reduction) :
    squeezePressureOf pressure reduction ≤ pressure := by
  have hscaled : pressure * (100 - reduction) ≤ pressure * 100 :=
    mul_le_mul_of_nonneg_left (by omega) (by omega)
  simp only [squeezePressureOf, leastPressure]
  omega

/-- Settles O39: the floor is the only whole number between its bounds, and the range of the parameter bounds it. -/
theorem squeezePressureReduced : Obligations.SqueezePressureReduced := by
  refine ⟨fun s record pos kind front q hparam hr _ hle hlt => ?_, by decide, by decide, by decide, by decide,
    by decide⟩
  obtain ⟨hleast, hgreatest⟩ : 40 ≤ s.params.squeezePressure ∧ s.params.squeezePressure ≤ 140 :=
    hparam .squeezePressure
  exact ⟨squeezePressureOf_eq hle hlt, fun hzero => (congrArg _ hzero).trans (squeezePressureOf_zero hleast),
    squeezePressureOf_least _ _, (squeezePressureOf_le hleast hr).trans hgreatest⟩

end Sys2Proof.Machine
end

section
/-! PROOFS. The rule scan and the fields of a context found from it (02 R31 to R40). -/

namespace Sys2Proof.Machine

/-! ## The first slot that passes a test (02 R31) -/

theorem firstSlot_some {test : ZoneRule → Bool} {i : Nat} {r : ZoneRule} {rules : List ZoneRule} :
    ∀ {k : Nat}, firstSlot test k rules = some (i, r) →
      ∃ n, i = k + n ∧ rules[n]? = some r ∧ test r = true ∧
        ∀ (j : Nat) (x : ZoneRule), j < n → rules[j]? = some x → ¬ test x = true := by
  induction rules with
  | nil => intro k h; cases h
  | cons head rest ih =>
    intro k h
    unfold firstSlot at h
    split at h
    · next hhead => cases h; exact ⟨0, rfl, rfl, hhead, fun j x hj => absurd hj j.not_lt_zero⟩
    · next hhead =>
      obtain ⟨n, rfl, hr, htest, hbefore⟩ := ih h
      refine ⟨n + 1, by omega, hr, htest, fun j x hj hx => ?_⟩
      cases j with
      | zero => cases hx; exact hhead
      | succ j => exact hbefore j x (by omega) hx

theorem firstSlot_none {test : ZoneRule → Bool} {rules : List ZoneRule} :
    ∀ {k : Nat}, firstSlot test k rules = none → ∀ r ∈ rules, ¬ test r = true := by
  induction rules with
  | nil => intro _ _ r hr; cases hr
  | cons head rest ih =>
    intro k h
    unfold firstSlot at h
    split at h
    · cases h
    · next hhead => exact List.forall_mem_cons.mpr ⟨hhead, ih h⟩

/-- The scan from slot 0 gives the first match. -/
theorem firstSlot_firstMatch (test : ZoneRule → Bool) (rules : List ZoneRule) :
    FirstMatch rules (fun r => test r = true) ((firstSlot test 0 rules).map Prod.fst) := by
  cases h : firstSlot test 0 rules with
  | none => exact fun j r hr => firstSlot_none h r (List.mem_of_getElem? hr)
  | some e =>
    obtain ⟨n, hn, hr, htest, hbefore⟩ := firstSlot_some h
    rw [Nat.zero_add] at hn
    subst hn
    exact ⟨⟨e.2, hr, htest⟩, hbefore⟩

/-- The rule a match hands on is the one in its slot. -/
theorem firstSlot_rule {test : ZoneRule → Bool} {rules : List ZoneRule} {e : Nat × ZoneRule}
    (h : firstSlot test 0 rules = some e) {r : ZoneRule} (hr : rules[e.1]? = some r) : r = e.2 := by
  obtain ⟨n, hn, he, -⟩ := firstSlot_some h
  rw [Nat.zero_add] at hn
  exact Option.some.inj (hr.symm.trans (hn ▸ he))

/-! ## The rule scan (02 R31 to R33) -/

theorem ZoneRule.matchesChainage_iff (r : ZoneRule) (x : SleeperRecord) : r.matchesChainage x = true ↔
    r.enabled = true ∧ ∃ lo hi : Int, r.key = .chainage lo hi ∧ lo ≤ x.chainage ∧ x.chainage ≤ hi := by
  unfold ZoneRule.matchesChainage
  cases r.key with
  | chainage lo hi => simp
  | kind k => simp

theorem ZoneRule.matchesKind_iff (r : ZoneRule) (x : SleeperRecord) :
    r.matchesKind x = true ↔ r.enabled = true ∧ r.key = .kind x.kind := by
  unfold ZoneRule.matchesKind
  cases r.key with
  | chainage lo hi => simp
  | kind k => simp

theorem scanRules_chainageSlot (rules : List ZoneRule) (x : SleeperRecord) :
    (scanRules rules x).chainageSlot = (firstSlot (·.matchesChainage x) 0 rules).map Prod.fst := by
  unfold scanRules
  split <;> simp_all [RuleResult.ofTwo, RuleResult.ofOne, RuleResult.none]

theorem scanRules_kindSlot (rules : List ZoneRule) (x : SleeperRecord) :
    (scanRules rules x).kindSlot = (firstSlot (·.matchesKind x) 0 rules).map Prod.fst := by
  unfold scanRules
  split <;> simp_all [RuleResult.ofTwo, RuleResult.ofOne, RuleResult.none]

theorem or_eq_ite {α : Type} [DecidableEq α] (a b : Option α) : a.or b = if a = none then b else a := by
  cases a <;> simp

theorem scanRules_scanned (rules : List ZoneRule) (x : SleeperRecord) : RulesScanned rules x (scanRules rules x) := by
  have hchainage : FirstMatch rules _ (scanRules rules x).chainageSlot :=
    scanRules_chainageSlot rules x ▸ firstSlot_firstMatch (·.matchesChainage x) rules
  have hkind : FirstMatch rules _ (scanRules rules x).kindSlot :=
    scanRules_kindSlot rules x ▸ firstSlot_firstMatch (·.matchesKind x) rules
  simp only [ZoneRule.matchesChainage_iff] at hchainage
  simp only [ZoneRule.matchesKind_iff] at hkind
  refine ⟨hchainage, hkind, ?_⟩
  cases hc : firstSlot (·.matchesChainage x) 0 rules with
  | none =>
    cases hk : firstSlot (·.matchesKind x) 0 rules with
    | none => simp only [scanRules, hc, hk]; rfl
    | some k =>
      simp only [scanRules, hc, hk]
      intro r hr
      rw [firstSlot_rule hk hr]
      rfl
  | some c =>
    cases hk : firstSlot (·.matchesKind x) 0 rules with
    | none =>
      simp only [scanRules, hc, hk]
      intro r hr
      rw [firstSlot_rule hc hr]
      rfl
    | some k =>
      simp only [scanRules, hc, hk]
      intro a b ha hb
      rw [firstSlot_rule hc ha, firstSlot_rule hk hb]
      exact ⟨rfl, rfl, Bool.or_eq_true_iff, rfl, or_eq_ite _ _, Bool.or_eq_true_iff, Bool.or_eq_true_iff⟩

/-! ## The max lift (02 R36) -/

theorem effectiveMaxLift_some {limit m : Int} {z : RuleResult} (h : z.maxLift = some m) :
    effectiveMaxLift limit z = min limit m := by simp [effectiveMaxLift, h]

theorem effectiveMaxLift_none {limit : Int} {z : RuleResult} (h : z.maxLift = none) :
    effectiveMaxLift limit z = limit := by simp [effectiveMaxLift, h]

/-! ## Arms in a mask (02 R39, R40) -/

section Arms

variable (m n : TineMask) (i k : Fin 4)

@[simp] theorem armIn_and : armIn (m &&& n) i k = (armIn m i k && armIn n i k) := BitVec.getLsbD_and

@[simp] theorem armIn_or : armIn (m ||| n) i k = (armIn m i k || armIn n i k) := BitVec.getLsbD_or

@[simp] theorem armIn_not : armIn (~~~m) i k = !armIn m i k := by
  have harm : 4 * i.val + k.val < 16 := by omega
  simp [armIn, harm]

end Arms

theorem armIn_enabledMask (manual : Option TineMask) (obstacles forbid : TineMask) (i k : Fin 4) :
    armIn (enabledMask manual obstacles forbid) i k = true ↔ armIn obstacles i k = false
      ∧ match manual with
        | some m => armIn m i k = true
        | none => armIn forbid i k = false := by
  cases manual with
  | none => simp [enabledMask]
  | some m => simp [enabledMask, and_comm]

theorem engagedIn_iff (m : TineMask) (i : Fin 4) : engagedIn m i = true ↔ ∃ k : Fin 4, armIn m i k = true := by
  simp [engagedIn, Fin.exists_fin_succ, or_assoc]

/-! ## The flags of an admission (05 R93) -/

theorem formationFlags_eq (front : FrontOutcome) (detection : Option DetectionOutcome) :
    formationFlags front detection = (match front with
        | .bracketed => 0
        | .held => 0x0001
        | .beyondEnd => 0x0002)
      ||| (if detection = some .missed then 0x1000 else 0) := by
  by_cases hd : detection = some .missed <;> cases front <;>
    simp [formationFlags, CorrectionFlag.when, CorrectionFlag.mask, hd]

/-- Settles O19, field by field of the context. -/
theorem contextKeepsSafetyLimits : Obligations.ContextKeepsSafetyLimits := by
  intro s record pos kind front c
  have hdrift : c.drift
      = if kind ≠ .retamp ∧ s.chainage.move.outcome = some .matched then s.chainage.move.drift else none := by
    by_cases hk : kind = .retamp <;> simp [c, formContext, hk]
  exact ⟨scanRules_scanned _ _, rfl, rfl, rfl, rfl, fun hheld => ⟨if_pos hheld, if_pos hheld⟩,
    fun hheld => ⟨if_neg hheld, if_neg hheld⟩, fun n hn => congrArg (Option.getD · _) hn,
    fun hn => congrArg (Option.getD · _) hn, squeezePressureOf_least _ _, armIn_enabledMask _ _ _, engagedIn_iff _,
    fun l hl => effectiveMaxLift_some hl, fun hl => effectiveMaxLift_none hl, rfl, rfl, rfl, rfl, hdrift,
    formationFlags_eq _ _, rfl, rfl, rfl, rfl, by simp [c, formContext, or_assoc], by simp [c, formContext]⟩

end Sys2Proof.Machine
end

section
/-! PROOFS. No operation of the sleeper cycle makes a travel demand: only the start of an index move does (03 R47,
R49). -/

namespace Sys2Proof.Machine

/-- No travel demand is active (03 R47). -/
def State.NoDemand (s : State) : Prop := s.chainage.move.demandActive = false

/-! ## The index move record -/

@[simp] theorem IndexMove.clear_demandActive (m : IndexMove) : m.clear.demandActive = false := rfl

@[simp] theorem ChainageUnit.cancelTravel_demandActive (c : ChainageUnit) :
    c.cancelTravel.move.demandActive = false := by
  cases hm : c.move.state <;> simp [ChainageUnit.cancelTravel, IndexMove.demandActive, hm]

section NoDemand

variable {s t : State}

theorem State.NoDemand.of_same (h : s.NoDemand) (hc : t.chainage = s.chainage) : t.NoDemand := by
  rw [State.NoDemand, hc]; exact h

theorem State.NoDemand.of_cleared {m : IndexMove} (hc : t.chainage.move = m.clear) : t.NoDemand := by
  rw [State.NoDemand, hc, IndexMove.clear_demandActive]

/-- In a state without a demand the law of the travel line asks nothing. -/
theorem State.NoDemand.travelLaw (h : s.NoDemand) : s.travelLaw := fun hd => by
  rw [State.NoDemand, hd] at h; cases h

/-! ## After a recording -/

theorem enterEnded_noDemand (s : State) : (enterEnded s).NoDemand :=
  .of_cleared (m := s.chainage.move) (by simp [enterEnded])

theorem advanceRun_noDemand (h : s.NoDemand) : (advanceRun s).NoDemand := by
  unfold advanceRun
  split
  · exact .of_cleared (m := s.chainage.move) (by simp)
  · exact h.of_same (by simp)

theorem continueRun_noDemand (h : s.NoDemand) : (continueRun s).NoDemand := by
  unfold continueRun
  split
  · exact enterEnded_noDemand s
  · split
    · exact h.of_same (by simp)
    · exact advanceRun_noDemand h

theorem afterRecording_noDemand (h : s.NoDemand) : (afterRecording s).NoDemand :=
  continueRun_noDemand (h.of_same rfl)

/-! ## The unit -/

theorem reportOpen_noDemand (h : s.NoDemand) : (reportOpen s).NoDemand := by
  unfold reportOpen
  split
  · exact h.of_same (by simp)
  · split
    · split
      · exact h.of_same (by simp)
      · exact continueRun_noDemand h
    · exact h

theorem releaseUnit_noDemand (h : s.NoDemand) : (releaseUnit s).NoDemand := by
  have ht : (endLive (s.modLining fun u => u.release s.inputs s.trackSensed)).NoDemand := h.of_same (by simp)
  unfold releaseUnit
  dsimp only
  split
  · exact reportOpen_noDemand ht
  · exact ht

theorem clampOrder_noDemand (c : Context) (h : s.NoDemand) : (clampOrder c s).NoDemand := by
  unfold clampOrder
  dsimp only
  split
  · exact h.of_same (by simp)
  · exact releaseUnit_noDemand (h.of_same (by simp))
  all_goals exact h.of_same (by simp)

theorem enterMeasuring_noDemand (c : Context) (h : s.NoDemand) : (enterMeasuring c s).NoDemand :=
  (clampOrder_noDemand c (h.of_same (t := enterState .measuring s) (by simp))).of_same (by simp [enterMeasuring])

/-! ## Admission and positioning -/

theorem workContext_noDemand (h : s.NoDemand) : (workContext s).NoDemand := by
  have hrec : ∀ o, (afterRecording (recordSleeper o s)).NoDemand := fun o =>
    afterRecording_noDemand (h.of_same (by simp))
  unfold workContext
  split
  · exact h
  · split
    · exact hrec _
    · split
      · exact hrec _
      · split
        · exact h.of_same (by simp)
        · exact enterMeasuring_noDemand _ h

theorem admitSleeper_noDemand (h : s.NoDemand) : (admitSleeper s).NoDemand := by
  have hhold : ∀ r, (enterHold r s).NoDemand := fun r => h.of_same (by simp)
  unfold admitSleeper
  split
  · exact hhold _
  · split
    · exact hhold _
    · split
      · exact hhold _
      · split
        · exact hhold _
        · split
          · exact workContext_noDemand (h.of_same (by simp))
          · exact h

/-- A record that is POSITIONED has no demand left (03 R48). -/
theorem positioned_noDemand (s : State) : (positioned s).NoDemand :=
  admitSleeper_noDemand (by simp [State.NoDemand, IndexMove.demandActive])

/-! ## Windows and clamps -/

theorem closeWindow_noDemand (w : Window) (h : s.NoDemand) : (closeWindow w s).NoDemand := by
  unfold closeWindow
  split
  · exact h.of_same rfl
  · split
    · exact h.of_same (by simp)
    · exact afterRecording_noDemand (h.of_same (by simp))

theorem takeMeasuringFrame_noDemand (samples : Channels (Option Int)) (h : s.NoDemand) :
    (takeMeasuringFrame samples s).NoDemand := by
  unfold takeMeasuringFrame
  split
  · exact h
  · split
    · exact closeWindow_noDemand _ h
    · exact h.of_same rfl
  · exact h.of_same (by simp)

theorem expireSilence_noDemand (h : s.NoDemand) : (expireSilence s).NoDemand := by
  unfold expireSilence
  split
  · exact h
  · exact closeWindow_noDemand _ h
  · exact h

theorem takeClampLevels_noDemand (h : s.NoDemand) : (takeClampLevels s).NoDemand := by
  unfold takeClampLevels
  split
  · exact h.of_same (by simp)
  · split
    · exact reportOpen_noDemand (h.of_same rfl)
    · exact h

/-! ## The end of an event -/

theorem endTamping_noDemand (h : s.NoDemand) : (endTamping s).NoDemand := by
  unfold endTamping
  split
  · exact h
  · split
    · exact releaseUnit_noDemand (h.of_same (by simp))
    · exact h

theorem releaseAfterHeads_noDemand (h : s.NoDemand) : (releaseAfterHeads s).NoDemand := by
  unfold releaseAfterHeads
  split
  · exact releaseUnit_noDemand h
  · exact h

theorem releaseFrozen_noDemand (h : s.NoDemand) : (releaseFrozen s).NoDemand := by
  unfold releaseFrozen
  split
  · exact releaseUnit_noDemand h
  · exact h

/-- The start of an index move asks for what the law asks: the unit OPEN and every head PARKED (03 R47, R49). -/
theorem startIndexMove_travelLaw (h : s.NoDemand) : (startIndexMove s).travelLaw := by
  unfold startIndexMove
  split
  · exact h.travelLaw
  · split
    · next hstart =>
      obtain ⟨-, -, hopen, hparked⟩ := hstart
      exact fun _ => ⟨hopen, hparked⟩
    · exact h.travelLaw

/-- An event that left no demand ends with none, or with the one an index move begins with. -/
theorem settle_travelLaw (h : s.NoDemand) : (settle s).travelLaw :=
  startIndexMove_travelLaw (releaseFrozen_noDemand (releaseAfterHeads_noDemand
    (endTamping_noDemand (h.of_same (by simp)))))

/-! ## Stops and the run's requests -/

theorem enterFaultStop_noDemand (s : State) : (enterFaultStop s).NoDemand := by
  simp [State.NoDemand, enterFaultStop]

theorem beginRun_noDemand (p : Pos) (s : State) : (beginRun p s).NoDemand :=
  .of_cleared (m := s.chainage.move) (by simp [beginRun])

theorem endRunNow_noDemand (s : State) : (endRunNow s).NoDemand :=
  .of_cleared (m := s.chainage.cancelTravel.move) (by simp [endRunNow])

theorem retryCrossing_noDemand (w : Pos) (h : s.NoDemand) : (retryCrossing w s).NoDemand := by
  unfold retryCrossing
  split
  · exact .of_cleared (m := s.chainage.move) (by simp)
  · exact h.of_same (by simp)

theorem readmit_noDemand (h : s.NoDemand) : (readmit s).NoDemand := by
  unfold readmit
  dsimp only
  split
  · exact admitSleeper_noDemand (h.of_same (by simp))
  · exact h.of_same (by simp)

theorem retryRelease_noDemand (h : s.NoDemand) : (retryRelease s).NoDemand :=
  releaseUnit_noDemand (h.of_same (by simp))

theorem resumeAdvance_noDemand (h : s.NoDemand) : (resumeAdvance s).NoDemand :=
  advanceRun_noDemand (h.of_same rfl)

theorem takeAction_noDemand (a : Option ResumeAction) (h : s.NoDemand) : (takeAction a s).NoDemand := by
  unfold takeAction
  split
  · exact readmit_noDemand h
  · exact retryRelease_noDemand h
  · exact resumeAdvance_noDemand h
  · exact readmit_noDemand h

theorem resumeHold_noDemand {r : HoldReason} (h : s.NoDemand) (ht : resumeHold r s = some t) : t.NoDemand := by
  have hcleared : ∀ f, (readmit (s.modSeq f)).NoDemand := fun f => readmit_noDemand (h.of_same rfl)
  unfold resumeHold at ht
  split at ht
  · cases ht
  · cases ht
  · cases ht
  · cases ht; exact readmit_noDemand h
  · cases ht; exact hcleared _
  · cases ht; exact hcleared _
  · cases ht; exact readmit_noDemand h
  · cases ht; exact readmit_noDemand h
  · cases ht; exact takeAction_noDemand _ h
  · cases ht; exact takeAction_noDemand _ h

theorem resumed_noDemand (h : s.NoDemand) (ht : resumed s = some t) : t.NoDemand := by
  have ha : (activity s).NoDemand := h.of_same (by simp)
  unfold resumed at ht
  split at ht
  · cases ht; exact resumeAdvance_noDemand ha
  · exact resumeHold_noDemand ha ht
  · cases ht

end NoDemand

end Sys2Proof.Machine
end

section
/-! PROOFS. While a travel demand is active: what stands with it, and that every event keeps that or ends the demand
(03 R47). -/

namespace Sys2Proof.Machine

/-- What stands with an active demand between events (03 R47): INDEXING with no sleeper in flight, the unit OPEN with
no release to come, and every head PARKED. -/
structure State.Travelling (s : State) : Prop where
  demand : s.chainage.move.demandActive = true
  indexing : s.seq.state = .indexing
  noContext : s.seq.context = none
  unitOpen : s.lining.state = .isOpen
  noRelease : s.lining.releaseAfterHeads = false
  parked : ∀ i : Fin 4, (s.heads.get i).state = .parked

/-- Either no demand is active, or the part stands as an active demand asks. -/
def State.TravelReady (s : State) : Prop := s.NoDemand ∨ s.Travelling

section Travelling

variable {s t : State}

theorem State.Travelling.travelLaw (h : s.Travelling) : s.travelLaw :=
  fun _ => ⟨h.unitOpen, s.allParked_iff.mpr h.parked⟩

theorem State.TravelReady.travelLaw (h : s.TravelReady) : s.travelLaw := by
  rcases h with h | h
  · exact h.travelLaw
  · exact h.travelLaw

/-- The laws of the cycle and of the awaited heads rule out a sleeper in flight, or a release to come, under a
demand. -/
theorem State.TravelReady.of_laws (hcycle : s.cycleLaw) (hawait : s.awaitLaw) (htravel : s.travelLaw) :
    s.TravelReady := by
  cases hd : s.chainage.move.demandActive with
  | false => exact .inl hd
  | true =>
    obtain ⟨-, hdemand, hcontext⟩ := hcycle
    obtain ⟨hawaited, hrelease⟩ := hawait
    obtain ⟨hopen, hall⟩ := htravel hd
    have hindexing := hdemand hd
    have hparked := s.allParked_iff.mp hall
    refine .inr ⟨hd, hindexing, ?_, hopen, ?_, hparked⟩
    · cases hx : s.seq.context with
      | none => rfl
      | some c => simpa [hindexing, Sequencer.awaitsConfirm] using hcontext (by simp [hx])
    · have hnone : s.lining.awaited.anyTrue = false :=
        (Quad.anyTrue_false_iff _).mpr fun i => by
          cases hi : s.lining.awaited.get i with
          | false => rfl
          | true => exact absurd (hparked i) (hawaited i hi)
      cases hr : s.lining.releaseAfterHeads with
      | false => rfl
      | true => rw [hrelease hr] at hnone; cases hnone

theorem State.Travelling.of_same (h : s.Travelling)
    (hd : t.chainage.move.demandActive = s.chainage.move.demandActive) (hq : t.seq.state = s.seq.state)
    (hx : t.seq.context = s.seq.context) (hl : t.lining.state = s.lining.state)
    (hr : t.lining.releaseAfterHeads = s.lining.releaseAfterHeads) (hh : t.heads = s.heads) : t.Travelling where
  demand := hd.trans h.demand
  indexing := hq.trans h.indexing
  noContext := hx.trans h.noContext
  unitOpen := hl.trans h.unitOpen
  noRelease := hr.trans h.noRelease
  parked := hh ▸ h.parked

/-- A change of other blocks alone. -/
theorem State.TravelReady.of_same (h : s.TravelReady) (hc : t.chainage = s.chainage) (hq : t.seq = s.seq)
    (hl : t.lining = s.lining) (hh : t.heads = s.heads) : t.TravelReady := by
  rcases h with h | h
  · exact .inl (h.of_same hc)
  · exact .inr (h.of_same (by rw [hc]) (by rw [hq]) (by rw [hq]) (by rw [hl]) (by rw [hl]) hh)

theorem travelLaw_of_same (h : s.travelLaw) (hc : t.chainage = s.chainage) (hl : t.lining = s.lining)
    (hh : t.heads = s.heads) : t.travelLaw := by
  unfold State.travelLaw State.allParked
  rw [hc, hl, hh]
  exact h

/-! ## The end of an event -/

/-- A unit that is OPEN has nothing to release (06 R99). -/
theorem releaseFrozen_of_open (h : s.lining.state = .isOpen) : releaseFrozen s = s := by simp [releaseFrozen, h]

/-- One demand at a time (03 R49). -/
theorem startIndexMove_of_demand (h : s.chainage.move.demandActive = true) : startIndexMove s = s := by
  unfold startIndexMove
  split <;> simp [h]

/-- In INDEXING with the unit OPEN, no release to come and a demand active nothing comes about. -/
theorem settle_of_demand (hq : s.seq.state = .indexing) (ho : s.lining.state = .isOpen)
    (hr : s.lining.releaseAfterHeads = false) (hd : s.chainage.move.demandActive = true) : settle s = s := by
  rw [settle, beginTamping_same (by simp [hq]), endTamping_same (by simp [hq]), releaseAfterHeads_same hr,
    releaseFrozen_of_open ho, startIndexMove_of_demand hd]

theorem State.Travelling.settle_eq (h : s.Travelling) : settle s = s :=
  settle_of_demand h.indexing h.unitOpen h.noRelease h.demand

theorem State.TravelReady.settle (h : s.TravelReady) : (settle s).travelLaw := by
  rcases h with h | h
  · exact settle_travelLaw h
  · rw [h.settle_eq]; exact h.travelLaw

/-! ## The travel line -/

theorem takeDetection_ready (h : s.TravelReady) : (takeDetection s).TravelReady := by
  have hmove : ∀ p n, (s.chainage.detect p n).1.move.state = s.chainage.move.state := fun p n => by
    unfold ChainageUnit.detect
    dsimp only
    split
    · rfl
    · split <;> rfl
  have hdetect : ∀ p n, (s.setChainage (s.chainage.detect p n).1).TravelReady := fun p n => by
    have hd : (s.chainage.detect p n).1.move.demandActive = s.chainage.move.demandActive := by
      simp only [IndexMove.demandActive, hmove]
    rcases h with h | h
    · exact .inl (hd.trans h)
    · exact .inr (h.of_same hd rfl rfl rfl rfl rfl)
  unfold takeDetection
  dsimp only
  split
  · split
    · exact h
    · split
      · exact h.of_same rfl rfl rfl rfl
      · exact hdetect _ _
  · exact h

/-- A stop of the drive ends the demand, or the correction move takes its place where it stood (03 R50, R51, R53). -/
theorem takeHalted_ready (h : s.TravelReady) : (takeHalted s).TravelReady := by
  unfold takeHalted
  dsimp only
  split
  · next hm =>
    split
    · exact .inl (positioned_noDemand _)
    · rcases h with h | h
      · simp [State.NoDemand, IndexMove.demandActive, hm] at h
      · exact .inr (h.of_same (h.demand ▸ rfl) rfl rfl rfl rfl rfl)
  · split
    · exact .inl (positioned_noDemand _)
    · exact .inl (by simp [State.NoDemand, IndexMove.demandActive])
  all_goals exact h

/-- The expiry of the index timer leaves no demand (03 R52). -/
theorem expireIndexTimer_ready (h : s.TravelReady) : (expireIndexTimer s).TravelReady := by
  unfold expireIndexTimer
  split
  · exact .inl (by simp [State.NoDemand, IndexMove.demandActive])
  · exact h

/-! ## The measuring line and the unit -/

theorem takeMeasuringFrame_ready (samples : Channels (Option Int)) (h : s.TravelReady) :
    (takeMeasuringFrame samples s).TravelReady := by
  rcases h with h | h
  · exact .inl (takeMeasuringFrame_noDemand samples h)
  · have hset : ∀ m, (s.setMeasuring m).Travelling := fun m => h.of_same rfl rfl rfl rfl rfl rfl
    unfold takeMeasuringFrame
    split
    · exact .inr h
    · split
      · simpa [closeWindow, h.noContext] using .inr (hset .noWindow)
      · exact .inr (hset _)
    · next l _ => simpa [takeLive, h.unitOpen] using .inr (hset (.live (l.take false samples)))

theorem expireSilence_ready (h : s.TravelReady) : (expireSilence s).TravelReady := by
  rcases h with h | h
  · exact .inl (expireSilence_noDemand h)
  · unfold expireSilence
    split
    · exact .inr h
    · simpa [closeWindow, h.noContext] using .inr (h.of_same rfl rfl rfl rfl rfl rfl)
    · exact .inr h

theorem takeClampLevels_ready (h : s.TravelReady) : (takeClampLevels s).TravelReady := by
  rcases h with h | h
  · exact .inl (takeClampLevels_noDemand h)
  · exact .inr (by simpa [takeClampLevels, LiningUnit.closes, LiningUnit.opens, h.unitOpen] using h)

theorem expireClampTimer_ready (h : s.TravelReady) : (expireClampTimer s).TravelReady := by
  rcases h with h | h
  · exact .inl (h.of_same (by simp))
  · unfold expireClampTimer
    simp only [h.unitOpen]
    split
    · exact .inr (h.of_same rfl rfl rfl rfl rfl rfl)
    · exact .inr h

theorem expireCorrection_ready (h : s.TravelReady) : (expireCorrection s).TravelReady := by
  rcases h with h | h
  · exact .inl (h.of_same (by simp))
  · exact .inr (by simpa [expireCorrection, h.unitOpen] using h)

/-! ## The heads -/

theorem HeadRecord.onFrame_parked {h : HeadRecord} (e : HeadEnv) (hp : h.state = .parked) :
    h.onFrame e = (h, false) := by simp [HeadRecord.onFrame, hp]

theorem HeadRecord.sensed_parked {h : HeadRecord} (e : HeadEnv) (hp : h.state = .parked) :
    (h.testGuard e).testPrepared e = h := by
  have hw : h.working = false := by simp [HeadRecord.working, hp]
  simp [HeadRecord.testGuard, HeadRecord.testPrepared, hw, hp]

/-- After the first axis frame the head-raised sensor does not take a head out of PARKED (07 R123, R134). -/
theorem HeadRecord.onRaised_parked {e : HeadEnv} {h : HeadRecord} (ha : e.awaits = false) (hp : h.state = .parked) :
    (h.onRaised e).1.state = .parked := by
  cases hr : e.raised <;>
    simp [HeadRecord.onRaised, HeadRecord.testRaised, HeadRecord.commandTilt, ha, hr, hp]

/-- The heads and the awaited ones may have changed; every head is PARKED all the same. -/
theorem State.Travelling.of_parked (h : s.Travelling) (hc : t.chainage = s.chainage) (hq : t.seq = s.seq)
    (hl : t.lining.state = s.lining.state) (hr : t.lining.releaseAfterHeads = s.lining.releaseAfterHeads)
    (hp : ∀ i : Fin 4, (t.heads.get i).state = .parked) : t.Travelling where
  demand := hc ▸ h.demand
  indexing := hq ▸ h.indexing
  noContext := hq ▸ h.noContext
  unitOpen := hl.trans h.unitOpen
  noRelease := hr.trans h.noRelease
  parked := hp

theorem stepHead_travelling (f : HeadEnv → HeadRecord → HeadStep) (i : Fin 4) (h : s.Travelling)
    (hp : ∀ j : Fin 4, ((s.stepHead f i).heads.get j).state = .parked) : (s.stepHead f i).Travelling := by
  obtain ⟨a, hl⟩ := s.stepHead_lining f i
  exact h.of_parked (by simp) (by simp) (by simp [hl]) (by simp [hl]) hp

theorem stepHeads_travelling (f : HeadEnv → HeadRecord → HeadStep) (h : s.Travelling)
    (hp : ∀ j : Fin 4, ((s.stepHeads f).heads.get j).state = .parked) : (s.stepHeads f).Travelling := by
  obtain ⟨a, hl⟩ := s.stepHeads_lining f
  exact h.of_parked (by simp) (by simp) (by simp [hl]) (by simp [hl]) hp

/-- A head's event that leaves it PARKED if it was. -/
theorem stepHead_ready {f : HeadEnv → HeadRecord → HeadStep} (i : Fin 4) (h : s.TravelReady)
    (hf : (s.heads.get i).state = .parked → (f (s.headEnv i) (s.heads.get i)).1.state = .parked) :
    (s.stepHead f i).TravelReady := by
  rcases h with h | h
  · exact .inl (h.of_same (by simp))
  · refine .inr (stepHead_travelling f i h fun j => ?_)
    rw [State.stepHead_get]
    split
    · exact hf (h.parked i)
    · exact h.parked j

/-- An event of the four heads that leaves each PARKED if it was. -/
theorem stepHeads_ready {f : HeadEnv → HeadRecord → HeadStep} (h : s.TravelReady)
    (hf : ∀ i, (s.heads.get i).state = .parked → (f (s.headEnv i) (s.heads.get i)).1.state = .parked) :
    (s.stepHeads f).TravelReady := by
  rcases h with h | h
  · exact .inl (h.of_same (by simp))
  · exact .inr (stepHeads_travelling f h fun i => by rw [State.stepHeads_get]; exact hf i (h.parked i))

/-- Where the sensors may have taken heads out of PARKED, the demand is cancelled in the same event (log entry 11). -/
theorem cancelUnparked_ready
    (h : s.chainage.move.demandActive = true → (∀ i : Fin 4, (s.heads.get i).state = .parked) → s.Travelling) :
    (cancelUnparked s).TravelReady := by
  unfold cancelUnparked
  split
  · exact .inl (by simp [State.NoDemand])
  · next hkept =>
    cases hd : s.chainage.move.demandActive with
    | false => exact .inl hd
    | true => exact .inr (h hd (s.allParked_iff.mp (by simpa [hd] using hkept)))

theorem takeRaised_travelLaw (i : Fin 4) (h : s.TravelReady) : (takeRaised i s).travelLaw := by
  unfold takeRaised
  refine State.TravelReady.settle ?_
  split
  · refine cancelUnparked_ready fun hd hp => stepHead_travelling _ i (h.resolve_left fun hn => ?_) hp
    simp only [State.stepHead_keeps] at hd
    rw [State.NoDemand, hd] at hn
    cases hn
  · next ha => exact stepHead_ready i h (HeadRecord.onRaised_parked (by simpa [State.headEnv] using ha))

/-- A timer of preparing runs at no head while a demand is active. -/
theorem preparing_noDemand (h : s.TravelReady) {i : Fin 4} (hs : (s.heads.get i).state = .preparing) : s.NoDemand :=
  h.resolve_right fun ht => by rw [ht.parked i] at hs; cases hs

theorem expireTraverse_travelLaw (i : Fin 4) (h : s.TravelReady) : (expireTraverse i s).travelLaw := by
  unfold expireTraverse
  split
  · next hs => exact settle_travelLaw ((preparing_noDemand h hs.1).of_same (by simp))
  · exact h.travelLaw

theorem expireTilt_travelLaw (i : Fin 4) (h : s.TravelReady) : (expireTilt i s).travelLaw := by
  unfold expireTilt
  split
  · next hs => exact settle_travelLaw ((preparing_noDemand h hs.1).of_same (by simp))
  · exact h.travelLaw

theorem expirePenetration_travelLaw (i : Fin 4) (h : s.TravelReady) : (expirePenetration i s).travelLaw := by
  unfold expirePenetration
  rcases h with h | h
  · split
    · exact State.NoDemand.travelLaw (h.of_same rfl)
    · exact h.travelLaw
  · simpa [h.parked i] using h.travelLaw

theorem expireSqueeze_travelLaw (i : Fin 4) (h : s.TravelReady) : (expireSqueeze i s).travelLaw := by
  unfold expireSqueeze
  rcases h with h | h
  · split
    · exact State.NoDemand.travelLaw (h.of_same rfl)
    · exact h.travelLaw
  · simpa [h.parked i] using h.travelLaw

/-! ## Stops and axis frames -/

/-- A stop in a run ends the demand; outside a run it touches neither the heads nor the unit (06 R118). -/
theorem raiseStop_ready (c : StopCause) (h : s.TravelReady) : (raiseStop c s).TravelReady := by
  unfold raiseStop
  dsimp only
  split
  · split
    · exact .inl (enterFaultStop_noDemand _)
    · exact h.of_same rfl rfl rfl rfl
  · exact h.of_same rfl rfl rfl rfl

theorem supervise_ready (f : AxisFrame) (h : s.TravelReady) : (supervise f s).TravelReady := by
  have hfold : ∀ (l : List Axis) (t : State), t.TravelReady → (l.foldl testAxis t).TravelReady := fun l => by
    induction l with
    | nil => exact fun t ht => ht
    | cons a l ih =>
      refine fun t ht => ih _ ?_
      unfold testAxis
      split
      · exact raiseStop_ready _ (ht.of_same rfl rfl rfl rfl)
      · exact ht
  exact hfold _ _ (h.of_same rfl rfl rfl rfl)

theorem takeAxisFrame_travelLaw (f : AxisFrame) (h : s.TravelReady) : (takeAxisFrame f s).travelLaw := by
  have hsense : (s.senseFrame f).TravelReady := h.of_same rfl rfl rfl rfl
  unfold takeAxisFrame
  dsimp only
  split
  · refine State.TravelReady.settle (cancelUnparked_ready fun hd hp => ?_)
    have hready : ((s.senseFrame f).setAwaitFrame false).TravelReady := hsense.of_same rfl rfl rfl rfl
    refine State.Travelling.of_same (stepHeads_travelling (fun e h => h.firstFrame e)
      (hready.resolve_left fun hn => ?_) hp) rfl rfl rfl rfl rfl rfl
    simp only [State.modLining_eq, State.setLining_chainage, State.stepHeads_keeps] at hd
    rw [State.NoDemand, hd] at hn
    cases hn
  · exact (stepHeads_ready (supervise_ready f hsense) fun i hp => by rwa [HeadRecord.onFrame_parked _ hp]).settle

theorem expireAxisLine_ready (h : s.TravelReady) : (expireAxisLine s).TravelReady := by
  unfold expireAxisLine
  split
  · exact h
  · exact raiseStop_ready _ (h.of_same rfl rfl rfl rfl)

theorem takeChain_ready (closed : Bool) (h : s.TravelReady) : (takeChain closed s).TravelReady := by
  unfold takeChain
  dsimp only
  split
  · exact raiseStop_ready _ (h.of_same rfl rfl rfl rfl)
  · exact h.of_same rfl rfl rfl rfl

theorem expireAttention_ready (h : s.TravelReady) : (expireAttention s).TravelReady := by
  unfold expireAttention
  split
  · exact h
  · exact h.of_same rfl rfl rfl rfl
  · exact raiseStop_ready _ h

end Travelling

end Sys2Proof.Machine
end

section
/-! PROOFS. The law of the travel line kept by the requests, by every command and by every step (03 R47). -/

namespace Sys2Proof.Machine

section TravelRequests

variable {s : State}

/-- Outside INDEXING no demand is active. -/
theorem State.TravelReady.noDemand_of_state (h : s.TravelReady) {q : SeqState} (hs : s.seq.state = q)
    (hq : q ≠ .indexing) : s.NoDemand :=
  h.resolve_right fun ht => hq (hs.symm.trans ht.indexing)

theorem awaitsConfirm_state (h : s.seq.awaitsConfirm = true) : s.seq.state = .hold := (of_decide_eq_true h).1

/-! ## The requests of the run -/

/-- All that START_RUN can do: it is refused, or the run begins (06 R97, R98). -/
theorem startRun_cases (page index : Byte) (s : State) :
    (startRun page index s).1 = s ∨ ∃ pos, (startRun page index s).1 = settle (beginRun pos s) := by
  unfold startRun
  -- the eight checks of R97, each with its refusal first
  iterate 8 (split; · exact .inl rfl)
  exact .inr ⟨_, rfl⟩

theorem startRun_travelLaw (page index : Byte) (h : s.TravelReady) : (startRun page index s).1.travelLaw := by
  rcases startRun_cases page index s with hk | ⟨pos, hk⟩
  · rw [hk]; exact h.travelLaw
  · rw [hk]; exact settle_travelLaw (beginRun_noDemand pos s)

theorem pauseRun_travelLaw (h : s.TravelReady) : (pauseRun s).1.travelLaw := by
  unfold pauseRun
  split <;> exact h.travelLaw

theorem resumeRun_travelLaw (h : s.TravelReady) : (resumeRun s).1.travelLaw := by
  unfold resumeRun
  split
  · next t ht =>
    have hn : s.NoDemand := h.resolve_right fun htravel => by simp [resumed, htravel.indexing] at ht
    exact settle_travelLaw (resumed_noDemand hn ht)
  · exact h.travelLaw

theorem confirmSleeper_travelLaw (h : s.TravelReady) : (confirmSleeper s).1.travelLaw := by
  unfold confirmSleeper
  split
  · next hq _ => exact settle_travelLaw (enterMeasuring_noDemand _
      (h.noDemand_of_state (awaitsConfirm_state hq) (by decide)))
  · exact h.travelLaw

theorem skipSleeper_travelLaw (h : s.TravelReady) : (skipSleeper s).1.travelLaw := by
  have hpend : (pendSkip s).1.travelLaw := h.travelLaw
  unfold skipSleeper
  split
  · exact hpend
  · exact hpend
  · next hs =>
    split
    · exact settle_travelLaw (afterRecording_noDemand
        ((h.noDemand_of_state hs (by decide)).of_same (by simp)))
    · exact hpend
  all_goals exact h.travelLaw

theorem abortSleeper_travelLaw (h : s.TravelReady) : (abortSleeper s).1.travelLaw := by
  have habort : ∀ q, s.seq.state = q → q ≠ .indexing → (settle (abortFlight s)).travelLaw :=
    fun q hs hq => settle_travelLaw ((h.noDemand_of_state hs hq).of_same (by simp))
  unfold abortSleeper
  split
  · exact habort _ ‹_› (by decide)
  · exact habort _ ‹_› (by decide)
  · exact habort _ ‹_› (by decide)
  all_goals exact h.travelLaw

theorem retampSleeper_travelLaw (h : s.TravelReady) : (retampSleeper s).1.travelLaw := by
  unfold retampSleeper
  split
  · next hs => exact settle_travelLaw (admitSleeper_noDemand
      ((h.noDemand_of_state hs (by decide)).of_same rfl))
  · exact h.travelLaw

theorem stopRun_travelLaw (h : s.TravelReady) : (stopRun s).1.travelLaw := by
  unfold stopRun
  split
  · exact h.travelLaw
  · exact settle_travelLaw (endRunNow_noDemand s)

theorem clearStop_travelLaw (h : s.TravelReady) : (clearStop s).1.travelLaw := by
  unfold clearStop
  split
  · exact h.travelLaw
  · split
    · exact h.travelLaw
    · split
      · dsimp only
        split <;> exact travelLaw_of_same h.travelLaw (by simp) (by simp) (by simp)
      · exact h.travelLaw

/-! ## The other requests -/

theorem closePage_travelLaw (page count endByte : Byte) (h : s.TravelReady) :
    (closePage page count endByte s).1.travelLaw := by
  have ht : (s.setPlan (s.plan.closePage page count endByte).1).TravelReady := h.of_same rfl rfl rfl rfl
  unfold closePage
  dsimp only
  split
  · next w _ hw =>
    dsimp only
    split
    · next hwait =>
      have hhold : s.seq.state = .hold := by
        unfold State.waitsFor at hwait
        rw [hw] at hwait
        exact (of_decide_eq_true hwait).1
      exact settle_travelLaw (retryCrossing_noDemand w (ht.noDemand_of_state hhold (by decide)))
    · exact ht.travelLaw
  · exact ht.travelLaw

theorem releaseResults_keeps_travel (n : Byte) (s : State) :
    (releaseResults n s).1.chainage = s.chainage ∧ (releaseResults n s).1.lining = s.lining
      ∧ (releaseResults n s).1.heads = s.heads := by
  unfold releaseResults
  split
  · exact ⟨rfl, rfl, rfl⟩
  · split <;> exact ⟨rfl, rfl, rfl⟩

theorem releaseResultsRequest_travelLaw (n : Byte) (h : s.TravelReady) :
    (releaseResultsRequest n s).1.travelLaw := by
  obtain ⟨hc, hl, hh⟩ := releaseResults_keeps_travel n s
  unfold releaseResultsRequest
  dsimp only
  split
  · next hs => exact settle_travelLaw (admitSleeper_noDemand ((h.noDemand_of_state hs.1 (by decide)).of_same hc))
  · exact travelLaw_of_same h.travelLaw hc hl hh

theorem setChainageTo_travelLaw (value : BitVec 32) (h : s.TravelReady) : (setChainageTo value s).1.travelLaw := by
  unfold setChainageTo
  repeat' split
  all_goals exact h.travelLaw

theorem getCounters_travelLaw (clear : Byte) (h : s.TravelReady) : (getCounters clear s).1.travelLaw := by
  unfold getCounters
  split
  · exact h.travelLaw
  · dsimp only
    split <;> exact h.travelLaw

theorem setParam_travelLaw (id : Byte) (value : BitVec 32) (h : s.TravelReady) :
    (setParam id value s).1.travelLaw := by
  have hstore : ∀ p v, (storeParam p v s).travelLaw := fun p v => by
    unfold storeParam
    dsimp only
    split <;> exact travelLaw_of_same h.travelLaw (by simp) (by simp) (by simp)
  unfold setParam setChord setClamped
  dsimp only
  split
  · exact h.travelLaw
  · split
    · split
      · exact h.travelLaw
      · split
        · exact h.travelLaw
        · exact hstore _ _
    · exact hstore _ _

/-- The owner of a request keeps the law of the travel line. -/
theorem runCall_travelLaw (c : Call) (h : s.TravelReady) : (runCall c s).1.travelLaw := by
  cases c with
  | setParam id value => exact setParam_travelLaw id value h
  | closePage page count endByte => exact closePage_travelLaw page count endByte h
  | setChainage value => exact setChainageTo_travelLaw value h
  | startRun page index => exact startRun_travelLaw page index h
  | pause => exact pauseRun_travelLaw h
  | resume => exact resumeRun_travelLaw h
  | confirm => exact confirmSleeper_travelLaw h
  | skipSleeper => exact skipSleeper_travelLaw h
  | abortSleeper => exact abortSleeper_travelLaw h
  | retamp => exact retampSleeper_travelLaw h
  | stopRun => exact stopRun_travelLaw h
  | clearStop => exact clearStop_travelLaw h
  | releaseResults n => exact releaseResultsRequest_travelLaw n h
  | getCounters clear => exact getCounters_travelLaw clear h
  | _ => exact h.travelLaw

/-! ## The link -/

theorem report_travelLaw (before : State) (h : s.travelLaw) : (report before s).travelLaw := by
  obtain ⟨-, -, -, -, -, -, -, -, hc, -, -, -, hh, hl, -⟩ := State.reportOf_keeps (report_reportOf before s)
  exact travelLaw_of_same h hc hl hh

theorem execute_travelLaw (r : Request) (h : s.TravelReady) : (execute r s).travelLaw :=
  report_travelLaw s (travelLaw_of_same (runCall_travelLaw r.call h) (by simp) (by simp) (by simp))

theorem acceptRequest_keeps_travel (r : Request) (s : State) :
    (acceptRequest r s).chainage = s.chainage ∧ (acceptRequest r s).lining = s.lining
      ∧ (acceptRequest r s).heads = s.heads := by
  unfold acceptRequest
  dsimp only
  split
  · exact ⟨rfl, rfl, rfl⟩
  · split
    · exact ⟨rfl, rfl, rfl⟩
    · split <;> exact ⟨rfl, rfl, rfl⟩

theorem acceptRequest_ready (r : Request) (h : s.TravelReady) : (acceptRequest r s).TravelReady := by
  obtain ⟨hc, hl, hh⟩ := acceptRequest_keeps_travel r s
  obtain ⟨-, -, hq⟩ := acceptRequest_keeps_plan r s
  exact h.of_same hc hq hl hh

theorem acceptRequest_travelLaw (r : Request) (h : s.travelLaw) : (acceptRequest r s).travelLaw := by
  obtain ⟨hc, hl, hh⟩ := acceptRequest_keeps_travel r s
  exact travelLaw_of_same h hc hl hh

theorem executeOldest_travelLaw (h : s.TravelReady) : (executeOldest s).travelLaw := by
  unfold executeOldest
  split
  · exact h.travelLaw
  · split
    · exact execute_travelLaw _ h
    · exact h.travelLaw

theorem request_travelLaw (r : Request) (h : s.TravelReady) : (request r s).travelLaw := by
  unfold request
  split
  · exact h.travelLaw
  · split
    · exact executeOldest_travelLaw h
    · split
      · exact executeOldest_travelLaw (acceptRequest_ready r h)
      · exact acceptRequest_travelLaw r h.travelLaw

theorem dropFrame_travelLaw (k : Counter) (h : s.travelLaw) : (dropFrame k s).travelLaw := h

theorem takeFrame_travelLaw (n : Nat) (bytes : List Byte) (h : s.travelLaw) : (takeFrame n bytes s).travelLaw := by
  unfold takeFrame
  split
  · split
    · split
      · exact acceptRequest_travelLaw _ h
      · exact dropFrame_travelLaw _ h
    · exact dropFrame_travelLaw _ h
  · exact dropFrame_travelLaw _ h

theorem collect_travelLaw (bytes : List Byte) (h : s.travelLaw) : (collect bytes s).travelLaw := by
  unfold collect
  split
  · exact h
  · split
    · exact dropFrame_travelLaw _ h
    · split
      · exact takeFrame_travelLaw _ _ h
      · exact h

theorem takeByte_travelLaw (b : RxByte) (h : s.travelLaw) : (takeByte b s).travelLaw := by
  unfold takeByte
  split
  · split <;> exact h
  · split
    · exact collect_travelLaw _ h
    · exact dropFrame_travelLaw _ h

theorem expireGap_travelLaw (h : s.travelLaw) : (expireGap s).travelLaw := by
  unfold expireGap
  split
  · exact h
  · exact dropFrame_travelLaw _ h

/-- The restart once its reply has left withdraws the demand (11 R185, 03 R47). -/
theorem takeSent_travelLaw (h : s.travelLaw) : (takeSent s).travelLaw := by
  unfold takeSent
  split
  · exact h
  · split
    · exact h
    · split
      · exact (State.NoDemand.of_cleared (m := s.chainage.move) rfl).travelLaw
      · exact h

/-! ## Events -/

/-- An event keeps the law where its own change does: what follows it touches neither the demand, the unit nor a
head. -/
theorem event_travelLaw {f : State → State} (h : s.travelLaw) (hf : (f s).travelLaw) : (event f s).travelLaw := by
  unfold event closeEvent
  split
  · exact h
  · exact report_travelLaw s (travelLaw_of_same hf (by simp) (by simp) (by simp))

theorem levelEvent_travelLaw {g : Inputs → Inputs} {f : State → State} (h : s.travelLaw) (hf : (f s).travelLaw) :
    (levelEvent g f s).travelLaw := by
  cases hr : s.resetLow with
  | true => rw [levelEvent, if_pos hr]; exact h
  | false => rw [levelEvent_eq hr]; exact event_travelLaw h hf

/-- Bytes received one after the other (log entry 3). -/
theorem bytes_travelLaw (bytes : List RxByte) (s : State) (h : s.travelLaw) :
    (bytes.foldl (fun t b => event (takeByte b) t) s).travelLaw := by
  induction bytes generalizing s with
  | nil => exact h
  | cons b rest ih => exact ih _ (event_travelLaw h (takeByte_travelLaw b h))

end TravelRequests

/-! ## Every command and every step -/

/-- Every command keeps the law of the travel line. -/
theorem exec_travelLaw {c : Instr} {s t : State} (h : exec c s = .next t) (hr : s.TravelReady) : t.travelLaw := by
  have hlaw := hr.travelLaw
  have hinputs : ∀ i, (s.setInputs i).TravelReady := fun i => hr.of_same rfl rfl rfl rfl
  cases c with
  | loadRecords tag page first records =>
    simp only [exec, execLoadRecords] at h
    split at h
    · cases h; exact request_travelLaw _ hr
    · cases h
  | frameReceived bytes => cases h; exact bytes_travelLaw bytes s hlaw
  | gapLimitExpiry => cases h; exact event_travelLaw hlaw (expireGap_travelLaw hlaw)
  | frameSent => cases h; exact event_travelLaw hlaw (takeSent_travelLaw hlaw)
  | powerOnReset => cases h; exact State.NoDemand.travelLaw rfl
  | measuringFrame bytes intact => cases h; exact event_travelLaw hlaw (takeMeasuringFrame_ready _ hr).settle
  | silenceLimitExpiry => cases h; exact event_travelLaw hlaw (expireSilence_ready hr).settle
  | axisFrame frame => cases h; exact event_travelLaw hlaw (takeAxisFrame_travelLaw frame hr)
  | axisLineSilenceExpiry => cases h; exact event_travelLaw hlaw (expireAxisLine_ready hr).travelLaw
  | safetyChainChange closed => cases h; exact levelEvent_travelLaw hlaw (takeChain_ready closed hr).travelLaw
  | operatorInputActive input =>
    cases h
    have hactivity := activityFrom_eq (operatorSource input) s
    exact event_travelLaw hlaw (by rw [hactivity]; exact hlaw)
  | odometerCount forward => cases h; exact event_travelLaw hlaw hlaw
  | detection => cases h; exact event_travelLaw hlaw (takeDetection_ready hr).travelLaw
  | halted => cases h; exact event_travelLaw hlaw (takeHalted_ready hr).settle
  | indexTimerExpiry => cases h; exact event_travelLaw hlaw (expireIndexTimer_ready hr).travelLaw
  | clampSensorReport clamp closed =>
    cases h; exact levelEvent_travelLaw hlaw (takeClampLevels_ready (hinputs _)).settle
  | clampTimerExpiry => cases h; exact event_travelLaw hlaw (expireClampTimer_ready hr).settle
  | correctionTimerExpiry => cases h; exact event_travelLaw hlaw (expireCorrection_ready hr).settle
  | tiltSensorReport head arm report =>
    cases h
    exact levelEvent_travelLaw hlaw (stepHead_ready head (hinputs _) fun hp => by
      rwa [quiet, HeadRecord.sensed_parked _ hp]).settle
  | headRaisedSensorReport head raised =>
    cases h; exact levelEvent_travelLaw hlaw (takeRaised_travelLaw head (hinputs _))
  | traverseTimerExpiry head => cases h; exact event_travelLaw hlaw (expireTraverse_travelLaw head hr)
  | tiltTimerExpiry head => cases h; exact event_travelLaw hlaw (expireTilt_travelLaw head hr)
  | penetrationTimerExpiry head => cases h; exact event_travelLaw hlaw (expirePenetration_travelLaw head hr)
  | squeezeTimerExpiry head => cases h; exact event_travelLaw hlaw (expireSqueeze_travelLaw head hr)
  | attentionTimerExpiry => cases h; exact event_travelLaw hlaw (expireAttention_ready hr).travelLaw
  | receivedByte byte => cases h; exact event_travelLaw hlaw (takeByte_travelLaw byte hlaw)
  | resetLineLow => cases h; exact hlaw
  | _ => cases h; exact request_travelLaw _ hr

/-- Settles O57: a demand begins only in `startIndexMove`, whose guard is the law, and while one is active an event
leaves the unit OPEN and every head PARKED or ends the demand. -/
theorem stepKeepsTravelLaw : Obligations.StepKeepsTravelLaw := by
  intro s t h hcycle hawait htravel
  have hready := State.TravelReady.of_laws hcycle hawait htravel
  unfold step at h
  split at h
  · cases h
    unfold idle
    split
    · exact htravel
    · exact executeOldest_travelLaw hready
  · exact exec_travelLaw h (hready.of_same rfl rfl rfl rfl)

end Sys2Proof.Machine
end

section
/-! PROOFS. The odometer, SET_CHAINAGE, detections and the judging of a stop of the drive (03 R44, R45, R50 to R60). -/

namespace Sys2Proof.Machine

theorem absInt_le_iff {v n : Int} : absInt v ≤ n ↔ -n ≤ v ∧ v ≤ n := by
  unfold absInt
  split <;> omega

/-- An event whose own change is known, and keeps the class of the sequencer's state, the latches and
REPORT_ENABLE. -/
theorem event_eq_of_quiet {f : State → State} {s t : State} (h : s.resetLow = false) (hf : f s = t)
    (hseq : t.seq.state.attentive = s.seq.state.attentive) (hlat : t.latches = s.latches)
    (hen : t.params.reportEnable = s.params.reportEnable) : event f s = t := by
  subst hf
  exact event_quiet h hseq hlat hen

/-! ## The odometer and SET_CHAINAGE (03 R44, R45) -/

section Chainage

variable {s : State}

theorem exec_odometerCount (forward : Bool) (h : s.resetLow = false) :
    exec (.odometerCount forward) s = .next (s.setChainage (s.chainage.count forward)) :=
  congrArg Host.Outcome.next (event_quiet h rfl rfl rfl)

theorem setChainageTo_bad_value {value : BitVec 32} (hv : 99999999 < value.toNat) (s : State) :
    setChainageTo value s = (s, .plain .badValue) := if_pos hv

theorem setChainageTo_refused {value : BitVec 32} (hv : value.toNat ≤ 99999999)
    (hd : s.chainage.move.demandActive = true) : setChainageTo value s = (s, .plain .wrongState) :=
  (if_neg (not_lt.mpr hv)).trans (if_pos hd)

theorem setChainageTo_set {value : BitVec 32} (hv : value.toNat ≤ 99999999)
    (hd : s.chainage.move.demandActive = false) :
    setChainageTo value s = (s.setChainage { s.chainage with running := value.toNat }, .plain .ok) :=
  (if_neg (not_lt.mpr hv)).trans (if_neg (by simp [hd]))

end Chainage

/-- Settles O20: each check of SET_CHAINAGE in its order. -/
theorem chainageCountedAndSet : Obligations.ChainageCountedAndSet := by
  intro s tag value
  refine ⟨fun h => ⟨exec_odometerCount true h, exec_odometerCount false h⟩, fun h => ⟨fun hv => ?_, fun hv hd => ?_,
    fun hv hd => ?_⟩⟩
  · exact congrArg Host.Outcome.next (unchanged_request_answered h (by simp) (setChainageTo_bad_value hv _))
  · exact congrArg Host.Outcome.next (unchanged_request_answered h (by simp) (setChainageTo_refused hv hd))
  · exact congrArg Host.Outcome.next (request_answered h (by simp) (setChainageTo_set hv hd) rfl rfl rfl rfl)

/-! ## Detections (03 R56 to R58) -/

section Detection

variable {s : State}

theorem takeDetection_of_noDemand (h : s.NoDemand) : takeDetection s = s := if_neg (by rw [h]; decide)

variable {r : SleeperRecord}

/-- A detection taken during a demand, before it is judged. -/
theorem takeDetection_of_demand (hr : s.plan.workheadRecord = some r) (hd : s.chainage.move.demandActive = true) :
    takeDetection s
      = if (s.chainage.detect s.params r.chainage).2 = true then s.bump .detectionsSpurious
        else s.setChainage (s.chainage.detect s.params r.chainage).1 := by
  simp [takeDetection, hr, hd]

theorem detect_after_match {c : ChainageUnit} (h : c.move.drift.isSome = true) (p : Params) (nominal : Int) :
    c.detect p nominal = (c, false) := if_pos h

/-- The drift of a detection: the sensed position less the expected one (03 R56). -/
def ChainageUnit.driftOf (c : ChainageUnit) (p : Params) (nominal : Int) : Int :=
  c.running + p.detectorLead - (nominal + c.offset)

theorem detect_matched {c : ChainageUnit} {p : Params} {nominal : Int} (h : c.move.drift = none)
    (hlo : -p.driftTolerance ≤ c.driftOf p nominal) (hhi : c.driftOf p nominal ≤ p.driftTolerance) :
    c.detect p nominal
      = ({ c with
            offset := c.offset + c.driftOf p nominal
            move :=
              { c.move with
                target := nominal + (c.offset + c.driftOf p nominal), drift := some (c.driftOf p nominal) }
            line := some (.revise (nominal + (c.offset + c.driftOf p nominal) - c.running)) }, false) :=
  (if_neg (by simp [h])).trans (if_pos (absInt_le_iff.mpr ⟨hlo, hhi⟩))

theorem detect_spurious {c : ChainageUnit} {p : Params} {nominal : Int} (h : c.move.drift = none)
    (hout : c.driftOf p nominal < -p.driftTolerance ∨ p.driftTolerance < c.driftOf p nominal) :
    c.detect p nominal = (c, true) :=
  (if_neg (by simp [h])).trans (if_neg fun hle => by
    obtain ⟨hlo, hhi⟩ := absInt_le_iff.mp hle
    exact hout.elim (not_lt.mpr hlo) (not_lt.mpr hhi))

end Detection

/-- Settles O21, by the matched mark and the drift. -/
theorem detectionMatchesOrIsSpurious : Obligations.DetectionMatchesOrIsSpurious := by
  intro s hlow
  refine ⟨fun hd => congrArg Host.Outcome.next (event_same (takeDetection_of_noDemand hd)),
    fun r hr hd => ⟨fun hm => ?_, fun hm hlo hhi => ?_, fun hm hout => ?_⟩⟩
  all_goals have htake := takeDetection_of_demand hr hd
  · rw [detect_after_match hm] at htake
    exact congrArg Host.Outcome.next (event_same htake)
  · rw [detect_matched hm hlo hhi] at htake
    exact congrArg Host.Outcome.next (event_eq_of_quiet hlow htake rfl rfl rfl)
  · rw [detect_spurious hm hout] at htake
    exact congrArg Host.Outcome.next (event_eq_of_quiet hlow htake rfl rfl rfl)

/-! ## The stop of the drive and the index timer (03 R50 to R54, R59, R60) -/

section Halted

variable {s : State}

/-- The drive has come to rest within the stop tolerance of the target (03 R50). -/
theorem withinTolerance_iff (c : ChainageUnit) :
    c.withinTolerance = true
      ↔ -c.move.stopTolerance ≤ c.running - c.move.target ∧ c.running - c.move.target ≤ c.move.stopTolerance := by
  simp [ChainageUnit.withinTolerance, ChainageUnit.positionError, absInt_le_iff]

theorem takeHalted_of_noDemand (h : s.NoDemand) : takeHalted s = s := by
  cases hm : s.chainage.move.state <;> simp_all [takeHalted, State.NoDemand, IndexMove.demandActive]

theorem takeHalted_within (hd : s.chainage.move.demandActive = true) (hw : s.chainage.withinTolerance = true) :
    takeHalted s = positioned (s.modMove fun m => { m with timer := none }) := by
  cases hm : s.chainage.move.state <;> simp_all [takeHalted, IndexMove.demandActive]

/-- The outcome that is judged at a positioning (03 R59): the one that stands, or by the matched mark and NO_DETECT. -/
theorem judged_outcome {m : IndexMove} {r : SleeperRecord} {o : DetectionOutcome}
    (h : match m.outcome with
      | some before => o = before
      | none =>
        (m.drift.isSome = true ∧ o = .matched) ∨ (m.drift = none ∧ r.noDetect = true ∧ o = .exempt)
          ∨ (m.drift = none ∧ r.noDetect = false ∧ o = .missed)) :
    m.outcome.getD (judgeDetection m r.noDetect) = o := by
  cases ho : m.outcome with
  | some before => rw [ho] at h; exact h.symm
  | none =>
    rw [ho] at h
    rcases h with ⟨hm, rfl⟩ | ⟨hm, hn, rfl⟩ | ⟨hm, hn, rfl⟩ <;> simp [judgeDetection, *]

/-- The record POSITIONED with its outcome and the counts that follow, then its admission (03 R54). -/
theorem positioned_eq {r : SleeperRecord} {o : DetectionOutcome} (hr : s.plan.workheadRecord = some r)
    (ho : s.chainage.move.outcome.getD (judgeDetection s.chainage.move r.noDetect) = o) :
    positioned s = admitSleeper
      (((s.setCounters
          (if s.chainage.move.outcome = none ∧ o = .missed then s.counters.bump .detectionsMissed
            else s.counters)).modMove fun m => { m with state := .positioned, outcome := some o }).modSeq fun q =>
        { q with missCount := missCountAfter q.missCount o }) := by
  unfold positioned
  dsimp only
  rw [hr, Option.map_some, Option.getD_some, ho]
  split <;> rfl

theorem positioned_judged {r : SleeperRecord} {o : DetectionOutcome} (hr : s.plan.workheadRecord = some r)
    (ho : s.chainage.move.outcome.getD (judgeDetection s.chainage.move r.noDetect) = o) :
    positioned (s.modMove fun m => { m with timer := none }) = admitSleeper (judgedState s o) :=
  (positioned_eq (s := s.modMove fun m => { m with timer := none }) hr ho).trans (by cases o <;> rfl)

/-- A first stop outside the tolerance sends the one correction move (03 R50). -/
theorem takeHalted_first_beyond (hm : s.chainage.move.state = .firstMove) (hw : s.chainage.withinTolerance = false) :
    takeHalted s
      = s.setChainage
          { s.chainage with
            move := { s.chainage.move with
              state := .correctionMove, stopTolerance := s.params.stopTolerance, timer := some s.params.indexTime }
            line := some (.move (-(s.chainage.running - s.chainage.move.target))) } := by
  simp [takeHalted, hm, hw, ChainageUnit.sendMove, ChainageUnit.positionError]

/-- The sleeper is not reached: the move FAULTED, HOLD(POSITION_FAULT) (03 R51, R52). -/
def State.positionFault (s : State) (line : Option TravelDemand) : State :=
  { s with
    chainage := { s.chainage with
      move := { s.chainage.move with state := .faulted, timer := none }, line := line }
    seq := { s.seq with state := .hold, hold := some .positionFault }
    latches := s.latches ||| 0x01 }

theorem takeHalted_correction_beyond (hm : s.chainage.move.state = .correctionMove)
    (hw : s.chainage.withinTolerance = false) : takeHalted s = s.positionFault s.chainage.line := by
  simp only [takeHalted, hm, hw]
  rfl

theorem expireIndexTimer_running (hd : s.chainage.move.demandActive = true)
    (ht : s.chainage.move.timer.isSome = true) : expireIndexTimer s = s.positionFault (some .cancel) :=
  if_pos ⟨hd, ht⟩

theorem expireIndexTimer_of_noDemand (h : s.NoDemand) : expireIndexTimer s = s :=
  if_neg fun hd => by rw [h] at hd; exact absurd hd.1 (by decide)

/-! ## The end of the event -/

theorem releaseAfterHeads_of_awaited {i : Fin 4} (h : s.lining.awaited.get i = true) : releaseAfterHeads s = s := by
  refine if_neg fun hr => ?_
  have hi := (Quad.anyTrue_false_iff _).mp hr.2 i
  rw [h] at hi
  cases hi

/-- Outside the states that wait for the machine, with no release come due, nothing comes about. -/
theorem settle_of_quiet (hi : s.seq.state ≠ .indexing) (hc : s.seq.state ≠ .correcting) (ht : s.seq.state ≠ .tamping)
    (hr : releaseAfterHeads s = s) : settle s = s :=
  (settle_of_state hc ht (by rwa [hr])).trans hr

end Halted

/-- Settles O22, by the demand, the move and where the drive stopped. -/
theorem stopOfTheDriveJudged : Obligations.StopOfTheDriveJudged := by
  intro s hlow error within faulted
  have hwithin : s.chainage.withinTolerance = true ↔ within := withinTolerance_iff s.chainage
  have hbeyond : ¬within → s.chainage.withinTolerance = false := fun hn =>
    Bool.eq_false_iff.mpr fun hw => hn (hwithin.mp hw)
  refine ⟨fun r hr hd hw => ⟨_, rfl, fun o ho => ?_⟩, fun hm hw hq hopen hrel => ?_, fun hm hw hrel hq => ⟨_, rfl, ?_⟩,
    fun hd ht hq => ⟨_, rfl, ?_⟩, fun hd => ⟨?_, fun hi hc ht hrel => ?_, fun hs => ?_⟩⟩
  · have htake := (takeHalted_within hd (hwithin.mpr hw)).trans (positioned_judged hr (judged_outcome ho))
    exact htake ▸ event_reportOf hlow
  · have htake := takeHalted_first_beyond hm (hbeyond hw)
    have hend := (congrArg settle htake).trans (settle_of_demand hq hopen hrel rfl)
    exact congrArg Host.Outcome.next
      (event_eq_of_quiet (f := fun t => settle (takeHalted t)) hlow hend rfl rfl rfl)
  · have htake := takeHalted_correction_beyond hm (hbeyond hw)
    have hend : settle (takeHalted s) = faulted s.chainage.line := by
      rw [htake]
      exact settle_of_quiet (by simp [State.positionFault]) (by simp [State.positionFault])
        (by simp [State.positionFault]) (releaseAfterHeads_same hrel)
    have hclass : (settle (takeHalted s)).seq.state.attentive = s.seq.state.attentive := by rw [hend, hq]; rfl
    exact hend ▸ event_reportOf_same (f := fun t => settle (takeHalted t)) hlow hclass
  · have htake : expireIndexTimer s = faulted (some .cancel) := expireIndexTimer_running hd ht
    have hclass : (expireIndexTimer s).seq.state.attentive = s.seq.state.attentive := by rw [htake, hq]; rfl
    exact htake ▸ event_reportOf_same hlow hclass
  · exact congrArg Host.Outcome.next (event_same (expireIndexTimer_of_noDemand hd))
  · have hsettle : settle s = s := by
      refine settle_of_quiet hi hc ht ?_
      rcases hrel with hrel | ⟨j, hj⟩
      · exact releaseAfterHeads_same hrel
      · exact releaseAfterHeads_of_awaited hj
    exact congrArg Host.Outcome.next (event_same (by rw [takeHalted_of_noDemand hd, hsettle]))
  · exact congrArg Host.Outcome.next (event_same (by rw [takeHalted_of_noDemand hd, hs]))

end Sys2Proof.Machine
end

section
/-! PROOFS. The measuring unit (04): the five channels, the samples of a frame, settle windows with their settled
values, and live records. -/

namespace Sys2Proof.Machine

/-! ## Families of five -/

section Channels

variable {α β γ : Type}

@[simp] theorem channelAt_map (f : α → β) (c : Channels α) (k : Fin 5) : channelAt (c.map f) k = f (channelAt c k) := by
  match k with | 0 => rfl | 1 => rfl | 2 => rfl | 3 => rfl | 4 => rfl

@[simp] theorem channelAt_zip (f : α → β → γ) (c : Channels α) (e : Channels β) (k : Fin 5) :
    channelAt (c.zip f e) k = f (channelAt c k) (channelAt e k) := by
  match k with | 0 => rfl | 1 => rfl | 2 => rfl | 3 => rfl | 4 => rfl

@[simp] theorem channelAt_all5 (x : α) (k : Fin 5) : channelAt (.all5 x) k = x := by
  match k with | 0 => rfl | 1 => rfl | 2 => rfl | 3 => rfl | 4 => rfl

theorem forall_fin5 {P : Fin 5 → Prop} : (∀ k, P k) ↔ P 0 ∧ P 1 ∧ P 2 ∧ P 3 ∧ P 4 :=
  ⟨fun h => ⟨h 0, h 1, h 2, h 3, h 4⟩, fun ⟨a, b, c, d, e⟩ k => by
    match k with | 0 => exact a | 1 => exact b | 2 => exact c | 3 => exact d | 4 => exact e⟩

theorem Channels.all_iff (q : Channels Bool) : q.toList.all id = true ↔ ∀ k, channelAt q k = true := by
  rw [forall_fin5]; simp [Channels.toList, channelAt]

theorem Channels.any_iff (q : Channels Bool) : q.toList.any id = true ↔ ∃ k, channelAt q k = true := by
  rw [← not_forall_not, forall_fin5]
  simp only [not_and_or, not_not]
  simp [Channels.toList, channelAt]

end Channels

/-! ## The samples of a frame (04 R64, R65) -/

theorem sampleOf_eq (range : Int) (hi lo status : Byte) : sampleOf range hi lo status
    = if status = 0 ∧ -range ≤ (word2 hi lo).toInt ∧ (word2 hi lo).toInt ≤ range then some (word2 hi lo).toInt
      else none := rfl

theorem validSamples_of_length_ne {bytes : List Byte} (h : bytes.length ≠ 17) (intact : Bool) :
    validSamples bytes intact = .all5 none := by
  unfold validSamples
  split
  · exact absurd rfl h
  · rfl

theorem validSamples_samplesTaken (bytes : List Byte) (intact : Bool) :
    SamplesTaken bytes intact (validSamples bytes intact) := by
  by_cases hlen : bytes.length = 17
  · match bytes, hlen with
    | [a1, a0, sa, b1, b0, sb, c1, c0, sc, d1, d0, sd, e1, e0, se, h, l], _ =>
      by_cases hcheck : intact = true
          ∧ crc16 [a1, a0, sa, b1, b0, sb, c1, c0, sc, d1, d0, sd, e1, e0, se] = word2 h l
      · refine forall_fin5.mpr ⟨?_, ?_, ?_, ?_, ?_⟩ <;>
          simp [validSamples, hcheck, channelAt, sampleOf_eq, channelRange]
      · intro k
        have hnone : validSamples [a1, a0, sa, b1, b0, sb, c1, c0, sc, d1, d0, sd, e1, e0, se, h, l] intact
            = .all5 none := if_neg hcheck
        rw [hnone, channelAt_all5]
        exact (if_neg fun hall => hcheck ⟨hall.2.1, hall.2.2.1⟩).symm
  · intro k
    simp [validSamples_of_length_ne hlen, hlen]

/-! ## Settle windows (04 R68 to R71) -/

/-- The rounding of the manual is to nearest, ties away from zero (00 "Arithmetic"). -/
theorem roundDiv_nearestAway (a : Int) {n : Nat} (hn : 0 < n) : NearestAway a n (roundDiv a n) := by
  have hdiv := Nat.div_add_mod (2 * a.natAbs + n) (2 * n)
  have hmod := Nat.mod_lt (2 * a.natAbs + n) (show 0 < 2 * n by omega)
  unfold NearestAway roundDiv
  generalize (2 * a.natAbs + n) / (2 * n) = q at *
  have hq : 2 * n * q = 2 * (n * q) := by ring
  split
  · rw [abs_of_nonneg ‹0 ≤ a›, abs_of_nonneg (Int.natCast_nonneg q), ← Int.natCast_mul, abs_eq_max_neg]
    omega
  · rw [abs_of_neg (not_le.mp ‹¬0 ≤ a›), abs_neg, abs_of_nonneg (Int.natCast_nonneg q), mul_neg, ← Int.natCast_mul,
      abs_eq_max_neg]
    omega

theorem Tally.take_eq (n : Nat) (used : Bool) (t : Tally) (sample : Option Int) : t.take n used sample
    = match sample with
      | none => t
      | some v => if used = true ∧ t.count < n then ⟨t.count + 1, t.sum + v⟩ else t := by
  cases sample <;> rfl

theorem Window.complete_iff (w : Window) :
    w.complete = true ↔ ∀ k : Fin 5, channelAt w.inUse k = true → (channelAt w.tally k).count = w.length := by
  rw [Window.complete, Channels.all_iff]
  refine forall_congr' fun k => ?_
  cases h : channelAt w.inUse k <;> simp [h]

theorem Window.take_windowFrame (w : Window) (samples : Channels (Option Int)) :
    WindowFrame w (w.take samples) samples := by
  refine ⟨rfl, fun k => ?_, ?_⟩
  · simp only [Window.take, channelAt_zip]
    exact Tally.take_eq ..
  · rw [Window.closes, Bool.or_eq_true, Window.complete_iff, decide_eq_true_eq]
    rfl

theorem Window.settled_at (w : Window) (k : Fin 5) : channelAt w.settled k
    = if channelAt w.inUse k = true ∧ (channelAt w.tally k).count = w.length then
        some (roundDiv (channelAt w.tally k).sum w.length)
      else none := channelAt_zip ..

theorem Window.settled_windowSettled {w : Window} (h : 0 < w.length) : WindowSettled w w.settled := fun k =>
  ⟨fun hfull => ⟨_, (w.settled_at k).trans (if_pos hfull), roundDiv_nearestAway _ h⟩,
    fun hshort => (w.settled_at k).trans (if_neg hshort)⟩

theorem degradedBy_iff (inUse : Channels Bool) (settled : Channels (Option Int)) :
    degradedBy inUse settled = true ↔ ∃ k : Fin 5, channelAt inUse k = true ∧ channelAt settled k = none := by
  simp only [degradedBy, Channels.any_iff, channelAt_zip, Bool.and_eq_true, Option.isNone_iff_eq_none]

/-! ## Live records (04 R73, R74) -/

theorem Live.take_liveFrame (approaching : Bool) (l : Live) (samples : Channels (Option Int)) :
    LiveFrame approaching l (l.take approaching samples) samples := by
  refine ⟨rfl, fun k => ?_⟩
  simp only [Live.take, channelAt_zip]
  cases channelAt samples k <;> rfl

/-- The difference of two channels is present where both are (04 R71, 08 R146). -/
theorem residuals_at (settled targets : Channels (Option Int)) (k : Fin 5) : channelAt (residuals settled targets) k
    = match channelAt settled k, channelAt targets k with
      | some a, some b => some (a - b)
      | _, _ => none := channelAt_zip ..

theorem achievedValues_at (last settled : Channels (Option Int)) (k : Fin 5) :
    channelAt (achievedValues last settled) k
      = match channelAt last k, channelAt settled k with
        | some x, some y => some (x - y)
        | _, _ => none := channelAt_zip ..

end Sys2Proof.Machine
end

section
/-! PROOFS. The PRE window (04 R68 to R71, R76, R77, 06 R102, 08 R142): it fills, closes, and hands over. -/

namespace Sys2Proof.Machine

section Windows

variable {s t : State} {w : Window} {c : Context}

/-! ## The end of an event of the measuring line -/

/-- Nothing comes about where no state of the run waits for more than it has and no release is due. -/
theorem settle_of_waiting (hbegin : beginTamping s = s) (hend : endTamping s = s) (hrel : releaseAfterHeads s = s)
    (hi : s.seq.state ≠ .indexing) : settle s = s := by
  rw [settle, hbegin, hend, hrel, releaseFrozen_same hi, startIndexMove_same hi]

theorem beginTamping_of_unit (h : s.lining.state ≠ .holding) : beginTamping s = s := by
  unfold beginTamping; split <;> simp [h]

/-- What an event leaves as its own change does: its reports and the attention timer touch none of these. -/
theorem event_shares (f : State → State) (h : s.resetLow = false) :
    (event f s).seq = (f s).seq ∧ (event f s).measuring = (f s).measuring ∧ (event f s).computer = (f s).computer
      ∧ (event f s).heads = (f s).heads ∧ (event f s).stop = (f s).stop ∧ (event f s).manualMask = (f s).manualMask
      ∧ (event f s).results = (f s).results ∧ (event f s).keepsStores (f s) := by
  have hrep := event_reportOf (f := f) h
  have hkeeps := State.reportOf_keeps hrep
  obtain ⟨-, hrx, hreq, hrestart, -, -⟩ := hrep
  simp [State.keepsStores, hkeeps, hrx, hreq, hrestart]

theorem exec_measuringFrame_of_quiet (bytes : List Byte) (intact : Bool) (h : s.resetLow = false)
    (ht : settle (takeMeasuringFrame (validSamples bytes intact) s) = t)
    (hseq : t.seq.state.attentive = s.seq.state.attentive) (hlat : t.latches = s.latches)
    (hparams : t.params = s.params) : exec (.measuringFrame bytes intact) s = .next t :=
  congrArg Host.Outcome.next
    (event_eq_of_quiet (f := fun x => settle (takeMeasuringFrame (validSamples bytes intact) x)) h ht hseq hlat
      (congrArg Params.reportEnable hparams))

theorem exec_silenceLimitExpiry_of_quiet (h : s.resetLow = false) (ht : settle (expireSilence s) = t)
    (hseq : t.seq.state.attentive = s.seq.state.attentive) (hlat : t.latches = s.latches)
    (hparams : t.params = s.params) : exec .silenceLimitExpiry s = .next t :=
  congrArg Host.Outcome.next (event_eq_of_quiet (f := fun x => settle (expireSilence x)) h ht hseq hlat
    (congrArg Params.reportEnable hparams))

/-! ## A window that fills or closes -/

theorem takeMeasuringFrame_fills {samples : Channels (Option Int)} (hw : s.measuring = .window w)
    (hc : (w.take samples).closes = false) :
    takeMeasuringFrame samples s = s.setMeasuring (.window (w.take samples)) := by
  simp [takeMeasuringFrame, hw, hc]

theorem takeMeasuringFrame_closes {samples : Channels (Option Int)} (hw : s.measuring = .window w)
    (hc : (w.take samples).closes = true) : takeMeasuringFrame samples s = closeWindow (w.take samples) s := by
  simp [takeMeasuringFrame, hw, hc]

theorem expireSilence_window (hw : s.measuring = .window w) : expireSilence s = closeWindow w s := by
  simp [expireSilence, hw]

theorem closeWindow_pre (hc : s.seq.context = some c) (hk : w.kind = .pre) : closeWindow w s = closePre w c s := by
  simp [closeWindow, hc, hk]

theorem closeWindow_final (hc : s.seq.context = some c) (hk : w.kind = .final) :
    closeWindow w s = closeFinal w c s := by
  simp [closeWindow, hc, hk]

/-- The frame that does not close a window goes into it, and nothing else comes about (04 R68). -/
theorem exec_measuringFrame_fills {bytes : List Byte} {intact : Bool} (h : s.resetLow = false)
    (hw : s.measuring = .window w) (hq : s.seq.state = .measuring ∨ s.seq.state = .releasing)
    (hrel : s.lining.releaseAfterHeads = false) (hc : (w.take (validSamples bytes intact)).closes = false) :
    exec (.measuringFrame bytes intact) s
      = .next (s.setMeasuring (.window (w.take (validSamples bytes intact)))) := by
  refine exec_measuringFrame_of_quiet bytes intact h ?_ rfl rfl rfl
  rw [takeMeasuringFrame_fills hw hc]
  exact settle_of_quiet (by rcases hq with hq | hq <;> simp [hq]) (by rcases hq with hq | hq <;> simp [hq])
    (by rcases hq with hq | hq <;> simp [hq]) (releaseAfterHeads_same hrel)

/-! ## The close of the PRE window -/

theorem judgeDegraded_seq (d : Bool) : (judgeDegraded d s).seq
    = { s.seq with degradedCount := if d then min 3 (s.seq.degradedCount + 1) else 0 } := by
  cases d <;> rfl

theorem judgeDegraded_counter (d : Bool) (k : Counter) : (judgeDegraded d s).counters.get k
    = if k = .measureDegraded ∧ d = true then min 65535 (s.counters.get k + 1) else s.counters.get k := by
  cases d with
  | false => simp [judgeDegraded]
  | true =>
    by_cases hk : k = .measureDegraded
    · subst hk
      rw [if_pos ⟨rfl, rfl⟩]
      exact Counters.get_bump_self s.counters .measureDegraded
    · simpa [judgeDegraded, hk] using Counters.get_bump_of_ne s.counters hk

theorem closePre_seq (w : Window) (c : Context) : (closePre w c s).seq
    = { s.seq with
        state := .correcting, hold := none
        context := some (c.withCorrection w.settled (degradedBy w.inUse w.settled)
          (computeCorrection (Chord.sample s.params) s.computer c w.settled))
        degradedCount := if degradedBy w.inUse w.settled then min 3 (s.seq.degradedCount + 1) else 0 } := by
  simp [closePre, enterState, State.modSeq, State.modLining, judgeDegraded_seq]

theorem closePre_lining (w : Window) (c : Context) : (closePre w c s).lining
    = s.lining.approachTo (computeCorrection (Chord.sample s.params) s.computer c w.settled).correction := by
  simp [closePre, State.modLining]

theorem closePre_measuring (w : Window) (c : Context) :
    (closePre w c s).measuring = .live (.fresh (channelsFor c.record.branch)) := by
  simp [closePre]

theorem closePre_computer (w : Window) (c : Context) : (closePre w c s).computer = s.computer.holdFront c := by
  simp [closePre]

theorem closePre_counter (w : Window) (c : Context) (k : Counter) : (closePre w c s).counters.get k
    = if k = .measureDegraded ∧ degradedBy w.inUse w.settled = true then min 65535 (s.counters.get k + 1)
      else s.counters.get k := by
  simpa [closePre] using judgeDegraded_counter (s := s) (degradedBy w.inUse w.settled) k

/-- The unit is on its approach, so nothing of the cycle comes about. -/
theorem settle_closePre (w : Window) (c : Context) (hrel : s.lining.releaseAfterHeads = false) :
    settle (closePre w c s) = closePre w c s := by
  have hstate : (closePre w c s).seq.state = .correcting := by rw [closePre_seq]
  have hunit : (closePre w c s).lining.state = .approaching := by rw [closePre_lining]; rfl
  refine settle_of_waiting (beginTamping_of_unit ?_) (endTamping_same ?_) (releaseAfterHeads_same ?_) ?_
  · simp [hunit]
  · simp [hstate]
  · rw [closePre_lining]; exact hrel
  · simp [hstate]

theorem closePre_attentive (w : Window) (c : Context) (hq : s.seq.state = .measuring) :
    (closePre w c s).seq.state.attentive = s.seq.state.attentive := by rw [closePre_seq, hq]; rfl

end Windows

/-- Settles O42: a frame that fills the window, then the two events that close it. -/
theorem preWindowFillsAndCloses : Obligations.PreWindowFillsAndCloses := by
  intro s bytes intact w c hlow hw hk hq hc hrel filled
  refine ⟨validSamples_samplesTaken bytes intact, w.take_windowFrame _,
    fun hlen => ⟨Window.settled_windowSettled hlen, Window.settled_windowSettled (w := filled) hlen⟩,
    degradedBy_iff _ _, ?_⟩
  intro closed
  have hclosed : ∀ v : Window, closed v (closePre v c s) := fun v =>
    ⟨closePre_seq v c, closePre_lining v c, closePre_measuring v c, closePre_computer v c, closePre_counter v c,
      by simp [State.keepsStores]⟩
  have hclose : ∀ v : Window, v.kind = .pre → settle (closeWindow v s) = closePre v c s := fun v hv => by
    rw [closeWindow_pre hc hv]; exact settle_closePre v c hrel
  refine ⟨exec_measuringFrame_fills hlow hw (.inl hq) hrel, fun hcl => ⟨_, ?_, hclosed filled⟩, _, ?_, hclosed w⟩
  · exact exec_measuringFrame_of_quiet bytes intact hlow
      ((congrArg settle (takeMeasuringFrame_closes hw hcl)).trans (hclose filled hk)) (closePre_attentive _ c hq)
      (by simp) (by simp)
  · exact exec_silenceLimitExpiry_of_quiet hlow ((congrArg settle (expireSilence_window hw)).trans (hclose w hk))
      (closePre_attentive w c hq) (by simp) (by simp)

end Sys2Proof.Machine
end

section
/-! PROOFS. The FINAL window (04 R68 to R71, 06 R105, R107, R108): its close records the sleeper, and the run
goes on. -/

namespace Sys2Proof.Machine

section Recorded

variable {s : State} {c : Context} {x : Correction}

/-! ## The run goes on (06 R108, R109) -/

/-- The states a run that goes on after a recording can enter (06 R108 to R110, 01 R20). -/
def Sequencer.wentOn (q : Sequencer) : Prop :=
  q.state = .ended ∨ q.state = .paused ∨ q.state = .indexing ∨ (q.state = .hold ∧ q.hold = some .planExhausted)

theorem advanceRun_wentOn (s : State) : (advanceRun s).seq.wentOn := by
  unfold advanceRun
  split
  · exact .inr (.inr (.inl rfl))
  · exact .inr (.inr (.inr ⟨rfl, rfl⟩))

theorem continueRun_wentOn (s : State) : (continueRun s).seq.wentOn := by
  unfold continueRun
  split
  · exact .inl rfl
  · split
    · exact .inr (.inl rfl)
    · exact advanceRun_wentOn s

theorem advanceRun_flight (s : State) : (advanceRun s).seq.context = s.seq.context
    ∧ (advanceRun s).seq.reservation = s.seq.reservation ∧ (advanceRun s).seq.retained = s.seq.retained := by
  unfold advanceRun
  split <;> exact ⟨rfl, rfl, rfl⟩

/-- The record of the flight stands while the run goes on. -/
theorem continueRun_flight (s : State) : (continueRun s).seq.context = s.seq.context
    ∧ (continueRun s).seq.reservation = s.seq.reservation ∧ (continueRun s).seq.retained = s.seq.retained := by
  unfold continueRun
  split
  · exact ⟨rfl, rfl, rfl⟩
  · split
    · exact ⟨rfl, rfl, rfl⟩
    · exact advanceRun_flight s

/-! ## A release in INDEXING opens no window (06 R99) -/

theorem clampUnit_of_state (h : s.seq.state ≠ .measuring) : clampUnit s = s.modLining fun u => u.clamp s.inputs := by
  simp [clampUnit, reportClamped, State.modLining, h]

theorem reportOpen_of_indexing (h : s.seq.state = .indexing) :
    (reportOpen s).seq = s.seq ∧ (reportOpen s).measuring = s.measuring := by
  unfold reportOpen
  split
  · rw [clampUnit_of_state (by simp [h])]
    exact ⟨rfl, rfl⟩
  · simp [h]

theorem endLive_of_noWindow (h : s.measuring = .noWindow) : endLive s = s := by simp [endLive, h]

theorem releaseUnit_of_indexing (h : s.seq.state = .indexing) (hm : s.measuring = .noWindow) :
    (releaseUnit s).seq = s.seq ∧ (releaseUnit s).measuring = .noWindow := by
  have hend : endLive (s.modLining fun u => u.release s.inputs s.trackSensed)
      = s.modLining fun u => u.release s.inputs s.trackSensed := endLive_of_noWindow hm
  obtain ⟨hseq, hmeas⟩ := reportOpen_of_indexing (s := s.modLining fun u => u.release s.inputs s.trackSensed) h
  unfold releaseUnit
  simp only [hend]
  split
  · exact ⟨hseq, hmeas.trans hm⟩
  · exact ⟨rfl, hm⟩

/-- What the end of the event leaves where the run has gone on and no release after heads is due. -/
theorem settle_wentOn (hq : s.seq.wentOn) (hm : s.measuring = .noWindow) (hrel : s.lining.releaseAfterHeads = false) :
    (settle s).seq = s.seq ∧ (settle s).measuring = .noWindow ∧ (settle s).heads = s.heads := by
  have hc : s.seq.state ≠ .correcting := by rcases hq with h | h | h | ⟨h, -⟩ <;> simp [h]
  have ht : s.seq.state ≠ .tamping := by rcases hq with h | h | h | ⟨h, -⟩ <;> simp [h]
  rw [settle, beginTamping_same hc, endTamping_same ht, releaseAfterHeads_same hrel]
  have hfrozen : (releaseFrozen s).seq = s.seq ∧ (releaseFrozen s).measuring = .noWindow := by
    unfold releaseFrozen
    split
    next h => exact releaseUnit_of_indexing h.1 hm
    next => exact ⟨rfl, hm⟩
  simp [hfrozen]

/-! ## The close of the FINAL window -/

/-- The state the FINAL window's close hands to the recording: the residuals in the context. -/
def State.withResiduals (s : State) (w : Window) (x : Correction) : State :=
  (s.setMeasuring .noWindow).modContext fun c => { c with residual := some (residuals w.settled x.targets) }

@[simp] theorem State.withResiduals_keeps (w : Window) (x : Correction) :
    (s.withResiduals w x).results = s.results ∧ (s.withResiduals w x).heads = s.heads
      ∧ (s.withResiduals w x).computer = s.computer ∧ (s.withResiduals w x).measuring = .noWindow := by
  simp [State.withResiduals, State.modContext]

theorem closeFinal_eq (w : Window) (hx : c.correction = some x) : closeFinal w c s
    = afterRecording (recordSleeper (tampOutcome c s.heads) (s.withResiduals w x)) := by
  simp [closeFinal, State.withResiduals, hx]

/-- What the close of a FINAL window has done at the end of its event, before the reports. -/
theorem settle_closeFinal (w : Window) (hc : s.seq.context = some c) (hx : c.correction = some x)
    (hrel : s.lining.releaseAfterHeads = false) :
    (settle (closeFinal w c s)).results
        = s.results ++ [formResult { c with residual := some (residuals w.settled x.targets) } s.heads
            (tampOutcome c s.heads)]
      ∧ (settle (closeFinal w c s)).computer = s.computer.commit (tampOutcome c s.heads) (some x)
      ∧ (settle (closeFinal w c s)).seq.context = none ∧ (settle (closeFinal w c s)).seq.reservation = 0
      ∧ (settle (closeFinal w c s)).seq.retained = some c.record ∧ (settle (closeFinal w c s)).seq.wentOn
      ∧ (settle (closeFinal w c s)).measuring = .noWindow ∧ (settle (closeFinal w c s)).heads = s.heads := by
  have hctx : (s.withResiduals w x).seq.context
      = some { c with residual := some (residuals w.settled x.targets) } := by
    simp [State.withResiduals, State.modContext, hc]
  obtain ⟨hseq, hres, hcomp⟩ := recordSleeper_of_context hctx (tampOutcome c s.heads)
  have hmeas : (closeFinal w c s).measuring = .noWindow := by
    simp [closeFinal_eq w hx]
  have hwent : (closeFinal w c s).seq.wentOn := continueRun_wentOn _
  obtain ⟨hq, hm, hh⟩ := settle_wentOn hwent hmeas (by simpa using hrel)
  obtain ⟨hfc, hfr, hft⟩ := continueRun_flight
    ((recordSleeper (tampOutcome c s.heads) (s.withResiduals w x)).modSeq fun q => { q with advanceOwed := true })
  rw [hq]
  refine ⟨?_, ?_, ?_, ?_, ?_, hwent, hm, hh.trans (by simp)⟩
  · simp [closeFinal_eq w hx, hres]
  · simp [closeFinal_eq w hx, hcomp, hx]
  · rw [closeFinal_eq w hx]; exact hfc.trans (by simp [State.modSeq, hseq, Sequencer.recorded])
  · rw [closeFinal_eq w hx]; exact hfr.trans (by simp [State.modSeq, hseq, Sequencer.recorded])
  · rw [closeFinal_eq w hx]; exact hft.trans (by simp [State.modSeq, hseq, Sequencer.recorded])

end Recorded

/-- Settles O43: a frame that fills the window, then the two events that close it. -/
theorem finalWindowRecordsSleeper : Obligations.FinalWindowRecordsSleeper := by
  intro s bytes intact w c x hlow hw hk hq hc hx hrel filled closed
  have hclosed : ∀ (v : Window) (f : State → State), f s = settle (closeFinal v c s) → closed v (event f s) :=
    fun v f hf => by
      obtain ⟨hres, hcomp, hctx, hresv, hret, hwent, hmeas, hheads⟩ := settle_closeFinal v hc hx hrel
      obtain ⟨eseq, emeas, ecomp, eheads, estop, emask, eres, estores⟩ := event_shares f hlow
      rw [hf] at eseq emeas ecomp eheads estop emask eres estores
      dsimp only [closed]
      rw [eseq, emeas, ecomp, eheads, estop, emask, eres]
      refine ⟨⟨_, residuals_at v.settled x.targets, hres⟩, hctx, hresv, hret, hmeas, hcomp, hwent, hheads, ?_⟩
      simpa [State.keepsStores] using estores
  refine ⟨validSamples_samplesTaken bytes intact, w.take_windowFrame _,
    fun hlen => ⟨Window.settled_windowSettled hlen, Window.settled_windowSettled (w := filled) hlen⟩,
    exec_measuringFrame_fills hlow hw (.inr hq) hrel, fun hcl => ⟨_, rfl, hclosed filled _ ?_⟩,
    _, rfl, hclosed w _ ?_⟩
  · exact congrArg settle ((takeMeasuringFrame_closes hw hcl).trans (closeWindow_final hc hk))
  · exact congrArg settle ((expireSilence_window hw).trans (closeWindow_final hc hk))

end Sys2Proof.Machine
end

section
/-! PROOFS. The approach (04 R66, R73, R74, 08 R143 to R148): what a measuring frame does to each axis, and the entry to
HOLDING. -/

namespace Sys2Proof.Machine

/-! ## The axes of the unit -/

section Axes

variable {α β γ : Type} {u : LiningUnit} {a : TrackAxis}

@[simp] theorem trackGet_map (f : α → β) (t : Track α) (a : TrackAxis) : trackGet (t.map f) a = f (trackGet t a) := by
  cases a <;> rfl

@[simp] theorem trackGet_zip (f : α → β → γ) (t : Track α) (v : Track β) (a : TrackAxis) :
    trackGet (t.zip f v) a = f (trackGet t a) (trackGet v a) := by
  cases a <;> rfl

@[simp] theorem trackGet_axisChannel (c : Channels α) (a : TrackAxis) :
    trackGet (axisChannel c) a = channelAt c (channelOf a) := by
  cases a <;> rfl

theorem Track.ext_get {t v : Track α} (h : ∀ a, trackGet t a = trackGet v a) : t = v := by
  cases t; cases v
  have h1 := h .liftL; have h2 := h .liftR; have h3 := h .liftB; have h4 := h .line
  simp_all [trackGet]

theorem Track.any_iff (t : Track Bool) : t.toList.any id = true ↔ ∃ a, trackGet t a = true := by
  simp only [Track.toList, List.any_cons, List.any_nil, id, Bool.or_false, Bool.or_eq_true]
  constructor
  · rintro (h | h | h | h)
    exacts [⟨.liftL, h⟩, ⟨.liftR, h⟩, ⟨.liftB, h⟩, ⟨.line, h⟩]
  · rintro ⟨a, ha⟩
    cases a
    exacts [.inl ha, .inr (.inl ha), .inr (.inr (.inl ha)), .inr (.inr (.inr ha))]

theorem AxisStatus.underWay_iff (a : AxisStatus) : a.underWay = true ↔ a = .waiting ∨ a = .moving := by
  cases a <;> decide

theorem LiningUnit.anyUnderWay_iff (u : LiningUnit) :
    u.anyUnderWay = true ↔ ∃ a, trackGet u.axis a = .waiting ∨ trackGet u.axis a = .moving := by
  rw [LiningUnit.anyUnderWay, Track.any_iff]
  simp [AxisStatus.underWay_iff]

/-! ## Channels lost (04 R74) -/

/-- An axis under way on a channel that is lost. -/
def LiningUnit.gone (u : LiningUnit) (lost : Channels Bool) (a : TrackAxis) : Bool :=
  channelAt lost (channelOf a) && (trackGet u.axis a).underWay

theorem loseChannels_get (lost : Channels Bool) (sensed : Track Int) (a : TrackAxis) :
    trackGet (u.loseChannels lost sensed).axis a = (if u.gone lost a then .halted else trackGet u.axis a)
      ∧ trackGet (u.loseChannels lost sensed).setpoint a
        = if u.gone lost a then trackGet sensed a else trackGet u.setpoint a := by
  simp [LiningUnit.loseChannels, LiningUnit.gone]

theorem loseChannels_targetNotReached (lost : Channels Bool) (sensed : Track Int) :
    (u.loseChannels lost sensed).approach.targetNotReached = true
      ↔ u.approach.targetNotReached = true ∨ ∃ a, u.gone lost a = true := by
  simp only [LiningUnit.loseChannels, LiningUnit.gone, Bool.or_eq_true, Track.any_iff, trackGet_zip,
    trackGet_axisChannel]

/-! ## One axis at a frame (08 R143, R144) -/

/-- A live value `v` is at the target `x` of an axis, within the deadband (08 R143, R144). -/
def LiningUnit.reaches (u : LiningUnit) (a : TrackAxis) (v x : Int) : Prop :=
  if a = .line then |v - x| ≤ u.settings.deadband ∨ (u.lineRight = true ∧ x ≤ v) ∨ (u.lineRight = false ∧ v ≤ x)
  else x - u.settings.deadband ≤ v

/-- The status and setpoint of an axis. -/
def LiningUnit.atAxis (u : LiningUnit) (a : TrackAxis) : AxisStep := ⟨trackGet u.axis a, trackGet u.setpoint a⟩

/-- The status and setpoint of an axis once the axes have stepped. -/
def LiningUnit.stepped (u : LiningUnit) (live : Channels (Option Int)) (sensed : Track Int) (a : TrackAxis) :
    AxisStep :=
  (u.stepAxes live sensed).atAxis a

variable {live : Channels (Option Int)} {sensed : Track Int} {v x : Int}

theorem absInt_eq_abs (v : Int) : absInt v = |v| := by
  unfold absInt
  split
  · exact (abs_of_neg ‹v < 0›).symm
  · exact (abs_of_nonneg (not_lt.mp ‹¬v < 0›)).symm

theorem stepped_eq (live : Channels (Option Int)) (sensed : Track Int) (a : TrackAxis) : u.stepped live sensed a
    = if a = .line then
        lineStep u.settings.deadband u.lineRight (channelAt u.targets (channelOf a)) (channelAt live (channelOf a))
          (trackGet sensed a) (u.atAxis a)
      else
        liftStep u.settings.deadband (channelAt u.targets (channelOf a)) (channelAt live (channelOf a))
          (trackGet sensed a) (u.atAxis a) := by
  cases a <;> rfl

theorem stepped_idle (h : (trackGet u.axis a).underWay = false) : u.stepped live sensed a = u.atAxis a := by
  rw [stepped_eq]
  split <;> simp [lineStep, liftStep, LiningUnit.atAxis, h]

theorem stepped_blind (h : channelAt live (channelOf a) = none ∨ channelAt u.targets (channelOf a) = none) :
    u.stepped live sensed a = u.atAxis a := by
  rw [stepped_eq]
  rcases h with h | h <;> split <;> simp [lineStep, liftStep, h]

section UnderWay

variable (h : (trackGet u.axis a).underWay = true) (hv : channelAt live (channelOf a) = some v)
  (hx : channelAt u.targets (channelOf a) = some x)

include h hv hx

theorem stepped_reached (hr : u.reaches a v x) : u.stepped live sensed a = ⟨.stopped, trackGet sensed a⟩ := by
  rw [stepped_eq, hv, hx]
  unfold LiningUnit.reaches at hr
  by_cases ha : a = .line
  · rw [if_pos ha] at hr ⊢
    simp only [lineStep, LiningUnit.atAxis, h, absInt_eq_abs]
    exact if_pos hr
  · rw [if_neg ha] at hr ⊢
    simp only [liftStep, LiningUnit.atAxis, h]
    exact if_pos hr

theorem stepped_short (hr : ¬u.reaches a v x) : u.stepped live sensed a
    = ⟨.moving, if a = .line ∧ u.lineRight = false then trackGet sensed a - 1 else trackGet sensed a + 1⟩ := by
  rw [stepped_eq, hv, hx]
  unfold LiningUnit.reaches at hr
  by_cases ha : a = .line
  · rw [if_pos ha] at hr ⊢
    simp only [lineStep, LiningUnit.atAxis, h, absInt_eq_abs]
    rw [if_neg hr]
    cases hdir : u.lineRight <;> simp [ha]
  · rw [if_neg ha] at hr ⊢
    simp only [liftStep, LiningUnit.atAxis, h, ha]
    rw [if_neg hr]
    simp

end UnderWay

end Axes

/-! ## The unit at a frame of APPROACHING -/

section Frame

variable {s : State} {a : TrackAxis}

/-- The unit after a frame of APPROACHING, with the live record already taken (04 R74, 08 R139, R143, R144). -/
def State.approached (s : State) (lost : Channels Bool) (samples : Channels (Option Int)) : LiningUnit :=
  s.lining.sentFrom s.awaitFrame ((s.lining.loseChannels lost s.trackSensed).stepAxes samples s.trackSensed)

theorem approached_fields (lost : Channels Bool) (samples : Channels (Option Int)) :
    s.approached lost samples
        = { s.lining with
            axis := (s.approached lost samples).axis, setpoint := (s.approached lost samples).setpoint
            approach := (s.approached lost samples).approach }
      ∧ (s.approached lost samples).approach = (s.lining.loseChannels lost s.trackSensed).approach := by
  unfold State.approached LiningUnit.sentFrom
  split <;> exact ⟨rfl, rfl⟩

/-- One axis of the unit after the frame: stepped, its setpoint as it was while the first axis frame is awaited. -/
theorem approached_get (lost : Channels Bool) (samples : Channels (Option Int)) (a : TrackAxis) {status : AxisStatus}
    {sp : Int} (h : (s.lining.loseChannels lost s.trackSensed).stepped samples s.trackSensed a = ⟨status, sp⟩) :
    trackGet (s.approached lost samples).axis a = status
      ∧ trackGet (s.approached lost samples).setpoint a
        = if s.awaitFrame then trackGet s.lining.setpoint a else sp := by
  obtain ⟨haxis, hset⟩ := AxisStep.mk.inj h
  unfold State.approached LiningUnit.sentFrom
  split
  · exact ⟨haxis, rfl⟩
  · exact ⟨haxis, hset⟩

theorem approached_stays {lost : Channels Bool} {samples : Channels (Option Int)}
    (h : (s.lining.loseChannels lost s.trackSensed).stepped samples s.trackSensed a = s.lining.atAxis a) :
    trackGet (s.approached lost samples).axis a = trackGet s.lining.axis a
      ∧ trackGet (s.approached lost samples).setpoint a = trackGet s.lining.setpoint a := by
  obtain ⟨haxis, hset⟩ := approached_get lost samples a h
  exact ⟨haxis, hset.trans (ite_self _)⟩

/-- A setpoint given from the sensed position goes out once the first axis frame is there (08 R139). -/
theorem approached_goes {lost : Channels Bool} {samples : Channels (Option Int)} {status : AxisStatus} (f : Int → Int)
    (h : (s.lining.loseChannels lost s.trackSensed).stepped samples s.trackSensed a
      = ⟨status, f (trackGet s.trackSensed a)⟩) :
    trackGet (s.approached lost samples).axis a = status
      ∧ trackGet (s.approached lost samples).setpoint a
        = if s.awaitFrame then trackGet s.lining.setpoint a
          else f (trackGet s.inputs.axisFrame.sensed.track a) := by
  obtain ⟨haxis, hset⟩ := approached_get lost samples a h
  refine ⟨haxis, hset.trans ?_⟩
  cases ha : s.awaitFrame <;> simp [State.trackSensed, ha]

/-- An axis on a channel that is not lost, or not under way, is as it was when the axes step. -/
theorem loseChannels_of_kept {u : LiningUnit} {lost : Channels Bool} (sensed : Track Int) (h : u.gone lost a = false) :
    (u.loseChannels lost sensed).atAxis a = u.atAxis a := by
  obtain ⟨haxis, hset⟩ := loseChannels_get (u := u) lost sensed a
  simp [LiningUnit.atAxis, haxis, hset, h]

theorem loseChannels_of_gone {u : LiningUnit} {lost : Channels Bool} (sensed : Track Int) (h : u.gone lost a = true) :
    (u.loseChannels lost sensed).atAxis a = ⟨.halted, trackGet sensed a⟩ := by
  obtain ⟨haxis, hset⟩ := loseChannels_get (u := u) lost sensed a
  simp [LiningUnit.atAxis, haxis, hset, h]

/-! ### The cases of one axis -/

variable {lost : Channels Bool} {samples : Channels (Option Int)} {v x : Int}

theorem approached_idle (h : (trackGet s.lining.axis a).underWay = false) :
    trackGet (s.approached lost samples).axis a = trackGet s.lining.axis a
      ∧ trackGet (s.approached lost samples).setpoint a = trackGet s.lining.setpoint a := by
  have hkept := loseChannels_of_kept s.trackSensed (by simp [LiningUnit.gone, h] : s.lining.gone lost a = false)
  exact approached_stays ((stepped_idle (by rwa [(AxisStep.mk.inj hkept).1])).trans hkept)

theorem approached_gone (h : s.lining.gone lost a = true) :
    trackGet (s.approached lost samples).axis a = .halted
      ∧ trackGet (s.approached lost samples).setpoint a
        = if s.awaitFrame then trackGet s.lining.setpoint a else trackGet s.inputs.axisFrame.sensed.track a := by
  have hgone := loseChannels_of_gone s.trackSensed h
  exact approached_goes id ((stepped_idle (by rw [(AxisStep.mk.inj hgone).1]; rfl)).trans hgone)

theorem approached_blind (h : s.lining.gone lost a = false)
    (hblind : channelAt samples (channelOf a) = none ∨ channelAt s.lining.targets (channelOf a) = none) :
    trackGet (s.approached lost samples).axis a = trackGet s.lining.axis a
      ∧ trackGet (s.approached lost samples).setpoint a = trackGet s.lining.setpoint a :=
  approached_stays ((stepped_blind (u := s.lining.loseChannels lost s.trackSensed) hblind).trans
    (loseChannels_of_kept s.trackSensed h))

section UnderWay

variable (hgone : s.lining.gone lost a = false) (hway : (trackGet s.lining.axis a).underWay = true)
  (hv : channelAt samples (channelOf a) = some v) (hx : channelAt s.lining.targets (channelOf a) = some x)

include hgone hway hv hx

theorem approached_reached (hr : s.lining.reaches a v x) :
    trackGet (s.approached lost samples).axis a = .stopped
      ∧ trackGet (s.approached lost samples).setpoint a
        = if s.awaitFrame then trackGet s.lining.setpoint a else trackGet s.inputs.axisFrame.sensed.track a := by
  have hkept := loseChannels_of_kept s.trackSensed hgone
  exact approached_goes id (stepped_reached (by rwa [(AxisStep.mk.inj hkept).1]) hv hx hr)

theorem approached_short (hr : ¬s.lining.reaches a v x) :
    trackGet (s.approached lost samples).axis a = .moving
      ∧ trackGet (s.approached lost samples).setpoint a
        = if s.awaitFrame then trackGet s.lining.setpoint a
          else if a = .line ∧ s.lining.lineRight = false then trackGet s.inputs.axisFrame.sensed.track a - 1
          else trackGet s.inputs.axisFrame.sensed.track a + 1 := by
  have hkept := loseChannels_of_kept s.trackSensed hgone
  exact approached_goes (fun z => if a = .line ∧ s.lining.lineRight = false then z - 1 else z + 1)
    (stepped_short (by rwa [(AxisStep.mk.inj hkept).1]) hv hx hr)

end UnderWay

theorem approachFrame_approached (s : State) (channels : Channels LiveChannel) (samples : Channels (Option Int)) :
    ApproachFrame s (s.approached (channels.map LiveChannel.lost) samples) channels samples := by
  obtain ⟨hfields, happroach⟩ := approached_fields (s := s) (channels.map LiveChannel.lost) samples
  have hgone : ∀ a, s.lining.gone (channels.map LiveChannel.lost) a
      = ((channelAt channels (channelOf a)).lost && (trackGet s.lining.axis a).underWay) := fun a => by
    simp [LiningUnit.gone]
  refine ⟨hfields, by rw [happroach]; rfl, by rw [happroach]; rfl, ?_, fun a => ⟨fun hidle => ?_, fun hway hlost => ?_,
    fun hway hlive => ⟨fun hblind => ?_, fun v x hv hx => ⟨fun hr => ?_, fun hr => ?_⟩⟩⟩⟩
  · rw [happroach, loseChannels_targetNotReached]
    simp [hgone, AxisStatus.underWay_iff, and_comm]
  · exact approached_idle (Bool.eq_false_iff.mpr (mt (AxisStatus.underWay_iff _).mp hidle))
  · exact approached_gone (by rw [hgone, hlost, (AxisStatus.underWay_iff _).mpr hway]; rfl)
  · exact approached_blind (by rw [hgone, hlive]; rfl) hblind
  · exact approached_reached (by rw [hgone, hlive]; rfl) ((AxisStatus.underWay_iff _).mpr hway) hv hx hr
  · exact approached_short (by rw [hgone, hlive]; rfl) ((AxisStatus.underWay_iff _).mpr hway) hv hx hr

end Frame

/-! ## The entry to HOLDING (08 R145 to R147) -/

section Holding

variable {s : State} {c : Context} {i : Fin 4}

theorem Context.engagedAll_false {heads : Quad HeadRecord} {test : HeadRecord → Bool} (hi : c.engaged i = true)
    (ht : test (heads.get i) = false) : c.engagedAll heads test = false := by
  rw [Context.engagedAll, List.all_eq_false]
  exact ⟨i, by fin_cases i <;> decide, by simp [hi, ht]⟩

theorem beginTamping_of_preparing (hc : s.seq.context = some c) (hi : c.engaged i = true)
    (hp : (s.heads.get i).state = .preparing) : beginTamping s = s := by
  have hall : c.engagedAll s.heads HeadRecord.doneWithPreparing = false :=
    Context.engagedAll_false hi (by simp [HeadRecord.doneWithPreparing, hp])
  simp [beginTamping, hc, hall]

theorem endTamping_of_unparked (hc : s.seq.context = some c) (hi : c.engaged i = true)
    (hp : (s.heads.get i).state ≠ .parked) : endTamping s = s := by
  have hall : c.engagedAll s.heads HeadRecord.finishedParked = false :=
    Context.engagedAll_false hi (by simp [HeadRecord.finishedParked, hp])
  simp [endTamping, hc, hall]

/-- In CORRECTING with an engaged head still preparing nothing of the cycle comes about. -/
theorem settle_of_preparing (hq : s.seq.state = .correcting) (hc : s.seq.context = some c) (hi : c.engaged i = true)
    (hp : (s.heads.get i).state = .preparing) (hrel : s.lining.releaseAfterHeads = false) : settle s = s :=
  settle_of_waiting (beginTamping_of_preparing hc hi hp) (endTamping_same (by simp [hq])) (releaseAfterHeads_same hrel)
    (by simp [hq])

/-- In TAMPING with an engaged head not PARKED nothing of the cycle comes about. -/
theorem settle_of_unparked (hq : s.seq.state = .tamping) (hc : s.seq.context = some c) (hi : c.engaged i = true)
    (hp : (s.heads.get i).state ≠ .parked) (hrel : s.lining.releaseAfterHeads = false) : settle s = s :=
  settle_of_waiting (beginTamping_same (by simp [hq])) (endTamping_of_unparked hc hi hp) (releaseAfterHeads_same hrel)
    (by simp [hq])

theorem overlifted_iff (d : Int) (last target : Option Int) : overlifted d last target = true
    ↔ ∃ h x : Int, last = some h ∧ target = some x ∧ x + 2 * d < h := by
  cases last <;> cases target <;> simp [overlifted]

theorem anyOverlift_iff (u : LiningUnit) (last : Channels (Option Int)) : u.anyOverlift last = true
    ↔ ∃ (a : TrackAxis) (h x : Int), a ≠ .line ∧ channelAt last (channelOf a) = some h
        ∧ channelAt u.targets (channelOf a) = some x ∧ x + 2 * u.settings.deadband < h := by
  simp only [LiningUnit.anyOverlift, Bool.or_eq_true, overlifted_iff]
  constructor
  · rintro ((⟨h, x, hover⟩ | ⟨h, x, hover⟩) | ⟨h, x, hover⟩)
    exacts [⟨.liftL, h, x, by decide, hover⟩, ⟨.liftR, h, x, by decide, hover⟩, ⟨.liftB, h, x, by decide, hover⟩]
  · rintro ⟨a, h, x, hne, hover⟩
    cases a
    exacts [.inl (.inl ⟨h, x, hover⟩), .inl (.inr ⟨h, x, hover⟩), .inr ⟨h, x, hover⟩, absurd rfl hne]

/-- The part once the unit is HOLDING and has handed its result over to the context (08 R145). -/
def State.held (s : State) (c : Context) (last : Channels (Option Int)) : State :=
  { s with
    lining := s.lining.hold last (c.settled.getD (.all5 none))
    seq := { s.seq with context := some { c with
      achieved := some (achievedValues last (c.settled.getD (.all5 none)))
      flags := c.flags ||| (s.lining.hold last (c.settled.getD (.all5 none))).approach.flags } } }

theorem enterHolding_eq (hc : s.seq.context = some c) (last : Channels (Option Int)) :
    enterHolding last s = s.held c last := by
  simp only [enterHolding, State.modContext, State.modLining, State.setLining_seq, hc]
  rfl

theorem settle_held (hq : s.seq.state = .correcting) (hi : c.engaged i = true)
    (hp : (s.heads.get i).state = .preparing) (hrel : s.lining.releaseAfterHeads = false)
    (last : Channels (Option Int)) : settle (s.held c last) = s.held c last :=
  settle_of_preparing (s := s.held c last) hq rfl hi hp hrel

/-! ## Frames in LIVE and the correction timer -/

variable {l : Live}

theorem takeLive_resting (h : s.lining.state ≠ .approaching) (samples : Channels (Option Int)) :
    takeLive l samples s = s.setMeasuring (.live (l.take false samples)) := by
  simp [takeLive, h]

/-- The part after a frame of APPROACHING that leaves an axis under way. -/
def State.approachedAt (s : State) (l : Live) (samples : Channels (Option Int)) : State :=
  { s with
    measuring := .live (l.take true samples)
    lining := s.approached ((l.take true samples).channel.map LiveChannel.lost) samples }

theorem takeLive_approaching (h : s.lining.state = .approaching) (samples : Channels (Option Int)) :
    takeLive l samples s
      = if (s.approachedAt l samples).lining.anyUnderWay then s.approachedAt l samples
        else enterHolding (l.take true samples).lastValues (s.approachedAt l samples) := by
  simp only [takeLive, h]
  rfl

theorem approachedAt_lining (s : State) (l : Live) (samples : Channels (Option Int)) :
    (s.approachedAt l samples).lining.releaseAfterHeads = s.lining.releaseAfterHeads := by
  unfold State.approachedAt State.approached LiningUnit.sentFrom
  dsimp only
  split <;> rfl

/-- The expiry of the correction timer at the unit, written by axis (08 R145). -/
theorem expireApproach_eq (u : LiningUnit) (sensed : Track Int) : u.expireApproach sensed
    = { u with
        axis := u.axis.map fun a => if a = .waiting ∨ a = .moving then .halted else a
        setpoint := ((u.axis.map fun a => decide (a = .waiting ∨ a = .moving)).zip
          (fun g x => (g, x)) u.setpoint).zip (fun g x => if g.1 then x else g.2) sensed
        approach := { u.approach with targetNotReached := true } } := by
  have haxis : (u.loseChannels (.all5 true) sensed).axis
      = u.axis.map fun a => if a = .waiting ∨ a = .moving then .halted else a :=
    Track.ext_get fun a => by simp [loseChannels_get, LiningUnit.gone, AxisStatus.underWay_iff]
  have hset : (u.loseChannels (.all5 true) sensed).setpoint
      = ((u.axis.map fun a => decide (a = .waiting ∨ a = .moving)).zip
          (fun g x => (g, x)) u.setpoint).zip (fun g x => if g.1 then x else g.2) sensed :=
    Track.ext_get fun a => by simp [loseChannels_get, LiningUnit.gone, AxisStatus.underWay_iff]
  rw [← haxis, ← hset]
  rfl

/-- The part after the expiry of the correction timer, before the entry to HOLDING. -/
def State.expiredAt (s : State) (l : Live) : State :=
  { s with measuring := .live l, lining := s.lining.expireApproach s.trackSensed }

theorem expireCorrection_eq (h : s.lining.state = .approaching) (ht : s.lining.correctionTimer.isSome = true)
    (hm : s.measuring = .live l) : expireCorrection s = enterHolding l.lastValues (s.expiredAt l) := by
  have hself : s.expiredAt l = s.modLining fun u => u.expireApproach s.trackSensed := by
    rw [State.expiredAt, ← hm]; rfl
  simp [expireCorrection, State.lastLive, hself, h, ht, hm]

end Holding

/-- Settles O44: NO_WINDOW, HOLDING, then APPROACHING by whether an axis is still under way. -/
theorem approachStepsAndHolds : Obligations.ApproachStepsAndHolds := by
  refine ⟨fun s bytes intact hlow hm hset => ?_, fun s bytes intact l c i hlow hm hu hrel hc hi hwait => ?_,
    fun s bytes intact l c i hlow hm hu hq hc hrel hi hp => ?_⟩
  · have htake : takeMeasuringFrame (validSamples bytes intact) s = s := by simp [takeMeasuringFrame, hm]
    exact exec_measuringFrame_of_quiet bytes intact hlow (by rw [htake, hset]) rfl rfl rfl
  · refine ⟨_, validSamples_samplesTaken bytes intact, Live.take_liveFrame false l _,
      exec_measuringFrame_of_quiet bytes intact hlow ?_ rfl rfl rfl⟩
    have htake : takeMeasuringFrame (validSamples bytes intact) s
        = s.setMeasuring (.live (l.take false (validSamples bytes intact))) := by
      simp only [takeMeasuringFrame, hm]
      exact takeLive_resting (by simp [hu]) _
    rw [htake]
    rcases hwait with ⟨hq, hp⟩ | ⟨hq, hp⟩
    · exact settle_of_preparing hq hc hi hp hrel
    · exact settle_of_unparked hq hc hi hp hrel
  · intro samples
    have htake : takeMeasuringFrame samples s = takeLive l samples s := by simp only [takeMeasuringFrame, hm]
    have hrel' := (approachedAt_lining s l samples).trans hrel
    refine ⟨l.take true samples, (s.approachedAt l samples).lining, Live.take_liveFrame true l samples,
      approachFrame_approached s _ samples, achievedValues_at, anyOverlift_iff, ?_⟩
    intro underWay holds
    have hway : (s.approachedAt l samples).lining.anyUnderWay = true ↔ underWay := LiningUnit.anyUnderWay_iff _
    rw [takeLive_approaching hu] at htake
    refine ⟨fun hw => ?_, fun hw => ?_, fun ht => ?_⟩
    · rw [if_pos (hway.mpr hw)] at htake
      refine exec_measuringFrame_of_quiet bytes intact hlow ?_ rfl rfl rfl
      rw [htake]
      exact settle_of_preparing (s := s.approachedAt l samples) hq hc hi hp hrel'
    · rw [if_neg (mt hway.mp hw), enterHolding_eq (s := s.approachedAt l samples) hc] at htake
      refine exec_measuringFrame_of_quiet bytes intact hlow ?_ rfl rfl rfl
      rw [htake]
      exact settle_held (s := s.approachedAt l samples) hq hi hp hrel' _
    · have hend : settle (expireCorrection s) = (s.expiredAt l).held c l.lastValues := by
        rw [expireCorrection_eq hu ht hm, enterHolding_eq (s := s.expiredAt l) hc]
        exact settle_held (s := s.expiredAt l) hq hi hp hrel _
      rw [State.expiredAt, expireApproach_eq] at hend
      exact congrArg Host.Outcome.next
        (event_eq_of_quiet (f := fun x => settle (expireCorrection x)) hlow hend rfl rfl rfl)

end Sys2Proof.Machine
end

section
/-! PROOFS. The correction computer (05): the flags its stages raise, the lifts and the shift before the limits
(stages 1 to 7), and the limits themselves (stages 8 to 10). -/

namespace Sys2Proof.Machine

/-! ## Flag sets (05 R93) -/

section Flags

variable (g f : CorrectionFlag)

theorem hasFlag_or (m n : BitVec 16) : hasFlag (m ||| n) f = true ↔ hasFlag m f = true ∨ hasFlag n f = true := by
  have hdistrib : (m ||| n) &&& f.mask = (m &&& f.mask) ||| (n &&& f.mask) := by
    ext i; simp [Bool.and_or_distrib_right]
  simp only [hasFlag, hdistrib, decide_eq_true_eq, ne_eq, BitVec.ofNat_eq_ofNat, BitVec.or_eq_zero_iff, not_and_or]

@[simp] theorem hasFlag_zero : hasFlag 0#16 f = false := by simp [hasFlag]

/-- Every flag has a bit of its own. -/
theorem hasFlag_mask : hasFlag g.mask f = true ↔ g = f := by
  cases g <;> cases f <;> decide

theorem hasFlag_when (b : Bool) : hasFlag (g.when b) f = true ↔ g = f ∧ b = true := by
  cases b <;> simp [CorrectionFlag.when, hasFlag_mask]

end Flags

/-! ## The front term (05 R81) -/

theorem nearestAway_not_lt {a f g : Int} {n : Nat} (hn : 0 < n) (hf : NearestAway a n f) (hg : NearestAway a n g) :
    ¬f < g := by
  intro hlt
  obtain ⟨hfnear, hftie⟩ := hf
  obtain ⟨hgnear, hgtie⟩ := hg
  have hscale (k : Int) : n * |k| = |n * k| := by rw [abs_mul, Nat.abs_cast]
  have hgap : n * f + n ≤ n * g := by nlinarith
  have hside : n * f + n ≤ 0 ∨ 0 ≤ n * f := by
    rcases Int.lt_or_le f 0 with hneg | hpos
    · left; nlinarith
    · right; positivity
  rw [hscale] at hftie hgtie
  simp only [abs_eq_max_neg] at hfnear hftie hgnear hgtie
  omega

/-- At most one whole number is nearest when ties go away from zero (00 "Arithmetic"). -/
theorem nearestAway_unique {a f g : Int} {n : Nat} (hn : 0 < n) (hf : NearestAway a n f) (hg : NearestAway a n g) :
    f = g :=
  le_antisymm (not_lt.mp (nearestAway_not_lt hn hg hf)) (not_lt.mp (nearestAway_not_lt hn hf hg))

theorem frontTerm_of_nearestAway {e fL : Int} {rear front : Nat} (hpos : 0 < front)
    (h : NearestAway (e * rear) (rear + front) fL) : frontTerm e rear front = fL :=
  have hn := Nat.add_pos_right rear hpos
  nearestAway_unique hn (roundDiv_nearestAway _ hn) h

/-! ## Clamp and slope limit (05 R88 to R90) -/

section Limits

variable {flag f : CorrectionFlag} {lo hi d carry x : Int}

theorem clampTo_eq_max_min (h : lo ≤ hi) : clampTo lo hi x = max lo (min hi x) := by
  unfold clampTo; split_ifs <;> omega

theorem slopeLimited_value (h : 0 ≤ d) : (slopeLimited d carry x).value = max (carry - d) (min (carry + d) x) := by
  unfold slopeLimited; split_ifs <;> simp only <;> omega

theorem hasFlag_slopeLimited :
    hasFlag (slopeLimited d carry x).flags f = true ↔ .slopeLimited = f ∧ (slopeLimited d carry x).value ≠ x := by
  unfold slopeLimited
  split_ifs
  · simp only [hasFlag_mask, iff_self_and]; omega
  · simp only [hasFlag_mask, iff_self_and]; omega
  · simp

/-- A clamp with the flag it raises: the common shape of `clampLift` and `clampShift`. -/
def clampFlagged (flag : CorrectionFlag) (lo hi x : Int) : Flagged :=
  ⟨clampTo lo hi x, flag.when (decide (x < lo ∨ hi < x))⟩

theorem hasFlag_clampFlagged :
    hasFlag (clampFlagged flag lo hi x).flags f = true ↔ flag = f ∧ (clampFlagged flag lo hi x).value ≠ x := by
  have hmoved : clampTo lo hi x ≠ x ↔ x < lo ∨ hi < x := by unfold clampTo; split_ifs <;> omega
  rw [clampFlagged, hasFlag_when, decide_eq_true_eq, hmoved]

/-- Stages 8 to 10 of one quantity: the common shape of `limitLift` and `limitShift`. -/
def limitFlagged (flag : CorrectionFlag) (lo hi d carry x : Int) : Flagged :=
  let first := clampFlagged flag lo hi x
  let slope := slopeLimited d carry first.value
  let final := clampFlagged flag lo hi slope.value
  ⟨final.value, first.flags ||| slope.flags ||| final.flags⟩

theorem limitLift_eq_limitFlagged : limitLift hi d carry x = limitFlagged .liftClamped 0 hi d carry x := rfl

theorem limitShift_eq_limitFlagged : limitShift hi d carry x = limitFlagged .shiftClamped (-hi) hi d carry x := rfl

theorem limitFlagged_value (h : lo ≤ hi) (hd : 0 ≤ d) : (limitFlagged flag lo hi d carry x).value
    = max lo (min hi (max (carry - d) (min (carry + d) (max lo (min hi x))))) := by
  simp only [limitFlagged, clampFlagged, slopeLimited_value hd, clampTo_eq_max_min h]

/-- Where a clamp of stages 8 and 10 moves a value. -/
def clampMoves (lo hi d carry x : Int) : Prop :=
  let slope := (slopeLimited d carry (clampTo lo hi x)).value
  clampTo lo hi x ≠ x ∨ clampTo lo hi slope ≠ slope

/-- Where stage 9 moves a value. -/
def slopeMoves (lo hi d carry x : Int) : Prop := (slopeLimited d carry (clampTo lo hi x)).value ≠ clampTo lo hi x

theorem hasFlag_limitFlagged : hasFlag (limitFlagged flag lo hi d carry x).flags f = true ↔
    (flag = f ∧ clampMoves lo hi d carry x) ∨ (.slopeLimited = f ∧ slopeMoves lo hi d carry x) := by
  simp only [limitFlagged, hasFlag_or, hasFlag_clampFlagged, hasFlag_slopeLimited]
  simp only [clampFlagged, clampMoves, slopeMoves]
  tauto

theorem clampMoves_iff (h : lo ≤ hi) (hd : 0 ≤ d) :
    let first := max lo (min hi x)
    let slope := max (carry - d) (min (carry + d) first)
    clampMoves lo hi d carry x ↔ first ≠ x ∨ max lo (min hi slope) ≠ slope := by
  simp only [clampMoves, slopeLimited_value hd, clampTo_eq_max_min h]

theorem slopeMoves_iff (h : lo ≤ hi) (hd : 0 ≤ d) :
    let first := max lo (min hi x)
    slopeMoves lo hi d carry x ↔ max (carry - d) (min (carry + d) first) ≠ first := by
  simp only [slopeMoves, slopeLimited_value hd, clampTo_eq_max_min h]

/-- The first law of 05 R90: the commanded value lies within its clamp. -/
theorem limitFlagged_mem (h : lo ≤ hi) (hd : 0 ≤ d) :
    lo ≤ (limitFlagged flag lo hi d carry x).value ∧ (limitFlagged flag lo hi d carry x).value ≤ hi := by
  rw [limitFlagged_value h hd]; omega

/-- The second law of 05 R90: the commanded value lies within SLOPE_LIMIT of its carry, or at a limit that the carry
is further away from. -/
theorem limitFlagged_near (h : lo ≤ hi) (hd : 0 ≤ d) :
    let v := (limitFlagged flag lo hi d carry x).value
    ((carry - d ≤ v ∧ v ≤ carry + d) ∨ (v = hi ∧ hi < carry - d)) ∨ (v = lo ∧ carry + d < lo) := by
  simp only [limitFlagged_value h hd]; omega

end Limits

/-! ## Stages 2 to 7 (05 R82 to R87) -/

section Stages

variable {c : Context} {m : Channels (Option Int)} {l : MainLifts} {f : CorrectionFlag}

theorem rawShift_value (v : Option Int) (fL : Int) : (rawShift c v fL).value
    = if c.rule.shiftInhibit = true then 0
      else match c.record.shiftOverride, v with
        | some o, _ => o
        | none, some v => c.record.vd - v - fL
        | none, none => 0 := by
  unfold rawShift
  split_ifs
  · rfl
  · cases c.record.shiftOverride <;> cases v <;> rfl

theorem hasFlag_rawShift (v : Option Int) (fL : Int) : hasFlag (rawShift c v fL).flags f = true ↔
    (.overrideUsed = f ∧ c.record.shiftOverride ≠ none) ∨ (.shiftInhibited = f ∧ c.rule.shiftInhibit = true) := by
  unfold rawShift
  split_ifs with h
  · simp only [hasFlag_or, hasFlag_when, hasFlag_mask, Option.isSome_iff_ne_none, h, and_true]
  · simp only [hasFlag_when, Option.isSome_iff_ne_none, h, Bool.false_eq_true, and_false, or_false]

theorem referenceLift_value {h : Int} (href : referenceLevel c m = some h) (fV : Int) :
    (referenceLift c m fV).value = c.record.liftOverride.getD (c.cycle.baseLift + c.record.vvd - h - fV) := by
  simp only [referenceLift, href]

theorem hasFlag_referenceLift (fV : Int) : hasFlag (referenceLift c m fV).flags f = true ↔
    .overrideUsed = f ∧ c.record.liftOverride ≠ none := by
  simp only [referenceLift, hasFlag_when, Option.isSome_iff_ne_none]

theorem pairLifts_of_some {h : Int} (href : referenceLevel c m = some h) (lRef : Int) : pairLifts c m lRef
    = match c.record.refRail with
      | .left => ⟨lRef, lRef + (match m.cross with | some cm => c.record.cd - cm | none => 0)⟩
      | .right => ⟨lRef - (match m.cross with | some cm => c.record.cd - cm | none => 0), lRef⟩ := by
  unfold pairLifts
  cases m.cross <;> cases c.record.refRail <;> simp only [href]

theorem liftsBeforeFloor_of_some (chord : Chord) {h : Int} (hrun : c.record.runOut = false)
    (href : referenceLevel c m = some h) : liftsBeforeFloor chord c m
      = pairLifts c m (c.record.liftOverride.getD
          (c.cycle.baseLift + c.record.vvd - h - frontTerm c.eFv chord.aV chord.b)) := by
  simp only [liftsBeforeFloor, referenceLift_value href, runOutLifts, hrun, Bool.false_eq_true, if_false]

theorem liftsBeforeFloor_dropped (chord : Chord) (h : c.record.runOut = true ∨ referenceLevel c m = none) :
    liftsBeforeFloor chord c m = ⟨0, 0⟩ := by
  rcases h with hrun | href
  · simp [liftsBeforeFloor, runOutLifts, hrun]
  · simp [liftsBeforeFloor, runOutLifts, pairLifts, href]

theorem floorLifts_of_neg (h : l.left < 0 ∨ l.right < 0) :
    floorLifts l = ⟨l.left - min l.left l.right, l.right - min l.left l.right⟩ := if_pos (by omega)

theorem floorLifts_of_nonneg (hl : 0 ≤ l.left) (hr : 0 ≤ l.right) : floorLifts l = l := if_neg (by omega)

theorem floorLifts_nonneg (l : MainLifts) : 0 ≤ (floorLifts l).left ∧ 0 ≤ (floorLifts l).right := by
  by_cases h : l.left < 0 ∨ l.right < 0
  · rw [floorLifts_of_neg h]; simp only; omega
  · rw [floorLifts_of_nonneg (by omega) (by omega)]; omega

theorem hasFlag_floorFlag : hasFlag (floorFlag l) f = true ↔ .liftFloor = f ∧ (l.left < 0 ∨ l.right < 0) := by
  simp only [floorFlag, hasFlag_when, decide_eq_true_eq, min_lt_iff]

theorem branchLift_ne_none : branchLift c m l ≠ none ↔ c.record.branch = true ∧ m.levelB ≠ none := by
  rw [← Option.isSome_iff_ne_none (o := m.levelB)]
  unfold branchLift
  split_ifs <;> simp_all

theorem eq_of_branchLift {b : Int} (h : branchLift c m l = some b) :
    b = if c.record.runOut then 0 else c.record.branchLift.getD (max l.left l.right) := by
  unfold branchLift at h
  split_ifs at h ⊢ <;> simp_all

/-! ## Stage 11 (05 R91, R92) -/

theorem targetsOf_levelB_none (lL lR s : Int) : (targetsOf c m lL lR s none).levelB = none := rfl

theorem targetsOf_levelB_some {h : Int} (hm : m.levelB = some h) (lL lR s b : Int) :
    (targetsOf c m lL lR s (some b)).levelB = some (h + b) := by
  simp only [targetsOf, targetOf, Option.bind_some, hm, Option.map_some]

theorem drivenOf_line (lL lR s : Int) (lB : Option Int) :
    (drivenOf c m lL lR s lB).line = true ↔ m.line ≠ none ∧ s ≠ 0 := by
  simp only [drivenOf, Bool.and_eq_true, Option.isSome_iff_ne_none, decide_eq_true_eq]

theorem drivenOf_liftL (lL lR s : Int) (lB : Option Int) :
    (drivenOf c m lL lR s lB).liftL = true ↔ referenceLevel c m ≠ none ∧ m.levelL ≠ none ∧ lL ≠ 0 := by
  simp only [drivenOf, Bool.and_eq_true, Option.isSome_iff_ne_none, decide_eq_true_eq, and_assoc]

theorem drivenOf_liftR (lL lR s : Int) (lB : Option Int) :
    (drivenOf c m lL lR s lB).liftR = true ↔ referenceLevel c m ≠ none ∧ m.levelR ≠ none ∧ lR ≠ 0 := by
  simp only [drivenOf, Bool.and_eq_true, Option.isSome_iff_ne_none, decide_eq_true_eq, and_assoc]

theorem drivenOf_liftB (lL lR s : Int) (lB : Option Int) :
    (drivenOf c m lL lR s lB).liftB = true ↔ ∃ b, lB = some b ∧ b ≠ 0 := by
  cases lB <;> simp [drivenOf]

theorem hasFlag_undrivenFlag (lL lR s : Int) : hasFlag (undrivenFlag c m lL lR s) f = true ↔
    .targetNotReached = f ∧ ((otherLevel c m = none ∧ referenceLevel c m ≠ none)
      ∨ (referenceLevel c m = none ∧ (lL ≠ 0 ∨ lR ≠ 0)) ∨ (m.line = none ∧ s ≠ 0)) := by
  simp only [undrivenFlag, hasFlag_when, Bool.or_eq_true, Bool.and_eq_true, Option.isNone_iff_eq_none,
    Option.isSome_iff_ne_none, decide_eq_true_eq, or_assoc]

/-! ## The flags of a computation (05 R93) -/

theorem hasFlag_ofBranch (b : Option Flagged) :
    hasFlag ((b.map Flagged.flags).getD 0) f = true ↔ ∃ x, b = some x ∧ hasFlag x.flags f = true := by
  cases b <;> simp

variable (chord : Chord) (carry : CorrectionComputer)

/-- A flag is raised by a computation exactly where one of its stages raises it. -/
theorem hasFlag_computeCorrection :
    let k := (computeCorrection chord carry c m).correction
    let before := liftsBeforeFloor chord c m
    let lift := fun carried v => limitFlagged .liftClamped 0 c.maxLift c.cycle.slopeLimit carried v
    hasFlag (computeCorrection chord carry c m).flags f = true ↔
      (.overrideUsed = f ∧ c.record.shiftOverride ≠ none)
      ∨ (.shiftInhibited = f ∧ c.rule.shiftInhibit = true)
      ∨ (.overrideUsed = f ∧ c.record.liftOverride ≠ none)
      ∨ (.runOut = f ∧ c.record.runOut = true)
      ∨ (.liftFloor = f ∧ (before.left < 0 ∨ before.right < 0))
      ∨ hasFlag (lift carry.cL (floorLifts before).left).flags f = true
      ∨ hasFlag (lift carry.cR (floorLifts before).right).flags f = true
      ∨ (∃ b, branchLift c m (floorLifts before) = some b ∧ hasFlag (lift carry.cB b).flags f = true)
      ∨ hasFlag (limitFlagged .shiftClamped (-c.shiftLimit) c.shiftLimit c.cycle.slopeLimit carry.cS
          (shiftBeforeLimits chord c m)).flags f = true
      ∨ (.targetNotReached = f ∧ ((otherLevel c m = none ∧ referenceLevel c m ≠ none)
        ∨ (referenceLevel c m = none ∧ (k.lL ≠ 0 ∨ k.lR ≠ 0)) ∨ (m.line = none ∧ k.s ≠ 0))) := by
  simp only [computeCorrection, hasFlag_or, hasFlag_rawShift, hasFlag_referenceLift, hasFlag_when, hasFlag_floorFlag,
    hasFlag_ofBranch, hasFlag_undrivenFlag, limitLift_eq_limitFlagged, limitShift_eq_limitFlagged,
    Option.map_eq_some_iff, exists_exists_and_eq_and, or_assoc]

theorem computeCorrection_overrideUsed : hasFlag (computeCorrection chord carry c m).flags .overrideUsed = true ↔
    c.record.shiftOverride ≠ none ∨ c.record.liftOverride ≠ none := by
  simp [hasFlag_computeCorrection, hasFlag_limitFlagged]

theorem computeCorrection_shiftInhibited :
    hasFlag (computeCorrection chord carry c m).flags .shiftInhibited = true ↔ c.rule.shiftInhibit = true := by
  simp [hasFlag_computeCorrection, hasFlag_limitFlagged]

theorem computeCorrection_runOut :
    hasFlag (computeCorrection chord carry c m).flags .runOut = true ↔ c.record.runOut = true := by
  simp [hasFlag_computeCorrection, hasFlag_limitFlagged]

theorem computeCorrection_liftFloor :
    let before := liftsBeforeFloor chord c m
    hasFlag (computeCorrection chord carry c m).flags .liftFloor = true ↔ before.left < 0 ∨ before.right < 0 := by
  simp [hasFlag_computeCorrection, hasFlag_limitFlagged]

theorem computeCorrection_liftClamped :
    let lifts := floorLifts (liftsBeforeFloor chord c m)
    let moves := clampMoves 0 c.maxLift c.cycle.slopeLimit
    hasFlag (computeCorrection chord carry c m).flags .liftClamped = true ↔
      moves carry.cL lifts.left ∨ moves carry.cR lifts.right
      ∨ ∃ b, branchLift c m lifts = some b ∧ moves carry.cB b := by
  simp [hasFlag_computeCorrection, hasFlag_limitFlagged]

theorem computeCorrection_shiftClamped : hasFlag (computeCorrection chord carry c m).flags .shiftClamped = true ↔
    clampMoves (-c.shiftLimit) c.shiftLimit c.cycle.slopeLimit carry.cS (shiftBeforeLimits chord c m) := by
  simp [hasFlag_computeCorrection, hasFlag_limitFlagged]

theorem computeCorrection_slopeLimited :
    let lifts := floorLifts (liftsBeforeFloor chord c m)
    let moves := slopeMoves 0 c.maxLift c.cycle.slopeLimit
    hasFlag (computeCorrection chord carry c m).flags .slopeLimited = true ↔
      moves carry.cL lifts.left ∨ moves carry.cR lifts.right
      ∨ (∃ b, branchLift c m lifts = some b ∧ moves carry.cB b)
      ∨ slopeMoves (-c.shiftLimit) c.shiftLimit c.cycle.slopeLimit carry.cS (shiftBeforeLimits chord c m) := by
  simp [hasFlag_computeCorrection, hasFlag_limitFlagged]

theorem computeCorrection_targetNotReached :
    let k := (computeCorrection chord carry c m).correction
    hasFlag (computeCorrection chord carry c m).flags .targetNotReached = true ↔
      (otherLevel c m = none ∧ referenceLevel c m ≠ none)
      ∨ (referenceLevel c m = none ∧ (k.lL ≠ 0 ∨ k.lR ≠ 0)) ∨ (m.line = none ∧ k.s ≠ 0) := by
  simp [hasFlag_computeCorrection, hasFlag_limitFlagged]

end Stages

end Sys2Proof.Machine
end

section
/-! PROOFS. What the correction computer hands on (05 R79 to R92). -/

namespace Sys2Proof.Machine

/-- Settles O40, stage by stage. -/
theorem liftsAndShiftBeforeLimits : Obligations.LiftsAndShiftBeforeLimits := by
  intro chord carry c m l floored has hRef cant branch
  refine ⟨fun hneg => ?_, fun hl hr => ⟨floorLifts_of_nonneg hl hr, ?_⟩, (floorLifts_nonneg l).1,
    (floorLifts_nonneg l).2, fun fL fV hb hfL hfV => ⟨?_, fun h lRef hrun href hlRef => ?_⟩,
    liftsBeforeFloor_dropped chord, branchLift_ne_none, fun b => eq_of_branchLift,
    computeCorrection_overrideUsed chord carry, computeCorrection_shiftInhibited chord carry,
    computeCorrection_runOut chord carry⟩
  · have hfloored : floored = _ := floorLifts_of_neg hneg
    rw [hfloored]
    refine ⟨rfl, rfl, ?_, ?_, (computeCorrection_liftFloor chord carry).mpr hneg⟩
    · simp only; omega
    · simp only; omega
  · exact Bool.eq_false_iff.mpr fun hraised =>
      ((computeCorrection_liftFloor chord carry).mp hraised).elim hl.not_gt hr.not_gt
  · rw [shiftBeforeLimits, frontTerm_of_nearestAway hb hfL, ite_or]
    exact if_congr Iff.rfl rfl (rawShift_value m.line fL)
  · subst hlRef
    have hlifts := liftsBeforeFloor_of_some chord hrun href
    rw [frontTerm_of_nearestAway hb hfV] at hlifts
    exact hlifts.trans (pairLifts_of_some href _)

/-- Settles O41: the limits of each quantity by the general laws of a limited value, then stage 11. -/
theorem commandedValuesWithinLimits : Obligations.CommandedValuesWithinLimits := by
  intro chord carry c m hlift hshift hd x k d lifts branch shift ranged between sloped clamped limited hRef other near
  have hrange : -c.shiftLimit ≤ c.shiftLimit := by omega
  have hlaws {v carried : Int} (hc : 0 ≤ carried) : near (limitLift c.maxLift d carried v).value carried c.maxLift := by
    rcases limitFlagged_near (flag := .liftClamped) (carry := carried) (x := v) hlift hd with hnear | ⟨_, hbelow⟩
    · exact hnear
    · omega
  have hbranch {b : Int} (hb : k.lB = some b) : ∃ v, b = (limitLift c.maxLift d carry.cB v).value := by
    obtain ⟨_, hy, rfl⟩ := Option.map_eq_some_iff.mp hb
    obtain ⟨v, _, rfl⟩ := Option.map_eq_some_iff.mp hy
    exact ⟨v, rfl⟩
  refine ⟨limitFlagged_value hlift hd, limitFlagged_value hlift hd, ?_, limitFlagged_value hrange hd, ?_, ?_, ?_,
    (limitFlagged_mem hlift hd).1, (limitFlagged_mem hlift hd).2, (limitFlagged_mem hlift hd).1,
    (limitFlagged_mem hlift hd).2, fun b hb => ?_, (limitFlagged_mem hrange hd).1, (limitFlagged_mem hrange hd).2,
    hlaws, hlaws, fun b hb hc => ?_, limitFlagged_near hrange hd, rfl, rfl, rfl, rfl, fun hb => ?_,
    fun b h hb hm => ?_, drivenOf_line .., drivenOf_liftL .., drivenOf_liftR .., drivenOf_liftB ..,
    computeCorrection_targetNotReached chord carry⟩
  · exact (Option.map_map ..).trans (congrArg (Option.map · branch) (funext fun b => limitFlagged_value hlift hd))
  · have hraised := computeCorrection_liftClamped (c := c) (m := m) chord carry
    simp only [clampMoves_iff hlift hd] at hraised
    exact hraised
  · exact (computeCorrection_shiftClamped chord carry).trans (clampMoves_iff hrange hd)
  · have hraised := computeCorrection_slopeLimited (c := c) (m := m) chord carry
    simp only [slopeMoves_iff hlift hd, slopeMoves_iff hrange hd] at hraised
    exact hraised
  · obtain ⟨v, rfl⟩ := hbranch hb
    exact limitFlagged_mem hlift hd
  · obtain ⟨v, rfl⟩ := hbranch hb
    exact hlaws hc
  · exact (congrArg (fun b => (targetsOf c m k.lL k.lR k.s b).levelB) hb).trans (targetsOf_levelB_none ..)
  · exact (congrArg (fun b => (targetsOf c m k.lL k.lR k.s b).levelB) hb).trans (targetsOf_levelB_some hm ..)

end Sys2Proof.Machine
end

section
/-! PROOFS. What the law of the cycle rests on (03 R48, 06 R95, R96, R118), and that the operations of the sleeper
cycle keep it. -/

namespace Sys2Proof.Machine

/-! ## The law by the state of the sequencer -/

/-- The states of the sequencer that can have a sleeper in flight (06 R95, R96). -/
def Sequencer.mayFly (q : Sequencer) : Prop :=
  q.state = .measuring ∨ q.state = .correcting ∨ q.state = .tamping ∨ q.state = .releasing ∨ q.awaitsConfirm = true

/-- No stop latched and no travel demand: the law of the cycle then asks about a sleeper in flight alone. -/
structure State.Unhindered (s : State) : Prop where
  stop : s.stop.first = none
  demand : s.NoDemand

/-- Unhindered with no sleeper in flight: the law of the cycle asks nothing. -/
structure State.Clear (s : State) : Prop extends s.Unhindered where
  context : s.seq.context = none

section CycleLaw

variable {s t : State}

theorem State.NoDemand.eq (h : s.NoDemand) : s.chainage.move.demandActive = false := h

theorem State.stopLatched_of_none (h : s.stop.first = none) : s.stopLatched = false := by simp [State.stopLatched, h]

/-- The law of the cycle reads no more than the latch, the demand and three fields of the sequencer. -/
theorem cycleLaw_of_same (h : s.cycleLaw) (hs : t.stop.first = s.stop.first)
    (hd : t.chainage.move.demandActive = s.chainage.move.demandActive) (hq : t.seq.state = s.seq.state)
    (hh : t.seq.hold = s.seq.hold) (hx : t.seq.context.isSome = s.seq.context.isSome) : t.cycleLaw := by
  simpa only [State.cycleLaw, State.stopLaw, State.stopLatched, Sequencer.awaitsConfirm, hs, hd, hq, hh, hx] using h

/-- The blocks the law reads, each as it was. -/
theorem cycleLaw_of_blocks (h : s.cycleLaw) (hs : t.stop = s.stop) (hc : t.chainage = s.chainage)
    (hq : t.seq = s.seq) : t.cycleLaw :=
  cycleLaw_of_same h (by rw [hs]) (by rw [hc]) (by rw [hq]) (by rw [hq]) (by rw [hq])

theorem State.Unhindered.cycleLaw (h : s.Unhindered) (hx : s.seq.context.isSome = true → s.seq.mayFly) : s.cycleLaw :=
  ⟨fun hl => absurd hl (by simp [State.stopLatched_of_none h.stop]), fun hd => absurd hd (by simp [h.demand.eq]), hx⟩

theorem State.Clear.cycleLaw (h : s.Clear) : s.cycleLaw :=
  h.toUnhindered.cycleLaw fun hx => by rw [h.context] at hx; cases hx

theorem State.Unhindered.of_same (h : s.Unhindered) (hs : t.stop = s.stop) (hc : t.chainage = s.chainage) :
    t.Unhindered := ⟨by rw [hs, h.stop], h.demand.of_same hc⟩

theorem State.Clear.of_same (h : s.Clear) (hs : t.stop = s.stop) (hc : t.chainage = s.chainage)
    (hx : t.seq.context = s.seq.context) : t.Clear := ⟨h.toUnhindered.of_same hs hc, by rw [hx, h.context]⟩

theorem State.Clear.modSeq (h : s.Clear) {f : Sequencer → Sequencer} (hf : (f s.seq).context = s.seq.context) :
    (s.modSeq f).Clear := ⟨⟨h.stop, h.demand⟩, by rw [← h.context, ← hf]; rfl⟩

/-- Outside FAULT_STOP, IDLE and ENDED no stop is latched, and outside INDEXING no demand is active. -/
theorem unhindered_of_cycleLaw (h : s.cycleLaw) (hrun : s.seq.state.isRun = true) (hi : s.seq.state ≠ .indexing) :
    s.Unhindered := by
  obtain ⟨hstop, hdemand, -⟩ := h
  refine ⟨Option.not_isSome_iff_eq_none.mp fun hl => ?_, Bool.eq_false_iff.mpr fun hd => hi (hdemand hd)⟩
  rcases hstop hl with hq | hq | hq <;> rw [hq] at hrun <;> cases hrun

/-- A sleeper is in flight in no other state. -/
theorem context_of_cycleLaw (h : s.cycleLaw) (hx : ¬s.seq.mayFly) : s.seq.context = none :=
  Option.not_isSome_iff_eq_none.mp fun hc => hx (h.2.2 hc)

theorem Sequencer.not_mayFly {q : Sequencer} (h : q.state = .idle ∨ q.state = .indexing ∨ q.state = .paused
    ∨ q.state = .faultStop ∨ q.state = .ended ∨ (q.state = .hold ∧ q.hold ≠ some .confirmWait)) : ¬q.mayFly := by
  simp only [Sequencer.mayFly, Sequencer.awaitsConfirm, decide_eq_true_eq]
  rcases h with h | h | h | h | h | ⟨h, hr⟩ <;> simp_all

/-- In PAUSED, and in a hold other than CONFIRM_WAIT, nothing hinders the run and nothing is in flight. -/
theorem clear_of_cycleLaw (h : s.cycleLaw)
    (hq : s.seq.state = .paused ∨ (s.seq.state = .hold ∧ s.seq.hold ≠ some .confirmWait)) : s.Clear := by
  have hrun : s.seq.state.isRun = true ∧ s.seq.state ≠ .indexing := by
    rcases hq with hq | ⟨hq, -⟩ <;> rw [hq] <;> decide
  exact ⟨unhindered_of_cycleLaw h hrun.1 hrun.2, context_of_cycleLaw h (Sequencer.not_mayFly (by tauto))⟩

/-! ## After a recording (06 R108) -/

theorem enterHold_clear (h : s.Clear) (r : HoldReason) : (enterHold r s).Clear := h.of_same (by simp) (by simp) rfl

theorem advanceRun_clear (h : s.Clear) : (advanceRun s).Clear :=
  ⟨⟨by simp [h.stop], advanceRun_noDemand h.demand⟩, by rw [(advanceRun_flight s).1, h.context]⟩

theorem continueRun_clear (h : s.Clear) : (continueRun s).Clear :=
  ⟨⟨by simp [h.stop], continueRun_noDemand h.demand⟩, by rw [(continueRun_flight s).1, h.context]⟩

theorem recordSleeper_context (o : SleeperOutcome) (s : State) : (recordSleeper o s).seq.context = none := by
  cases hc : s.seq.context with
  | none => rw [recordSleeper_none hc, hc]
  | some c => rw [(recordSleeper_of_context hc o).1]; rfl

theorem recordSleeper_clear (h : s.Unhindered) (o : SleeperOutcome) : (recordSleeper o s).Clear :=
  ⟨h.of_same (by simp) (by simp), recordSleeper_context o s⟩

theorem afterRecording_clear (h : s.Clear) : (afterRecording s).Clear := continueRun_clear (h.modSeq rfl)

/-! ## The unit -/

/-- The report of OPEN goes on with the run only at a release retry, which has no sleeper in flight (06 R105). -/
theorem reportOpen_cycleLaw (h : s.cycleLaw) : (reportOpen s).cycleLaw := by
  unfold reportOpen
  split
  · exact cycleLaw_of_blocks h (by simp) (by simp) (by simp)
  · split
    · next hq =>
      have hfree := unhindered_of_cycleLaw h (by rw [hq]; rfl) (by rw [hq]; decide)
      split
      · exact cycleLaw_of_blocks h (by simp) (by simp) (by simp)
      · next hx => exact (continueRun_clear ⟨hfree, hx⟩).cycleLaw
    · exact h

theorem releaseUnit_cycleLaw (h : s.cycleLaw) : (releaseUnit s).cycleLaw := by
  have ht : (endLive (s.modLining fun u => u.release s.inputs s.trackSensed)).cycleLaw :=
    cycleLaw_of_blocks h (by simp) (by simp) (by simp)
  unfold releaseUnit
  dsimp only
  split
  · exact reportOpen_cycleLaw ht
  · exact ht

theorem clampOrder_cycleLaw (c : Context) (h : s.cycleLaw) : (clampOrder c s).cycleLaw := by
  unfold clampOrder
  dsimp only
  split
  · exact cycleLaw_of_blocks h (by simp) (by simp) (by simp)
  · exact releaseUnit_cycleLaw (cycleLaw_of_blocks h (by simp) (by simp) (by simp))
  all_goals exact cycleLaw_of_blocks h (by simp) (by simp) (by simp)

theorem enterState_cycleLaw (h : s.Unhindered) {st : SeqState}
    (hst : st = .measuring ∨ st = .correcting ∨ st = .tamping ∨ st = .releasing) : (enterState st s).cycleLaw :=
  (h.of_same (t := enterState st s) (by simp) (by simp)).cycleLaw fun _ => by
    rcases hst with rfl | rfl | rfl | rfl <;> simp [Sequencer.mayFly]

theorem enterMeasuring_cycleLaw (c : Context) (h : s.Unhindered) : (enterMeasuring c s).cycleLaw :=
  cycleLaw_of_blocks (clampOrder_cycleLaw c (enterState_cycleLaw h (.inl rfl))) (by simp [enterMeasuring])
    (by simp [enterMeasuring]) (by simp [enterMeasuring])

/-! ## Admission and positioning -/

theorem enterHold_confirmWait_cycleLaw (h : s.Unhindered) : (enterHold .confirmWait s).cycleLaw :=
  (h.of_same (t := enterHold .confirmWait s) (by simp) (by simp)).cycleLaw fun _ => by
    simp [Sequencer.mayFly, Sequencer.awaitsConfirm, enterHold]

theorem workContext_cycleLaw (h : s.Unhindered) (hc : s.seq.context ≠ none) : (workContext s).cycleLaw := by
  have hrec : ∀ o, (afterRecording (recordSleeper o s)).cycleLaw := fun o =>
    (afterRecording_clear (recordSleeper_clear h o)).cycleLaw
  unfold workContext
  split
  · next hnone => exact absurd hnone hc
  · split
    · exact hrec _
    · split
      · exact hrec _
      · split
        · exact enterHold_confirmWait_cycleLaw h
        · exact enterMeasuring_cycleLaw _ h

theorem admitSleeper_cycleLaw (h : s.Clear) : (admitSleeper s).cycleLaw := by
  have hhold : ∀ r, (enterHold r s).cycleLaw := fun r => (enterHold_clear h r).cycleLaw
  unfold admitSleeper
  split
  · exact hhold _
  · split
    · exact hhold _
    · split
      · exact hhold _
      · split
        · exact hhold _
        · split
          · exact workContext_cycleLaw (h.toUnhindered.of_same (by simp) (by simp)) (by simp [takeContext])
          · exact h.cycleLaw

theorem positioned_cycleLaw (hs : s.stop.first = none) (hx : s.seq.context = none) : (positioned s).cycleLaw := by
  unfold positioned
  dsimp only
  refine admitSleeper_cycleLaw ⟨⟨?_, ?_⟩, ?_⟩
  · split <;> simpa
  · simp [State.NoDemand, IndexMove.demandActive]
  · split <;> simpa

/-- In INDEXING no stop is latched and no sleeper is in flight. -/
theorem demand_of_cycleLaw (h : s.cycleLaw) (hd : s.chainage.move.demandActive = true) :
    s.stop.first = none ∧ s.seq.context = none := by
  have hq := h.2.1 hd
  refine ⟨Option.not_isSome_iff_eq_none.mp fun hl => ?_, context_of_cycleLaw h (Sequencer.not_mayFly (.inr (.inl hq)))⟩
  rcases h.1 hl with hf | hf | hf <;> rw [hq] at hf <;> cases hf

theorem takeHalted_cycleLaw (h : s.cycleLaw) : (takeHalted s).cycleLaw := by
  cases hd : s.chainage.move.demandActive with
  | false => rw [takeHalted_of_noDemand hd]; exact h
  | true =>
    obtain ⟨hs, hx⟩ := demand_of_cycleLaw h hd
    cases hw : s.chainage.withinTolerance with
    | true => rw [takeHalted_within hd hw]; exact positioned_cycleLaw (by simpa) (by simpa)
    | false =>
      rcases of_decide_eq_true hd with hm | hm
      · rw [takeHalted_first_beyond hm hw]
        refine cycleLaw_of_same h rfl ?_ rfl rfl rfl
        simp [IndexMove.demandActive, hm]
      · rw [takeHalted_correction_beyond hm hw]
        exact State.Clear.cycleLaw ⟨⟨hs, by simp [State.NoDemand, State.positionFault, IndexMove.demandActive]⟩, hx⟩

theorem expireIndexTimer_cycleLaw (h : s.cycleLaw) : (expireIndexTimer s).cycleLaw := by
  cases hd : s.chainage.move.demandActive with
  | false => rw [expireIndexTimer_of_noDemand hd]; exact h
  | true =>
    obtain ⟨hs, hx⟩ := demand_of_cycleLaw h hd
    unfold expireIndexTimer
    split
    · refine State.Clear.cycleLaw ⟨⟨by simpa, by simp [State.NoDemand, IndexMove.demandActive]⟩, ?_⟩
      simpa [enterHold]
    · exact h

theorem takeDetection_cycleLaw (h : s.cycleLaw) : (takeDetection s).cycleLaw := by
  unfold takeDetection
  split
  · split
    · exact h
    · next r _ =>
      unfold ChainageUnit.detect
      dsimp only
      split_ifs <;> exact h
  · exact h

end CycleLaw

end Sys2Proof.Machine
end

section
/-! PROOFS. The law of the cycle kept by the events of the machine: windows, the approach, the clamps, the end of an
event, the heads, and stops (06 R102 to R105, R117, R118). -/

namespace Sys2Proof.Machine

section CycleEvents

variable {s t : State}

/-! ## The close of a window and the approach -/

/-- A sleeper in flight stands in a run state other than INDEXING, so nothing hinders its steps. -/
theorem unhindered_of_flight (h : s.cycleLaw) (hx : s.seq.context.isSome = true) : s.Unhindered := by
  have hq : s.seq.mayFly := h.2.2 hx
  have hstate : s.seq.state.isRun = true ∧ s.seq.state ≠ .indexing := by
    have hany : s.seq.state = .measuring ∨ s.seq.state = .correcting ∨ s.seq.state = .tamping
        ∨ s.seq.state = .releasing ∨ s.seq.state = .hold :=
      hq.imp_right (.imp_right (.imp_right (.imp_right awaitsConfirm_state)))
    rcases hany with hq | hq | hq | hq | hq <;> rw [hq] <;> decide
  exact unhindered_of_cycleLaw h hstate.1 hstate.2

theorem closeWindow_cycleLaw (w : Window) (h : s.cycleLaw) : (closeWindow w s).cycleLaw := by
  unfold closeWindow
  split
  · exact cycleLaw_of_blocks h rfl rfl rfl
  · next c hc =>
    have hfree := unhindered_of_flight h (by rw [hc]; rfl)
    split
    · exact (hfree.of_same (by simp) (by simp)).cycleLaw fun _ => .inr (.inl (by rw [closePre_seq]))
    · exact (afterRecording_clear (recordSleeper_clear (hfree.of_same (by simp) (by simp)) _)).cycleLaw

theorem enterHolding_cycleLaw (last : Channels (Option Int)) (h : s.cycleLaw) : (enterHolding last s).cycleLaw :=
  cycleLaw_of_same h (by simp) (by simp) (by simp [enterHolding]) (by simp [enterHolding]) (by simp [enterHolding])

theorem takeLive_cycleLaw (l : Live) (samples : Channels (Option Int)) (h : s.cycleLaw) :
    (takeLive l samples s).cycleLaw := by
  unfold takeLive
  dsimp only
  split
  · split
    · exact cycleLaw_of_blocks h rfl rfl rfl
    · exact enterHolding_cycleLaw _ (cycleLaw_of_blocks h rfl rfl rfl)
  · exact cycleLaw_of_blocks h rfl rfl rfl

theorem takeMeasuringFrame_cycleLaw (samples : Channels (Option Int)) (h : s.cycleLaw) :
    (takeMeasuringFrame samples s).cycleLaw := by
  unfold takeMeasuringFrame
  split
  · exact h
  · split
    · exact closeWindow_cycleLaw _ h
    · exact cycleLaw_of_blocks h rfl rfl rfl
  · exact takeLive_cycleLaw _ _ h

theorem expireSilence_cycleLaw (h : s.cycleLaw) : (expireSilence s).cycleLaw := by
  unfold expireSilence
  split
  · exact h
  · exact closeWindow_cycleLaw _ h
  · exact h

theorem expireCorrection_cycleLaw (h : s.cycleLaw) : (expireCorrection s).cycleLaw := by
  unfold expireCorrection
  split
  · exact enterHolding_cycleLaw _ (cycleLaw_of_blocks h rfl rfl rfl)
  · exact h

/-! ## Failures and reports of the clamps -/

theorem clampFailure_cycleLaw (h : s.cycleLaw) : (clampFailure s).cycleLaw := by
  unfold clampFailure
  split
  · next hq =>
    have hfree := unhindered_of_cycleLaw h (by rw [hq]; rfl) (by rw [hq]; decide)
    have hrec := recordSleeper_clear (hfree.of_same (t := abortUnit (endMeasuring s).headsGoOut) (by simp) (by simp))
      .aborted
    exact (enterHold_clear (hrec.modSeq rfl) _).cycleLaw
  · exact h

theorem holdForRetry_clear (h : s.Clear) : (holdForRetry s).Clear := by
  unfold holdForRetry
  exact enterHold_clear (h.modSeq rfl) _

theorem releaseFailure_cycleLaw (h : s.cycleLaw) : (releaseFailure s).cycleLaw := by
  unfold releaseFailure
  split
  · exact clampFailure_cycleLaw h
  · split
    · next hq =>
      have hfree := unhindered_of_cycleLaw h (by rw [hq]; rfl) (by rw [hq]; decide)
      split
      · have hrec := recordSleeper_clear
          (hfree.of_same (t := s.raiseFlags CorrectionFlag.releaseFault.mask) (by simp) (by simp))
        exact (holdForRetry_clear ((hrec _).modSeq rfl)).cycleLaw
      · next hx => exact (holdForRetry_clear ⟨hfree, hx⟩).cycleLaw
    · exact h

theorem expireClampTimer_cycleLaw (h : s.cycleLaw) : (expireClampTimer s).cycleLaw := by
  have ht : (s.modLining fun u => { u with clampTimer := none }).cycleLaw := cycleLaw_of_blocks h rfl rfl rfl
  unfold expireClampTimer
  split
  · dsimp only
    split
    · exact clampFailure_cycleLaw ht
    · exact releaseFailure_cycleLaw ht
    all_goals exact ht
  · exact h

theorem takeClampLevels_cycleLaw (h : s.cycleLaw) : (takeClampLevels s).cycleLaw := by
  unfold takeClampLevels
  split
  · exact cycleLaw_of_blocks h (by simp) (by simp) (by simp)
  · split
    · exact reportOpen_cycleLaw (cycleLaw_of_blocks h rfl rfl rfl)
    · exact h

/-! ## The end of an event -/

theorem beginTamping_cycleLaw (h : s.cycleLaw) : (beginTamping s).cycleLaw := by
  unfold beginTamping
  split
  · exact h
  · split
    · next hq =>
      have hfree := unhindered_of_cycleLaw h (by rw [hq.1]; rfl) (by rw [hq.1]; decide)
      exact cycleLaw_of_blocks (enterState_cycleLaw hfree (.inr (.inr (.inl rfl)))) (by simp) (by simp) (by simp)
    · exact h

theorem endTamping_cycleLaw (h : s.cycleLaw) : (endTamping s).cycleLaw := by
  unfold endTamping
  split
  · exact h
  · split
    · next hq =>
      have hfree := unhindered_of_cycleLaw h (by rw [hq.1]; rfl) (by rw [hq.1]; decide)
      exact releaseUnit_cycleLaw (enterState_cycleLaw hfree (.inr (.inr (.inr rfl))))
    · exact h

theorem releaseAfterHeads_cycleLaw (h : s.cycleLaw) : (releaseAfterHeads s).cycleLaw := by
  unfold releaseAfterHeads
  split
  · exact releaseUnit_cycleLaw h
  · exact h

theorem releaseFrozen_cycleLaw (h : s.cycleLaw) : (releaseFrozen s).cycleLaw := by
  unfold releaseFrozen
  split
  · exact releaseUnit_cycleLaw h
  · exact h

/-- The one place where a demand begins, and its guard: INDEXING (03 R49). -/
theorem startIndexMove_cycleLaw (h : s.cycleLaw) : (startIndexMove s).cycleLaw := by
  obtain ⟨hstop, -, hflight⟩ := id h
  unfold startIndexMove
  split
  · exact h
  · split
    · next hq => exact ⟨hstop, fun _ => hq.1, hflight⟩
    · exact h

theorem settle_cycleLaw (h : s.cycleLaw) : (settle s).cycleLaw :=
  startIndexMove_cycleLaw (releaseFrozen_cycleLaw (releaseAfterHeads_cycleLaw
    (endTamping_cycleLaw (beginTamping_cycleLaw h))))

/-! ## The heads -/

theorem cancelUnparked_cycleLaw (h : s.cycleLaw) : (cancelUnparked s).cycleLaw := by
  rcases cancelUnparked_cases s with hc | ⟨hd, -, hc⟩ <;> rw [hc]
  · exact h
  · obtain ⟨hs, hx⟩ := demand_of_cycleLaw h hd
    exact State.Clear.cycleLaw ⟨⟨hs, ChainageUnit.cancelTravel_demandActive _⟩, hx⟩

theorem stepHead_cycleLaw (f : HeadEnv → HeadRecord → HeadStep) (i : Fin 4) (h : s.cycleLaw) :
    (s.stepHead f i).cycleLaw := cycleLaw_of_blocks h (by simp) (by simp) (by simp)

theorem takeRaised_cycleLaw (i : Fin 4) (h : s.cycleLaw) : (takeRaised i s).cycleLaw := by
  have ht := stepHead_cycleLaw (fun e x => x.onRaised e) i h
  unfold takeRaised
  refine settle_cycleLaw ?_
  split
  · exact cancelUnparked_cycleLaw ht
  · exact ht

theorem expireTraverse_cycleLaw (i : Fin 4) (h : s.cycleLaw) : (expireTraverse i s).cycleLaw := by
  unfold expireTraverse
  split
  · exact settle_cycleLaw (stepHead_cycleLaw _ i h)
  · exact h

theorem expireTilt_cycleLaw (i : Fin 4) (h : s.cycleLaw) : (expireTilt i s).cycleLaw := by
  unfold expireTilt
  split
  · exact settle_cycleLaw (stepHead_cycleLaw _ i h)
  · exact h

theorem expirePenetration_cycleLaw (i : Fin 4) (h : s.cycleLaw) : (expirePenetration i s).cycleLaw := by
  unfold expirePenetration
  split <;> exact h

theorem expireSqueeze_cycleLaw (i : Fin 4) (h : s.cycleLaw) : (expireSqueeze i s).cycleLaw := by
  unfold expireSqueeze
  split <;> exact h

/-! ## Stops and axis frames -/

theorem enterFaultStop_context (s : State) : (enterFaultStop s).seq.context = none := by
  simp [enterFaultStop, enterState, recordSleeper_context]

/-- The first stop takes the run to FAULT_STOP with its demand cancelled and its sleeper recorded; IDLE, FAULT_STOP and
ENDED stand (06 R118). -/
theorem raiseStop_cycleLaw (c : StopCause) (h : s.cycleLaw) : (raiseStop c s).cycleLaw := by
  obtain ⟨hstop, hdemand, hflight⟩ := id h
  unfold raiseStop
  split
  · dsimp only
    split
    · refine ⟨fun _ => .inl rfl, fun hd => ?_, fun hx => ?_⟩
      · rw [(enterFaultStop_noDemand _).eq] at hd; cases hd
      · rw [enterFaultStop_context] at hx; cases hx
    · next hrun =>
      refine ⟨fun _ => ?_, hdemand, hflight⟩
      revert hrun
      cases hq : s.seq.state <;> simp [SeqState.isRun, hq]
  · exact cycleLaw_of_same h rfl rfl rfl rfl rfl

theorem supervise_cycleLaw (f : AxisFrame) (h : s.cycleLaw) : (supervise f s).cycleLaw := by
  have hfold : ∀ (l : List Axis) (t : State), t.cycleLaw → (l.foldl testAxis t).cycleLaw := by
    intro l
    induction l with
    | nil => exact fun t ht => ht
    | cons a l ih =>
      refine fun t ht => ih _ ?_
      unfold testAxis
      split
      · exact raiseStop_cycleLaw _ (cycleLaw_of_blocks ht rfl rfl rfl)
      · exact ht
  exact hfold _ _ (cycleLaw_of_blocks h rfl rfl rfl)

theorem takeAxisFrame_cycleLaw (f : AxisFrame) (h : s.cycleLaw) : (takeAxisFrame f s).cycleLaw := by
  have hlive : (s.senseFrame f).cycleLaw := cycleLaw_of_same h rfl rfl rfl rfl rfl
  unfold takeAxisFrame
  dsimp only
  split
  · exact settle_cycleLaw (cancelUnparked_cycleLaw (cycleLaw_of_blocks hlive (by simp) (by simp) (by simp)))
  · exact settle_cycleLaw (cycleLaw_of_blocks (supervise_cycleLaw f hlive) (by simp) (by simp) (by simp))

theorem expireAxisLine_cycleLaw (h : s.cycleLaw) : (expireAxisLine s).cycleLaw := by
  unfold expireAxisLine
  split
  · exact h
  · exact raiseStop_cycleLaw _ (cycleLaw_of_same h rfl rfl rfl rfl rfl)

theorem takeChain_cycleLaw (closed : Bool) (h : s.cycleLaw) : (takeChain closed s).cycleLaw := by
  unfold takeChain
  dsimp only
  split
  · exact raiseStop_cycleLaw _ (cycleLaw_of_blocks h rfl rfl rfl)
  · exact cycleLaw_of_blocks h rfl rfl rfl

theorem expireAttention_cycleLaw (h : s.cycleLaw) : (expireAttention s).cycleLaw := by
  unfold expireAttention
  split
  · exact h
  · exact cycleLaw_of_blocks h rfl rfl rfl
  · exact raiseStop_cycleLaw _ h

end CycleEvents

end Sys2Proof.Machine
end

section
/-! PROOFS. The law of the cycle kept by the requests, by the link, by every command and so by every step (06 R118, 03
R48, 06 R95). -/

namespace Sys2Proof.Machine

section CycleRequests

variable {s t : State}

/-! ## The requests of the run -/

/-- START_RUN is refused while a stop is latched (06 R97), so the run it begins stands unhindered. -/
theorem startRun_cycleLaw (page index : Byte) (h : s.cycleLaw) : (startRun page index s).1.cycleLaw := by
  unfold startRun
  split
  · exact h
  · next hstate =>
    split
    · exact h
    · next hstop =>
      have hs : s.stop.first = none := by simpa [State.stopLatched] using hstop
      have hx : s.seq.context = none := context_of_cycleLaw h (Sequencer.not_mayFly (by tauto))
      split
      · exact h
      · split
        · exact h
        · split
          · exact h
          · split
            · exact h
            · split
              · exact h
              · split
                · exact h
                · refine settle_cycleLaw (State.Clear.cycleLaw ⟨⟨by simp [hs], beginRun_noDemand _ s⟩, ?_⟩)
                  simpa [beginRun, enterState]

theorem pauseRun_cycleLaw (h : s.cycleLaw) : (pauseRun s).1.cycleLaw := by
  unfold pauseRun
  split <;> exact h

theorem readmit_cycleLaw (h : s.Clear) : (readmit s).cycleLaw := by
  unfold readmit
  dsimp only
  split
  · exact admitSleeper_cycleLaw (h.modSeq rfl)
  · exact (h.of_same (by simp) (by simp) (by simp [enterState])).cycleLaw

theorem retryRelease_cycleLaw (h : s.Clear) : (retryRelease s).cycleLaw :=
  releaseUnit_cycleLaw (enterState_cycleLaw (h.modSeq rfl).toUnhindered (.inr (.inr (.inr rfl))))

theorem resumeAdvance_cycleLaw (h : s.Clear) : (resumeAdvance s).cycleLaw :=
  (advanceRun_clear (h.modSeq rfl)).cycleLaw

theorem takeAction_cycleLaw (a : Option ResumeAction) (h : s.Clear) : (takeAction a s).cycleLaw := by
  unfold takeAction
  split
  · exact readmit_cycleLaw h
  · exact retryRelease_cycleLaw h
  · exact resumeAdvance_cycleLaw h
  · exact readmit_cycleLaw h

theorem resumeHold_cycleLaw {r : HoldReason} (h : s.Clear) (ht : resumeHold r s = some t) : t.cycleLaw := by
  unfold resumeHold at ht
  split at ht
  · cases ht
  · cases ht
  · cases ht
  · cases ht; exact readmit_cycleLaw h
  · cases ht; exact readmit_cycleLaw (h.modSeq rfl)
  · cases ht; exact readmit_cycleLaw (h.modSeq rfl)
  · cases ht; exact readmit_cycleLaw h
  · cases ht; exact readmit_cycleLaw h
  · cases ht; exact takeAction_cycleLaw _ h
  · cases ht; exact takeAction_cycleLaw _ h

/-- A hold with a sleeper in flight is CONFIRM_WAIT, which refuses RESUME (06 R111). -/
theorem resumed_cycleLaw (h : s.cycleLaw) (ht : resumed s = some t) : t.cycleLaw := by
  have hactive : s.Clear → (activity s).Clear := fun hs => hs.of_same (by simp) (by simp) (by simp)
  unfold resumed at ht
  split at ht
  · next hq => cases ht; exact resumeAdvance_cycleLaw (hactive (clear_of_cycleLaw h (.inl hq)))
  · next r hq hr =>
    refine resumeHold_cycleLaw (hactive (clear_of_cycleLaw h (.inr ⟨hq, fun hc => ?_⟩))) ht
    rw [hr] at hc; cases hc; cases ht
  · cases ht

theorem resumeRun_cycleLaw (h : s.cycleLaw) : (resumeRun s).1.cycleLaw := by
  unfold resumeRun
  split
  · next ht => exact settle_cycleLaw (resumed_cycleLaw h ht)
  · exact h

theorem unhindered_of_confirmWait (h : s.cycleLaw) (hq : s.seq.awaitsConfirm = true) : s.Unhindered := by
  have hs := awaitsConfirm_state hq
  exact unhindered_of_cycleLaw h (by rw [hs]; rfl) (by rw [hs]; decide)

theorem confirmSleeper_cycleLaw (h : s.cycleLaw) : (confirmSleeper s).1.cycleLaw := by
  unfold confirmSleeper
  split
  · next hq _ => exact settle_cycleLaw (enterMeasuring_cycleLaw _ (unhindered_of_confirmWait h hq))
  · exact h

theorem skipSleeper_cycleLaw (h : s.cycleLaw) : (skipSleeper s).1.cycleLaw := by
  unfold skipSleeper
  split
  case h_3 =>
    split
    · next hq =>
      exact settle_cycleLaw (afterRecording_clear (recordSleeper_clear (unhindered_of_confirmWait h hq) _)).cycleLaw
    · exact h
  all_goals exact h

theorem abortFlight_cycleLaw (h : s.Unhindered) : (abortFlight s).cycleLaw := by
  have hrec := recordSleeper_clear (h.of_same (t := abortUnit (endMeasuring s).headsGoOut) (by simp) (by simp)) .aborted
  unfold abortFlight
  exact (enterHold_clear hrec _).cycleLaw

theorem abortSleeper_cycleLaw (h : s.cycleLaw) : (abortSleeper s).1.cycleLaw := by
  have habort : s.seq.state.isRun = true → s.seq.state ≠ .indexing → (settle (abortFlight s)).cycleLaw :=
    fun hr hi => settle_cycleLaw (abortFlight_cycleLaw (unhindered_of_cycleLaw h hr hi))
  unfold abortSleeper
  split
  case h_1 hq => exact habort (by rw [hq]; rfl) (by rw [hq]; decide)
  case h_2 hq => exact habort (by rw [hq]; rfl) (by rw [hq]; decide)
  case h_3 hq => exact habort (by rw [hq]; rfl) (by rw [hq]; decide)
  all_goals exact h

theorem retampSleeper_cycleLaw (h : s.cycleLaw) : (retampSleeper s).1.cycleLaw := by
  unfold retampSleeper
  split
  · next hq => exact settle_cycleLaw (admitSleeper_cycleLaw ((clear_of_cycleLaw h (.inl hq)).modSeq rfl))
  · exact h

/-- IDLE may stand with a stop latched; its demand is cancelled and its sleeper recorded (06 R116). -/
theorem endRunNow_cycleLaw (s : State) : (endRunNow s).cycleLaw := by
  refine ⟨fun _ => .inr (.inl rfl), fun hd => ?_, fun hx => ?_⟩
  · rw [(endRunNow_noDemand s).eq] at hd; cases hd
  · simp [endRunNow, enterState, recordSleeper_context] at hx

theorem stopRun_cycleLaw (h : s.cycleLaw) : (stopRun s).1.cycleLaw := by
  unfold stopRun
  split
  · exact h
  · exact settle_cycleLaw (endRunNow_cycleLaw s)

/-- CLEAR_STOP unlatches the stop before it leaves FAULT_STOP, which has no sleeper in flight and no demand. -/
theorem clearStop_cycleLaw (h : s.cycleLaw) : (clearStop s).1.cycleLaw := by
  obtain ⟨-, hdemand, hflight⟩ := id h
  unfold clearStop
  split
  · exact h
  · split
    · exact h
    · split
      · dsimp only
        split
        · next hq =>
          have hd : s.NoDemand := Bool.eq_false_iff.mpr fun hd => by
            have hi := hdemand hd
            simp only [State.setSupervisor_seq, State.setStop_seq] at hq
            rw [hq] at hi; cases hi
          have hx := context_of_cycleLaw h (Sequencer.not_mayFly (.inr (.inr (.inr (.inl hq)))))
          have hclear : ((s.setStop { s.stop with first := none, further := 0 }).setSupervisor
              s.supervisor.cleared).Clear := ⟨⟨rfl, hd⟩, hx⟩
          exact (enterHold_clear hclear _).cycleLaw
        · exact ⟨fun hl => absurd hl (by simp [State.stopLatched]), hdemand, hflight⟩
      · exact h

/-! ## The other requests -/

theorem retryCrossing_clear (w : Pos) (h : s.Clear) : (retryCrossing w s).Clear := by
  refine ⟨⟨by simp [h.stop], retryCrossing_noDemand w h.demand⟩, ?_⟩
  unfold retryCrossing
  split <;> exact h.context

theorem closePage_cycleLaw (page count endByte : Byte) (h : s.cycleLaw) :
    (closePage page count endByte s).1.cycleLaw := by
  have ht : (s.setPlan (s.plan.closePage page count endByte).1).cycleLaw := cycleLaw_of_blocks h rfl rfl rfl
  unfold closePage
  dsimp only
  split
  · next w _ hw =>
    dsimp only
    split
    · next hwait =>
      unfold State.waitsFor at hwait
      rw [hw] at hwait
      obtain ⟨hq, hr, -⟩ := of_decide_eq_true hwait
      have hclear := clear_of_cycleLaw ht (.inr ⟨hq, by rw [hr]; decide⟩)
      exact settle_cycleLaw (retryCrossing_clear w hclear).cycleLaw
    · exact ht
  · exact ht

theorem releaseResultsRequest_cycleLaw (n : Byte) (h : s.cycleLaw) : (releaseResultsRequest n s).1.cycleLaw := by
  have ht : ∃ r, (releaseResults n s).1 = s.setResults r := by
    unfold releaseResults
    split
    · exact ⟨s.results, rfl⟩
    · split <;> exact ⟨_, rfl⟩
  obtain ⟨r, ht⟩ := ht
  unfold releaseResultsRequest
  dsimp only
  rw [ht]
  split
  · next hq =>
    obtain ⟨hq, hr, -⟩ := hq
    have hclear := clear_of_cycleLaw h (.inr ⟨hq, by rw [hr]; decide⟩)
    exact settle_cycleLaw (admitSleeper_cycleLaw (hclear.of_same rfl rfl rfl))
  · rw [ht]; exact cycleLaw_of_blocks h rfl rfl rfl

theorem setChainageTo_cycleLaw (value : BitVec 32) (h : s.cycleLaw) : (setChainageTo value s).1.cycleLaw := by
  unfold setChainageTo
  repeat' split
  all_goals exact h

theorem getCounters_cycleLaw (clear : Byte) (h : s.cycleLaw) : (getCounters clear s).1.cycleLaw := by
  unfold getCounters
  split
  · exact h
  · dsimp only
    split <;> exact h

theorem storeParam_cycleLaw (p : ParamId) (v : Int) (h : s.cycleLaw) : (storeParam p v s).cycleLaw := by
  unfold storeParam
  dsimp only
  split <;> exact cycleLaw_of_blocks h (by simp) (by simp) (by simp)

theorem setParam_cycleLaw (id : Byte) (value : BitVec 32) (h : s.cycleLaw) : (setParam id value s).1.cycleLaw := by
  unfold setParam setChord setClamped
  dsimp only
  split
  · exact h
  · split
    · split
      · exact h
      · split
        · exact h
        · exact storeParam_cycleLaw _ _ h
    · exact storeParam_cycleLaw _ _ h

/-- The owner of a request keeps the law of the cycle. -/
theorem runCall_cycleLaw (c : Call) (h : s.cycleLaw) : (runCall c s).1.cycleLaw := by
  cases c with
  | setParam id value => exact setParam_cycleLaw id value h
  | closePage page count endByte => exact closePage_cycleLaw page count endByte h
  | setChainage value => exact setChainageTo_cycleLaw value h
  | startRun page index => exact startRun_cycleLaw page index h
  | pause => exact pauseRun_cycleLaw h
  | resume => exact resumeRun_cycleLaw h
  | confirm => exact confirmSleeper_cycleLaw h
  | skipSleeper => exact skipSleeper_cycleLaw h
  | abortSleeper => exact abortSleeper_cycleLaw h
  | retamp => exact retampSleeper_cycleLaw h
  | stopRun => exact stopRun_cycleLaw h
  | clearStop => exact clearStop_cycleLaw h
  | releaseResults n => exact releaseResultsRequest_cycleLaw n h
  | getCounters clear => exact getCounters_cycleLaw clear h
  | _ => exact h

/-! ## The link -/

/-- What the link does by itself: it changes its own block, the counters and the latches. -/
def State.LinkTurned (s t : State) : Prop :=
  t = ((s.setLink t.link).setCounters t.counters).setLatches t.latches

theorem State.LinkTurned.refl (s : State) : s.LinkTurned s := rfl

theorem State.LinkTurned.trans {u : State} (h : s.LinkTurned t) (g : t.LinkTurned u) : s.LinkTurned u := by
  rw [State.LinkTurned] at h g
  rw [h] at g
  exact g

theorem State.LinkTurned.cycleLaw (h : s.LinkTurned t) (hs : s.cycleLaw) : t.cycleLaw := by
  rw [State.LinkTurned] at h
  rw [h]
  exact hs

theorem acceptRequest_turned (r : Request) (s : State) : s.LinkTurned (acceptRequest r s) := by
  unfold acceptRequest
  split
  · exact .refl s
  · split
    · exact rfl
    · dsimp only
      split <;> exact rfl

theorem dropFrame_turned (k : Counter) (s : State) : s.LinkTurned (dropFrame k s) := rfl

theorem takeFrame_turned (n : Nat) (bytes : List Byte) (s : State) : s.LinkTurned (takeFrame n bytes s) := by
  unfold takeFrame
  split
  · split
    · split
      · exact State.LinkTurned.trans (t := (s.modLink fun l => { l with rx := .hunt }).bump .framesAccepted) rfl
          (acceptRequest_turned _ _)
      · exact dropFrame_turned _ _
    · exact dropFrame_turned _ _
  · exact dropFrame_turned _ _

theorem collect_turned (bytes : List Byte) (s : State) : s.LinkTurned (collect bytes s) := by
  unfold collect
  split
  · exact .refl s
  · split
    · exact dropFrame_turned _ _
    · split
      · exact takeFrame_turned _ _ _
      · exact rfl

theorem takeByte_turned (b : RxByte) (s : State) : s.LinkTurned (takeByte b s) := by
  unfold takeByte
  split
  · split
    · exact rfl
    · exact .refl s
  · split
    · exact collect_turned _ _
    · exact dropFrame_turned _ _

theorem expireGap_turned (s : State) : s.LinkTurned (expireGap s) := by
  unfold expireGap
  split
  · exact .refl s
  · exact dropFrame_turned _ _

theorem report_cycleLaw (before : State) (h : s.cycleLaw) : (report before s).cycleLaw := by
  obtain ⟨-, -, -, -, -, -, -, -, hc, -, -, hq, -, -, -, hs, -⟩ := State.reportOf_keeps (report_reportOf before s)
  exact cycleLaw_of_blocks h hs hc hq

theorem execute_cycleLaw (r : Request) (h : s.cycleLaw) : (execute r s).cycleLaw :=
  report_cycleLaw s (cycleLaw_of_blocks (runCall_cycleLaw r.call h) (by simp) (by simp) (by simp))

theorem executeOldest_cycleLaw (h : s.cycleLaw) : (executeOldest s).cycleLaw := by
  unfold executeOldest
  split
  · exact h
  · split
    · exact execute_cycleLaw _ h
    · exact h

theorem request_cycleLaw (r : Request) (h : s.cycleLaw) : (request r s).cycleLaw := by
  have ha := (acceptRequest_turned r s).cycleLaw h
  unfold request
  split
  · exact h
  · split
    · exact executeOldest_cycleLaw h
    · split
      · exact executeOldest_cycleLaw ha
      · exact ha

/-- A warm restart leaves the run IDLE with no demand and no sleeper in flight (11 R185). -/
theorem takeSent_cycleLaw (h : s.cycleLaw) : (takeSent s).cycleLaw := by
  unfold takeSent
  split
  · exact h
  · split
    · exact h
    · split
      · exact ⟨fun _ => .inr (.inl rfl), fun hd => (nomatch hd), fun hx => (nomatch hx)⟩
      · exact h

/-! ## Events -/

/-- What follows the change of an event touches neither the latch, the demand nor the sequencer. -/
theorem event_cycleLaw {f : State → State} (h : s.cycleLaw) (hf : (f s).cycleLaw) : (event f s).cycleLaw := by
  unfold event closeEvent
  split
  · exact h
  · exact report_cycleLaw s (cycleLaw_of_blocks hf (by simp) (by simp) (by simp))

theorem levelEvent_cycleLaw {g : Inputs → Inputs} {f : State → State} (h : s.cycleLaw) (hf : (f s).cycleLaw) :
    (levelEvent g f s).cycleLaw := by
  cases hr : s.resetLow with
  | true => rw [levelEvent, if_pos hr]; exact h
  | false => rw [levelEvent_eq hr]; exact event_cycleLaw h hf

/-- Bytes received one after the other (log entry 3). -/
theorem bytes_cycleLaw (bytes : List RxByte) (s : State) (h : s.cycleLaw) :
    (bytes.foldl (fun t b => event (takeByte b) t) s).cycleLaw := by
  induction bytes generalizing s with
  | nil => exact h
  | cons b rest ih => exact ih _ (event_cycleLaw h ((takeByte_turned b s).cycleLaw h))

end CycleRequests

/-! ## Every command and every step -/

theorem exec_cycleLaw {c : Instr} {s t : State} (h : exec c s = .next t) (hl : s.cycleLaw) : t.cycleLaw := by
  have hinputs : ∀ i, (s.setInputs i).cycleLaw := fun i => cycleLaw_of_blocks hl rfl rfl rfl
  cases c with
  | loadRecords tag page first records =>
    simp only [exec, execLoadRecords] at h
    split at h
    · cases h; exact request_cycleLaw _ hl
    · cases h
  | frameReceived bytes => cases h; exact bytes_cycleLaw bytes s hl
  | gapLimitExpiry => cases h; exact event_cycleLaw hl ((expireGap_turned s).cycleLaw hl)
  | frameSent => cases h; exact event_cycleLaw hl (takeSent_cycleLaw hl)
  | powerOnReset =>
    cases h
    exact ⟨fun _ => .inr (.inl rfl), fun hd => (nomatch hd), fun hx => (nomatch hx)⟩
  | measuringFrame bytes intact =>
    cases h; exact event_cycleLaw hl (settle_cycleLaw (takeMeasuringFrame_cycleLaw _ hl))
  | silenceLimitExpiry => cases h; exact event_cycleLaw hl (settle_cycleLaw (expireSilence_cycleLaw hl))
  | axisFrame frame => cases h; exact event_cycleLaw hl (takeAxisFrame_cycleLaw frame hl)
  | axisLineSilenceExpiry => cases h; exact event_cycleLaw hl (expireAxisLine_cycleLaw hl)
  | safetyChainChange closed => cases h; exact levelEvent_cycleLaw hl (takeChain_cycleLaw closed hl)
  | operatorInputActive input =>
    cases h
    have hactivity := activityFrom_eq (operatorSource input) s
    exact event_cycleLaw hl (by rw [hactivity]; exact hl)
  | odometerCount forward => cases h; exact event_cycleLaw hl hl
  | detection => cases h; exact event_cycleLaw hl (takeDetection_cycleLaw hl)
  | halted => cases h; exact event_cycleLaw hl (settle_cycleLaw (takeHalted_cycleLaw hl))
  | indexTimerExpiry => cases h; exact event_cycleLaw hl (expireIndexTimer_cycleLaw hl)
  | clampSensorReport clamp closed =>
    cases h; exact levelEvent_cycleLaw hl (settle_cycleLaw (takeClampLevels_cycleLaw (hinputs _)))
  | clampTimerExpiry => cases h; exact event_cycleLaw hl (settle_cycleLaw (expireClampTimer_cycleLaw hl))
  | correctionTimerExpiry => cases h; exact event_cycleLaw hl (settle_cycleLaw (expireCorrection_cycleLaw hl))
  | tiltSensorReport head arm report =>
    cases h; exact levelEvent_cycleLaw hl (settle_cycleLaw (stepHead_cycleLaw _ head (hinputs _)))
  | headRaisedSensorReport head raised =>
    cases h; exact levelEvent_cycleLaw hl (takeRaised_cycleLaw head (hinputs _))
  | traverseTimerExpiry head => cases h; exact event_cycleLaw hl (expireTraverse_cycleLaw head hl)
  | tiltTimerExpiry head => cases h; exact event_cycleLaw hl (expireTilt_cycleLaw head hl)
  | penetrationTimerExpiry head => cases h; exact event_cycleLaw hl (expirePenetration_cycleLaw head hl)
  | squeezeTimerExpiry head => cases h; exact event_cycleLaw hl (expireSqueeze_cycleLaw head hl)
  | attentionTimerExpiry => cases h; exact event_cycleLaw hl (expireAttention_cycleLaw hl)
  | receivedByte byte => cases h; exact event_cycleLaw hl ((takeByte_turned byte s).cycleLaw hl)
  | resetLineLow => cases h; exact hl
  | _ => cases h; exact request_cycleLaw _ hl

/-- Settles O54: a first stop takes a run state to FAULT_STOP, what leaves FAULT_STOP, IDLE or ENDED asks for a clear
latch, a demand begins in INDEXING alone, and a sleeper in flight is recorded before its states are left. -/
theorem stepKeepsStopLaw : Obligations.StepKeepsStopLaw := by
  intro s t h hl
  unfold step at h
  split at h
  · cases h
    unfold idle
    split
    · exact hl
    · exact executeOldest_cycleLaw hl
  · exact exec_cycleLaw h (cycleLaw_of_blocks hl rfl rfl rfl)

end Sys2Proof.Machine
end

section
/-! PROOFS. The requests of the run by the state of the sequencer: PAUSE held pending, and what refuses each request
(06 R97, R110 to R116). -/

namespace Sys2Proof.Machine

section Refusals

variable {s : State}

/-! ## What each request does outside the states that take it -/

theorem pauseRun_pends (h : s.seq.state = .indexing ∨ s.seq.state = .measuring ∨ s.seq.state = .correcting
    ∨ s.seq.state = .tamping ∨ s.seq.state = .releasing) :
    pauseRun s = (s.setSeq { s.seq with pausePending := true }, .plain .ok) := by
  rcases h with h | h | h | h | h <;> simp [pauseRun, h]

theorem pauseRun_refused (h : ¬(s.seq.state = .indexing ∨ s.seq.state = .measuring ∨ s.seq.state = .correcting
    ∨ s.seq.state = .tamping ∨ s.seq.state = .releasing)) : pauseRun s = (s, .plain .wrongState) := by
  cases hq : s.seq.state <;> simp_all [pauseRun]

theorem resumeHold_refused {r : HoldReason} (h : r = .planExhausted ∨ r = .resultFull ∨ r = .confirmWait) (s : State) :
    resumeHold r s = none := by
  rcases h with rfl | rfl | rfl <;> rfl

theorem resumed_none_of_state (hh : s.seq.state ≠ .hold) (hp : s.seq.state ≠ .paused) : resumed s = none := by
  unfold resumed
  split <;> simp_all

theorem resumed_none_of_reason (hh : s.seq.state = .hold) (hr : s.seq.hold = some .planExhausted
    ∨ s.seq.hold = some .resultFull ∨ s.seq.hold = some .confirmWait) : resumed s = none := by
  rcases hr with hr | hr | hr <;> simp only [resumed, hh, hr] <;> exact resumeHold_refused (by decide) _

theorem resumeRun_refused (h : resumed s = none) : resumeRun s = (s, .plain .wrongState) := by
  rw [resumeRun, h]

theorem awaitsConfirm_iff (q : Sequencer) : q.awaitsConfirm = true ↔ q.state = .hold ∧ q.hold = some .confirmWait :=
  decide_eq_true_iff

theorem confirmSleeper_refused (h : s.seq.state ≠ .hold ∨ s.seq.hold ≠ some .confirmWait) :
    confirmSleeper s = (s, .plain .wrongState) := by
  have hq : s.seq.awaitsConfirm = false := Bool.eq_false_iff.mpr fun hc => by
    obtain ⟨hs, hr⟩ := (awaitsConfirm_iff _).mp hc
    exact h.elim (· hs) (· hr)
  rw [confirmSleeper, hq]

theorem skipSleeper_refused (hi : s.seq.state ≠ .indexing) (hh : s.seq.state ≠ .hold) (hp : s.seq.state ≠ .paused) :
    skipSleeper s = (s, .plain .wrongState) := by
  cases hq : s.seq.state <;> simp_all [skipSleeper]

theorem abortSleeper_refused (hm : s.seq.state ≠ .measuring) (hc : s.seq.state ≠ .correcting)
    (ht : s.seq.state ≠ .tamping) : abortSleeper s = (s, .plain .wrongState) := by
  cases hq : s.seq.state <;> simp_all [abortSleeper]

theorem retampSleeper_refused (h : s.seq.state ≠ .paused) : retampSleeper s = (s, .plain .wrongState) := if_neg h

theorem stopRun_refused (h : s.seq.state = .idle) : stopRun s = (s, .plain .wrongState) := if_pos h

/-! ## START_RUN by its checks in their order (06 R97) -/

/-- What START_RUN asks of the machine before it looks at the plan. -/
structure State.MayStart (s : State) : Prop where
  state : s.seq.state = .idle ∨ s.seq.state = .ended
  stop : s.stop.first = none
  chain : s.inputs.chainClosed = true
  unit : s.lining.state = .isOpen
  heads : ∀ i : Fin 4, (s.heads.get i).state = .parked

variable {page index : Byte} {n : Fin 4} {r : SleeperRecord}

theorem startRun_refused (h : ¬s.MayStart) : startRun page index s = (s, .plain .wrongState) := by
  unfold startRun
  split_ifs with hq hl hc hu
  · rfl
  · rfl
  · rfl
  · rfl
  · refine absurd ⟨by tauto, by simpa [State.stopLatched] using hl, by simpa using hc, ?_, ?_⟩ h
    · by_contra ho; exact hu (.inl ho)
    · exact s.allParked_iff.mp (by simpa using fun hp => hu (.inr hp))

/-- The checks that come before the plan, each passed. -/
theorem State.MayStart.passes (h : s.MayStart) : ¬(s.seq.state ≠ .idle ∧ s.seq.state ≠ .ended)
    ∧ ¬s.stopLatched = true ∧ ¬s.inputs.chainClosed = false
    ∧ ¬(s.lining.state ≠ .isOpen ∨ s.allParked = false) := by
  obtain ⟨hq, hl, hc, hu, hp⟩ := h
  exact ⟨by tauto, by simp [State.stopLatched, hl], by simp [hc], by simp [hu, s.allParked_iff.mpr hp]⟩

theorem startRun_bad_page (h : s.MayStart) (hp : 3 < page.toNat) :
    startRun page index s = (s, .plain .badValue) := by
  obtain ⟨hq, hl, hc, hu⟩ := h.passes
  rw [startRun, if_neg hq, if_neg hl, if_neg hc, if_neg hu, pageOf?_none hp]

theorem startRun_page_state (h : s.MayStart) (hn : page.toNat = n.val) (hs : (s.plan.page n).state ≠ .ready) :
    startRun page index s = (s, .plain .pageState) := by
  obtain ⟨hq, hl, hc, hu⟩ := h.passes
  rw [startRun, if_neg hq, if_neg hl, if_neg hc, if_neg hu, pageOf?_of_toNat hn]
  exact if_pos hs

theorem startRun_no_record (h : s.MayStart) (hn : page.toNat = n.val) (hs : (s.plan.page n).state = .ready)
    (hr : (s.plan.page n).at? index.toNat = none) : startRun page index s = (s, .plain .badValue) := by
  obtain ⟨hq, hl, hc, hu⟩ := h.passes
  rw [startRun, if_neg hq, if_neg hl, if_neg hc, if_neg hu, pageOf?_of_toNat hn]
  simp [hs, hr]

/-- A record on the starting position decides START_RUN by its distance from the running chainage. -/
theorem startRun_record (h : s.MayStart) (hn : page.toNat = n.val) (hs : (s.plan.page n).state = .ready)
    (hr : (s.plan.page n).at? index.toNat = some r) : startRun page index s =
      if 3000 < absInt (r.chainage - s.chainage.running) then (s, .plain .badValue)
      else (settle (beginRun ⟨n, index.toNat⟩ s), .plain .ok) := by
  obtain ⟨hq, hl, hc, hu⟩ := h.passes
  rw [startRun, if_neg hq, if_neg hl, if_neg hc, if_neg hu, pageOf?_of_toNat hn]
  simp only [hs, hr, ne_eq, not_true_eq_false, if_false]
  rfl

theorem far_iff (a b : Int) : 3000 < absInt (a - b) ↔ 3000 < a - b ∨ 3000 < b - a := by
  rw [absInt_eq_abs, lt_abs, neg_sub]

end Refusals

/-- A request on a ready link that changes the sequencer alone and keeps the class of its state. -/
theorem seq_request_answered {s : State} {r : Request} {q : Sequencer} {y : Reply} (h : s.linkReady)
    (hr : r.call ≠ .restart) (hrun : runCall r.call (s.queued r) = ((s.queued r).setSeq q, y))
    (hq : q.state = s.seq.state) : request r s = (s.setSeq q).answered r y :=
  request_answered h hr hrun rfl (by rw [State.setSeq_seq, hq]) rfl rfl

/-- Settles O24: each request by the state of the sequencer, START_RUN by its checks in their order. -/
theorem runRequestsByState : Obligations.RunRequestsByState := by
  intro s tag page index h refused inRun start mayStart
  have answered {call : Call} {c : Instr} {y : Reply} (hc : exec c s = .next (request ⟨tag, call⟩ s))
      (hcall : call ≠ .restart) (hrun : runCall call (s.queued ⟨tag, call⟩) = (s.queued ⟨tag, call⟩, y)) :
      exec c s = .next (State.answered ⟨tag, call⟩ y s) :=
    hc.trans (congrArg _ (unchanged_request_answered h hcall hrun))
  have hstart : mayStart → (s.queued ⟨tag, .startRun page index⟩).MayStart := fun ⟨hq, hl, hc, hu, hp⟩ =>
    ⟨hq, hl, hc, hu, hp⟩
  refine ⟨fun hq => ?_, fun hq => ?_, fun hh hp => ?_, fun hh hr => ?_, fun hq => ?_, fun hi hh hp => ?_,
    fun hm hc ht => ?_, fun hp => ?_, fun hi => ?_, fun hm => ?_, fun hm hp => ?_,
    fun n hm hn => ⟨fun hs => ?_, fun hs hr => ?_, fun r hs hr hfar => ?_⟩⟩
  · exact congrArg _ (seq_request_answered (r := ⟨tag, .pause⟩) (q := { s.seq with pausePending := true }) h nofun
      (pauseRun_pends hq) rfl)
  · exact answered rfl nofun (pauseRun_refused hq)
  · exact answered rfl nofun (resumeRun_refused (resumed_none_of_state hh hp))
  · exact answered rfl nofun (resumeRun_refused (resumed_none_of_reason hh hr))
  · exact answered rfl nofun (confirmSleeper_refused hq)
  · exact answered rfl nofun (skipSleeper_refused hi hh hp)
  · exact answered rfl nofun (abortSleeper_refused hm hc ht)
  · exact answered rfl nofun (retampSleeper_refused hp)
  · exact answered rfl nofun (stopRun_refused hi)
  · exact answered rfl nofun (startRun_refused fun ⟨hq, hl, hc, hu, hp⟩ => hm ⟨hq, hl, hc, hu, hp⟩)
  · exact answered rfl nofun (startRun_bad_page (hstart hm) hp)
  · exact answered rfl nofun (startRun_page_state (hstart hm) hn hs)
  · exact answered rfl nofun (startRun_no_record (hstart hm) hn hs hr)
  · refine answered rfl nofun ((startRun_record (hstart hm) hn hs hr).trans (if_pos ((far_iff _ _).mpr hfar)))

end Sys2Proof.Machine
end

section
/-! PROOFS. The attention timer, what is activity to it, and the inputs that only watch (09 R156, R157, R161 to
R163). -/

namespace Sys2Proof.Machine

section Attention

variable {s : State}

/-! ## Activity (09 R162) -/

theorem activity_eq_ite (s : State) :
    activity s = if s.attention.state = .disarmed then s else s.loadAttention := by
  cases h : s.attention.state <;> simp [activity, h]

theorem activityFrom_eq_ite (n : Nat) (s : State) : activityFrom n s =
    if s.attention.state ≠ .disarmed ∧ s.sourceEnabled n = true then s.loadAttention else s := by
  rw [activityFrom, activity_eq_ite]
  split_ifs <;> tauto

/-- One source after others: it loads the timer where they have not, and what is loaded stays. -/
theorem activityFrom_after (n : Nat) (p q : Prop) [Decidable p] [Decidable q] (s : State) :
    (if p then activityFrom n (if q then s.loadAttention else s) else if q then s.loadAttention else s)
      = if q ∨ (p ∧ s.attention.state ≠ .disarmed ∧ s.sourceEnabled n = true) then s.loadAttention else s := by
  have hloaded : activityFrom n s.loadAttention = s.loadAttention := by
    rw [activityFrom_eq_ite]; exact ite_self _
  by_cases hq : q
  · simp [hq, hloaded]
  · by_cases hp : p <;> simp [hp, hq, activityFrom_eq_ite]

/-- An executed request is activity by its code, its answer and the sources enabled (09 R162). -/
theorem requestActivity_eq_ite (r : Request) (y : Reply) (s : State) : requestActivity r y s =
    if s.attention.state ≠ .disarmed ∧ (s.sourceEnabled 5 = true ∨ (callCode r.call = 0x33 ∧ s.sourceEnabled 3 = true)
      ∨ (callCode r.call = 0x32 ∧ y.code ≠ .ok ∧ s.sourceEnabled 4 = true))
    then s.loadAttention else s := by
  have hconfirm := activityFrom_after 3 (callCode r.call = 0x33) False s
  have hresume := activityFrom_after 4 (callCode r.call = 0x32 ∧ y.code ≠ .ok)
    (False ∨ (callCode r.call = 0x33 ∧ s.attention.state ≠ .disarmed ∧ s.sourceEnabled 3 = true)) s
  simp only [if_false] at hconfirm
  have hany := activityFrom_after 5 True
    ((False ∨ (callCode r.call = 0x33 ∧ s.attention.state ≠ .disarmed ∧ s.sourceEnabled 3 = true))
      ∨ ((callCode r.call = 0x32 ∧ y.code ≠ .ok) ∧ s.attention.state ≠ .disarmed ∧ s.sourceEnabled 4 = true)) s
  rw [if_pos trivial] at hany
  unfold requestActivity
  dsimp only
  rw [hconfirm, hresume, hany]
  exact if_congr (by tauto) rfl rfl

/-! ## The timer follows the sequencer (09 R161) -/

theorem attentive_iff (q : SeqState) : q.attentive = true ↔ q = .indexing ∨ q = .measuring ∨ q = .correcting
    ∨ q = .tamping ∨ q = .releasing ∨ q = .hold := by
  cases q <;> decide

theorem followAttention_arms {before : State} (hb : before.seq.state.attentive = false)
    (ha : s.seq.state.attentive = true) : followAttention before s = s.loadAttention := by
  simp [followAttention, hb, ha]

theorem followAttention_disarms {before : State} (hb : before.seq.state.attentive = true)
    (ha : s.seq.state.attentive = false) :
    followAttention before s = s.setAttention { s.attention with state := .disarmed } := by
  simp [followAttention, hb, ha]

/-! ## The inputs that only watch -/

theorem takeChain_closed (s : State) : takeChain true s = s.setInputs { s.inputs with chainClosed := true } := by
  simp [takeChain]

theorem takeChain_open_again (h : s.inputs.chainClosed = false) : takeChain false s = s := by
  have hi : { s.inputs with chainClosed := false } = s.inputs := by rw [← h]
  simp [takeChain, h, hi]

theorem expireAttention_running (h : s.attention.state = .running) : expireAttention s =
    { s with attention := ⟨.lapsedOnce, s.params.attentionPeriod⟩, latches := s.latches ||| 0x20 } := by
  rw [expireAttention, h]
  rfl

theorem exec_operatorInputActive (input : OperatorInput) (h : s.resetLow = false) :
    exec (.operatorInputActive input) s = .next (activityFrom (operatorSource input) s) := by
  have hkeeps := activityFrom_eq (operatorSource input) s
  exact congrArg _ (event_quiet h (by rw [hkeeps]; rfl) (by rw [hkeeps]; rfl) (by rw [hkeeps]; rfl))

/-! ## A RESUME that is taken (06 R111) -/

theorem resumed_readmit (hq : s.seq.state = .hold) (hr : s.seq.hold = some .attentionLapse ∨ s.seq.hold = some .aborted
    ∨ s.seq.hold = some .positionFault) : resumed s = some (readmit (activity s)) := by
  rcases hr with hr | hr | hr <;> simp [resumed, hq, hr, resumeHold]

theorem takeAction_queued (a : Option ResumeAction) (s : State) (r : Request) :
    takeAction a (s.queued r) = (takeAction a s).queued r :=
  queued_comm (f := takeAction a) (by simp) (by simp) s r

theorem modSeq_queued (f : Sequencer → Sequencer) (s : State) (r : Request) :
    (s.queued r).modSeq f = (s.modSeq f).queued r := rfl

theorem resumeHold_queued (h : HoldReason) (s : State) (r : Request) :
    resumeHold h (s.queued r) = (resumeHold h s).map (·.queued r) := by
  have hseq : (s.queued r).seq = s.seq := rfl
  cases h <;> simp only [resumeHold, modSeq_queued, readmit_queued, takeAction_queued, hseq, Option.map]

theorem resumed_queued (s : State) (r : Request) : resumed (s.queued r) = (resumed s).map (·.queued r) := by
  have hseq : (s.queued r).seq = s.seq := rfl
  unfold resumed
  rw [hseq, activity_queued]
  split
  · rw [resumeAdvance_queued]; rfl
  · exact resumeHold_queued _ _ r
  · rfl

/-- A RESUME taken on a ready link: what its reason asks for, then the end of the event. -/
theorem resume_taken {x : State} (h : s.linkReady) (tag : Byte) (hx : resumed s = some x) :
    ∃ t, exec (.resume tag) s = .next t ∧ t.reportOf (s.moved ⟨tag, .resume⟩ (.plain .ok) (settle x)) := by
  obtain ⟨-, -, -, -, hlink, -⟩ := resumed_keeps hx
  refine ⟨_, rfl, request_settled h nofun ?_ hlink⟩
  change resumeRun _ = _
  rw [resumeRun, resumed_queued, hx]
  rfl

/-- After such a RESUME the timer runs with the period of the parameters, where the run still stands in a state in
which it runs (09 R161, R162). -/
theorem resume_readmit_attention (h : s.linkReady) (tag : Byte) (hq : s.seq.state = .hold)
    (ha : s.attention.state ≠ .disarmed) (hr : s.seq.hold = some .attentionLapse ∨ s.seq.hold = some .aborted
      ∨ s.seq.hold = some .positionFault) :
    ∃ t, exec (.resume tag) s = .next t
      ∧ (t.seq.state.attentive = true → t.attention = ⟨.running, s.params.attentionPeriod⟩) := by
  obtain ⟨t, ht, hreport⟩ := resume_taken h tag (resumed_readmit hq hr)
  refine ⟨t, ht, fun hrun => ?_⟩
  obtain ⟨-, -, -, -, -, -, -, -, -, -, -, hseq, -, -, -, -, hattention, -⟩ := State.reportOf_keeps hreport
  have hload : activity s = s.loadAttention := by rw [activity_eq_ite, if_neg ha]
  have hx : (settle (readmit (activity s))).attention = ⟨.running, s.params.attentionPeriod⟩
      ∧ (settle (readmit (activity s))).params = s.params := by simp [hload, State.loadAttention]
  have hsame : ((settle (readmit (activity s))).replied ⟨tag, .resume⟩ (.plain .ok)).seq.state.attentive
      = s.seq.state.attentive := by
    have hs : t.seq = (settle (readmit (activity s))).seq := by
      rw [hseq]; simp [State.moved, State.replied]
    rw [hs] at hrun
    rw [hq]
    exact hrun
  rw [hattention, State.moved, followAttention_same hsame, requestActivity_eq_ite]
  split_ifs
  · exact congrArg _ (congrArg _ hx.2)
  · exact hx.1

end Attention

/-- Settles O49: the timer and the watches by their events, activity and the arming as equations. -/
theorem attentionTimerAndWatches : Obligations.AttentionTimerAndWatches := by
  intro s input hreset bit
  have hbit : (BitVec.ofInt 6 s.params.attentionSources).getLsbD bit = s.sourceEnabled (operatorSource input) := by
    cases input <;> rfl
  refine ⟨fun ha => ⟨?_, ?_⟩, fun ha => ⟨_, rfl, ?_⟩, fun ha => ?_, fun hs => ?_, ?_, fun hc => ?_,
    activity_eq_ite s, fun r y => requestActivity_eq_ite r y s, fun tag h hq ha hr => ?_, fun before => ?_⟩
  · exact congrArg _ (event_same (by rw [expireAttention, ha]))
  · rw [exec_operatorInputActive _ hreset, activityFrom_eq_ite, if_neg fun hc => hc.1 ha]
  · rw [← expireAttention_running ha]
    exact event_reportOf_same hreset (by rw [expireAttention_running ha])
  · rw [exec_operatorInputActive _ hreset, activityFrom_eq_ite, hbit]
    simp only [ne_eq, ha, not_false_eq_true, true_and]
    rfl
  · exact congrArg _ (event_same (by rw [expireAxisLine, if_pos hs]))
  · have ht := takeChain_closed s
    exact congrArg _ ((levelEvent_eq hreset).trans (event_eq_of_quiet hreset ht rfl rfl rfl))
  · exact congrArg _ ((levelEvent_eq hreset).trans (event_same (takeChain_open_again hc)))
  · obtain ⟨t, ht, hrun⟩ := resume_readmit_attention h tag hq ha hr
    exact ⟨t, ht, fun hs => hrun ((attentive_iff _).mpr hs)⟩
  · simp only [← attentive_iff]
    refine ⟨fun hb hs => followAttention_arms (by simpa using hb) hs,
      fun hb hs => followAttention_disarms hb (by simpa using hs), fun hb => followAttention_same ?_⟩
    exact Bool.eq_iff_iff.mpr hb.symm

end Sys2Proof.Machine
end

section
/-! PROOFS. The recording of a sleeper and the outcome it is recorded with (05 R94, 06 R106, R107, 10 R165 to R170). -/

namespace Sys2Proof.Machine

/-! ## The outcome of a sleeper that reached TAMPING (06 R107) -/

theorem mem_headList (i : Fin 4) : i ∈ headList := by fin_cases i <;> decide

theorem HeadRecord.completed_iff (h : HeadRecord) :
    h.completed = true ↔ h.outcome = some .complete ∨ h.outcome = some .timeLimited := decide_eq_true_iff

/-- No head left over, and no head done, as statements about the engaged heads. -/
theorem engaged_filter_eq_nil (c : Context) (test : Fin 4 → Bool) :
    headList.filter (fun i => c.engaged i && test i) = [] ↔ ∀ i : Fin 4, c.engaged i = true → ¬test i = true := by
  simp [List.filter_eq_nil_iff, mem_headList]

/-- Settles O34: the two lists of engaged heads, done and left over, are empty or not. -/
theorem outcomeSelectedFromHeads : Obligations.OutcomeSelectedFromHeads := by
  intro c heads ⟨j, hj⟩ done
  have hdone (i : Fin 4) : done i ↔ (heads.get i).completed = true := (heads.get i).completed_iff.symm
  have hall := engaged_filter_eq_nil c fun i => !(heads.get i).completed
  have hnone := engaged_filter_eq_nil c fun i => (heads.get i).completed
  simp only [Bool.not_eq_true', Bool.not_eq_false] at hall
  simp only [hdone, tampOutcome, hall, hnone]
  by_cases ha : ∀ i : Fin 4, c.engaged i = true → (heads.get i).completed = true
  · have hn : ¬∀ i : Fin 4, c.engaged i = true → ¬(heads.get i).completed = true := fun hn => hn j hj (ha j hj)
    simp only [if_pos ha, reduceCtorEq, true_iff, false_iff]
    exact ⟨ha, hn, fun ⟨_, i, hi, hi'⟩ => hi' (ha i hi)⟩
  · by_cases hn : ∀ i : Fin 4, c.engaged i = true → ¬(heads.get i).completed = true
    · simp only [if_neg ha, if_pos hn, reduceCtorEq, true_iff, false_iff]
      exact ⟨ha, hn, fun ⟨⟨i, hi, hi'⟩, _⟩ => hn i hi hi'⟩
    · simp only [if_neg ha, if_neg hn, reduceCtorEq, true_iff, false_iff]
      push Not at ha hn
      obtain ⟨i, hi, hi'⟩ := ha
      exact ⟨fun h => hi' (h i hi), fun h => hn.elim fun k hk => h k hk.1 hk.2, hn, i, hi, hi'⟩

/-! ## What a recording leaves (06 R106) -/

theorem Counters.get_bump (c : Counters) (k j : Counter) :
    (c.bump k).get j = if j = k then min 65535 (c.get j + 1) else c.get j := by
  split
  · next h => rw [h]; exact c.get_bump_self k
  · next h => exact c.get_bump_of_ne h

/-- The sleeper counter of an outcome, one of four. -/
theorem eq_counter_iff (k : Counter) (o : SleeperOutcome) : k = o.counter ↔
    (k = .sleepersTamped ∧ (o = .tamped ∨ o = .partly)) ∨ (k = .sleepersNotTamped ∧ o = .notTamped)
      ∨ (k = .sleepersSkipped ∧ (o = .skipped ∨ o = .skippedNoArms)) ∨ (k = .sleepersAborted ∧ o = .aborted) := by
  cases o <;> simp [SleeperOutcome.counter]

theorem counter_ne_limited (o : SleeperOutcome) : o.counter ≠ .correctionsLimited := by cases o <;> decide

section Recording

variable {s : State} {c : Context}

theorem recordSleeper_counter (h : s.seq.context = some c) (o : SleeperOutcome) (k : Counter) :
    (recordSleeper o s).counters.get k =
      if k = o.counter ∨ (k = .correctionsLimited ∧ c.flags &&& limitedFlags ≠ 0) then
        min 65535 (s.counters.get k + 1)
      else s.counters.get k := by
  rw [recordSleeper_counters h, Counters.get_bump]
  by_cases hf : c.flags &&& limitedFlags = 0
  · rw [if_pos hf]
    exact if_congr (by tauto) rfl rfl
  · rw [if_neg hf, Counters.get_bump]
    by_cases hk : k = o.counter
    · rw [if_pos hk, if_neg (hk ▸ counter_ne_limited o), if_pos (.inl hk)]
    · rw [if_neg hk]
      exact if_congr (by tauto) rfl rfl

theorem noteResults_latches (s : State) : (noteResults s).latches =
    s.latches ||| (if s.params.resultsThreshold ≤ s.results.length then 0x10 else 0) := by
  unfold noteResults
  split
  · rfl
  · exact (BitVec.or_zero ..).symm

theorem noteLimited_latches (m : BitVec 16) (s : State) : (noteLimited m s).latches =
    s.latches ||| (if m &&& limitedFlags ≠ 0 then 0x80 else 0) := by
  unfold noteLimited
  rw [ite_not]
  split
  · exact (BitVec.or_zero ..).symm
  · rfl

theorem recordSleeper_latches (h : s.seq.context = some c) (o : SleeperOutcome) :
    (recordSleeper o s).latches = s.latches
      ||| (if s.params.resultsThreshold ≤ s.results.length + 1 then 0x10 else 0)
      ||| (if c.flags &&& limitedFlags ≠ 0 then 0x80 else 0) := by
  simp [recordSleeper, h, noteLimited_latches, noteResults_latches]

theorem commits_iff (o : SleeperOutcome) : o.commits = true ↔ o = .tamped ∨ o = .partly := by cases o <;> decide

theorem isSkip_iff (o : SleeperOutcome) : o.isSkip = true ↔ o = .skipped ∨ o = .skippedNoArms := by
  cases o <;> decide

/-- The heads of a result record: no work where the sleeper was skipped, else what each head did (10 R167). -/
theorem formResult_head (c : Context) (heads : Quad HeadRecord) (o : SleeperOutcome) (i : Fin 4) :
    (formResult c heads o).heads.get i = if o = .skipped ∨ o = .skippedNoArms then ⟨.notEngaged, 0, 0, 0⟩
      else ⟨(heads.get i).outcome.getD .aborted, (heads.get i).begun, (heads.get i).depth, (heads.get i).peak⟩ := by
  simp only [formResult, ← isSkip_iff]
  split
  · exact Quad.get_all4 ..
  · exact Quad.get_map ..

/-- Settles O33: the recording block by block. -/
theorem recordingEntersOneResult : Obligations.RecordingEntersOneResult := by
  intro s c o h t limited
  obtain ⟨hseq, hresults, hcomputer⟩ := recordSleeper_of_context h o
  refine ⟨hresults, hseq, recordSleeper_latches h o, fun k => ?_, fun x hx ho => ?_, fun hx => ?_,
    ⟨rfl, rfl, rfl, rfl, rfl, rfl, rfl, rfl, decide_eq_true_iff, rfl, formResult_head c s.heads o⟩, ?_⟩
  · rw [recordSleeper_counter h]
    refine if_congr ?_ rfl rfl
    rw [eq_counter_iff, or_assoc, or_assoc, or_assoc]
    rfl
  · rw [hcomputer, hx]
    exact if_pos ((commits_iff o).mpr ho)
  · rw [hcomputer]
    rcases hx with hx | hx
    · rw [hx]; rfl
    · cases hc : c.correction with
      | none => rfl
      | some x => exact if_neg fun ho => ((commits_iff o).mp ho).elim hx.1 hx.2
  · simp [t, State.keepsStores]

end Recording
end Sys2Proof.Machine
end

section
/-! PROOFS. An admission: its four checks in their order, the context it forms, and what it does with the sleeper
(02 R34, R42, 06 R100, R101, 07 R124). -/

namespace Sys2Proof.Machine

section Admission

variable {s : State} {r : SleeperRecord} {pos : Pos}

/-! ## The four checks (06 R100) -/

theorem admitSleeper_resultFull (h : 32 ≤ s.results.length + s.seq.reservation) :
    admitSleeper s = enterHold .resultFull s := if_pos h

theorem admitSleeper_attentionLapse (hr : s.results.length + s.seq.reservation < 32)
    (h : s.attention.state = .lapsedOnce) : admitSleeper s = enterHold .attentionLapse s :=
  (if_neg (Nat.not_le.mpr hr)).trans (if_pos h)

theorem admitSleeper_detectionLost (hr : s.results.length + s.seq.reservation < 32)
    (ha : s.attention.state ≠ .lapsedOnce) (h : 3 ≤ s.seq.missCount) :
    admitSleeper s = enterHold .detectionLost s :=
  (if_neg (Nat.not_le.mpr hr)).trans ((if_neg ha).trans (if_pos h))

theorem admitSleeper_measureLost (hr : s.results.length + s.seq.reservation < 32)
    (ha : s.attention.state ≠ .lapsedOnce) (hm : s.seq.missCount < 3) (h : 3 ≤ s.seq.degradedCount) :
    admitSleeper s = enterHold .measureLost s :=
  (if_neg (Nat.not_le.mpr hr)).trans ((if_neg ha).trans ((if_neg (Nat.not_le.mpr hm)).trans (if_pos h)))

theorem admitSleeper_admits (hr : s.results.length + s.seq.reservation < 32)
    (ha : s.attention.state ≠ .lapsedOnce) (hm : s.seq.missCount < 3) (hd : s.seq.degradedCount < 3)
    (hadm : s.admitted = some r) (hw : s.plan.workhead = some pos) :
    admitSleeper s = workContext (takeContext r pos s) := by
  have hr : ¬resultSlots ≤ s.results.length + s.seq.reservation := Nat.not_le.mpr hr
  rw [admitSleeper, if_neg hr, if_neg ha, if_neg (Nat.not_le.mpr hm), if_neg (Nat.not_le.mpr hd), hadm, hw]

/-! ## The context taken (06 R101 step 5) -/

/-- The context an admission forms. -/
def State.admissionContext (s : State) (r : SleeperRecord) (pos : Pos) : Context :=
  formContext s r pos s.seq.kind (s.plan.computeFront s.params.chordFront).2

theorem takeContext_seq (r : SleeperRecord) (pos : Pos) (s : State) : (takeContext r pos s).seq =
    { s.seq with context := some (s.admissionContext r pos), reservation := 1, skipPending := false } := by
  simp [takeContext, State.admissionContext]

theorem takeContext_context (r : SleeperRecord) (pos : Pos) (s : State) :
    (takeContext r pos s).seq.context = some (s.admissionContext r pos) := by rw [takeContext_seq]

theorem takeContext_plan (r : SleeperRecord) (pos : Pos) (s : State) :
    (takeContext r pos s).plan = (s.plan.computeFront s.params.chordFront).1 ∧ (takeContext r pos s).manualMask = none := by
  simp [takeContext]

/-- Each head takes up the sleeper by the order it reads in the context (07 R124). -/
theorem takeContext_head (r : SleeperRecord) (pos : Pos) (s : State) (i : Fin 4) :
    (takeContext r pos s).heads.get i = (s.heads.get i).takeUp ((s.admissionContext r pos).order i) := by
  unfold takeContext State.headsTakeUp
  rw [State.stepHeads_get]
  rfl

theorem stepHeads_quiet_lining (f : HeadEnv → HeadRecord → HeadRecord) (s : State) :
    (s.stepHeads (quiet f)).lining = s.lining := rfl

theorem takeContext_lining (r : SleeperRecord) (pos : Pos) (s : State) : (takeContext r pos s).lining = s.lining :=
  stepHeads_quiet_lining ..

/-- What follows by the settings of the context (06 R101 steps 6 to 9). -/
theorem workContext_of_context {c : Context} (h : s.seq.context = some c) : workContext s =
    if c.skip then afterRecording (recordSleeper .skipped s)
    else if c.enabled = 0 then afterRecording (recordSleeper .skippedNoArms s)
    else if c.confirm then enterHold .confirmWait s
    else enterMeasuring c s := by
  rw [workContext, h]

end Admission

/-- Settles O36: the checks as nested conditions, then the context block by block. -/
theorem admissionChecksThenWorks : Obligations.AdmissionChecksThenWorks := by
  intro s held
  refine ⟨admitSleeper_resultFull, fun hr => ⟨admitSleeper_attentionLapse hr, fun ha =>
    ⟨admitSleeper_detectionLost hr ha, fun hm => ⟨admitSleeper_measureLost hr ha hm, ?_⟩⟩⟩⟩
  intro r pos hd hw hadm front c x
  obtain ⟨hplan, hmask⟩ := takeContext_plan r pos s
  exact ⟨takeContext_seq r pos s, hmask, hplan, takeContext_head r pos s, by simp [x], by simp [x],
    takeContext_lining r pos s,
    (admitSleeper_admits hr ha hm hd hadm hw).trans (workContext_of_context (takeContext_context r pos s))⟩

end Sys2Proof.Machine
end

section
/-! PROOFS. The steps that follow a recording: the end of the run, the pause, the next record and the crossing (01 R15,
R20, R25, 06 R108, R109). -/

namespace Sys2Proof.Machine

section Continues

variable {s : State} {w : Pos}

/-! ## The end of a page (01 R25) -/

theorem atEnd_iff (hw : s.plan.workhead = some w) : s.plan.atEnd = true ↔
    (s.plan.page w.page).endFlag = true ∧ w.index + 1 = (s.plan.page w.page).count := by
  simp [PlanStore.atEnd, hw]

theorem endRun_page (p : PlanStore) (n : Fin 4) : p.endRun.page n = (p.page n).worked := Quad.get_map ..

theorem stopRun_page (p : PlanStore) (n : Fin 4) : p.stopRun.page n = (p.page n).returned := Quad.get_map ..

/-! ## Where the run goes (06 R108) -/

/-- The advance taken: INDEXING on the record the workhead moved to. -/
def State.advanced (s : State) (q : PlanStore) : State :=
  { s with
    plan := q
    chainage := { s.chainage with move := s.chainage.move.clear }
    seq := { s.seq with state := .indexing, hold := none, advanceOwed := false, kind := .normal } }

/-- The advance refused: HOLD(PLAN_EXHAUSTED) with PAGE_NEEDED. -/
def State.exhausted (s : State) (q : PlanStore) : State :=
  { s with
    plan := q
    seq := { s.seq with state := .hold, hold := some .planExhausted }
    latches := s.latches ||| 0x08 ||| 0x01 }

theorem advanceRun_eq {q : PlanStore} {b : Bool} (h : s.plan.advance s.params.chordFront = (q, b)) :
    advanceRun s = if b then s.advanced q else s.exhausted q := by
  rw [advanceRun, h]
  cases b <;> rfl

/-- The advance owed from the recording on (06 R108 step 1). -/
def State.owed (s : State) : State := s.setSeq { s.seq with advanceOwed := true }

theorem afterRecording_ended (h : s.plan.atEnd = true) : afterRecording s = enterEnded s.owed := if_pos h

theorem afterRecording_paused (h : ¬s.plan.atEnd = true) (hp : s.seq.pausePending = true) :
    afterRecording s = s.setSeq { s.seq with
      state := .paused, hold := none, pausePending := false, advanceOwed := true } :=
  (if_neg h).trans (if_pos hp)

theorem afterRecording_advances {q : PlanStore} {b : Bool} (h : ¬s.plan.atEnd = true) (hp : s.seq.pausePending = false)
    (ha : s.plan.advance s.params.chordFront = (q, b)) :
    afterRecording s = if b then s.advanced q else s.owed.exhausted q := by
  have hadvance : afterRecording s = advanceRun s.owed :=
    (if_neg h).trans (if_neg (by simp [hp]))
  rw [hadvance, advanceRun_eq (s := s.owed) ha]
  rfl

/-! ## The advance of the workhead pointer (01 R15) -/

theorem advance_next (hw : s.plan.workhead = some w) (h : w.index + 1 < (s.plan.page w.page).count) (f : Int) :
    s.plan.advance f = (({ s.plan with workhead := some ⟨w.page, w.index + 1⟩ }.computeFront f).1, true) := by
  rw [PlanStore.advance, hw]
  exact if_pos h

theorem advance_crosses (hw : s.plan.workhead = some w) (h : (s.plan.page w.page).count ≤ w.index + 1) (f : Int) :
    s.plan.advance f = s.plan.cross w f := by
  rw [PlanStore.advance, hw]
  exact if_neg (Nat.not_lt.mpr h)

end Continues

/-- Settles O35: the end of the page first, then the pause, then the advance by what the crossing answers. -/
theorem runContinuesAfterRecording : Obligations.RunContinuesAfterRecording := by
  intro s w hw t last
  refine ⟨fun he hl => ?_, fun h hp => afterRecording_paused (fun ha => h ((atEnd_iff hw).mp ha)) hp,
    fun hi hp => ?_, fun he hc hp hsucc => ?_, fun a b he hc hp hsucc ha hb => ⟨fun hab => ?_, fun hba => ?_⟩⟩
  · have ht : t = _ := afterRecording_ended ((atEnd_iff hw).mpr ⟨he, hl⟩)
    rw [ht]
    refine ⟨rfl, rfl, rfl, fun n hn => ?_, fun n hn => ?_, rfl, rfl, rfl, rfl, rfl, rfl⟩
    · exact (endRun_page s.plan n).trans (if_pos hn)
    · exact (endRun_page s.plan n).trans (if_neg hn)
  · have hend : ¬s.plan.atEnd = true := fun ha => absurd ((atEnd_iff hw).mp ha).2 (Nat.ne_of_lt hi)
    have ht : t = _ := afterRecording_advances hend hp (advance_next hw hi _)
    obtain ⟨hrecords, hworkhead⟩ := PlanStore.computeFront_keeps
      { s.plan with workhead := some ⟨w.page, w.index + 1⟩ } s.params.chordFront
    rw [ht]
    exact ⟨hworkhead, fun m i => hrecords.at? m i, rfl, rfl, rfl⟩
  all_goals
    have hend : ¬s.plan.atEnd = true := fun ha => by simp [((atEnd_iff hw).mp ha).1] at he
  · have hwork : (s.plan.page (w.page + 1)).workable = false := by
      rcases hsucc with hs | hs <;> simp [Page.workable, hs]
    have ht : t = _ := afterRecording_advances hend hp ((advance_crosses hw hc _).trans (cross_needs_page hwork))
    rw [ht]
    exact ⟨rfl, rfl, rfl⟩
  · have hwork := (Page.workable_iff _).mpr hsucc
    have hord : inOrder (s.plan.page w.page) (s.plan.page (w.page + 1)) = true := by
      simpa [inOrder_eq_decide ha hb]
    have htaken : s.plan.cross w s.params.chordFront = ((s.plan.cross w s.params.chordFront).1, true) := by
      rw [cross_taken hwork hord]
    have ht : t = _ := afterRecording_advances hend hp ((advance_crosses hw hc _).trans htaken)
    obtain ⟨hworkhead, hleft, -⟩ := cross_taken_pages (c := s.params.chordFront) hwork hord
    exact ⟨ht, by rw [ht]; exact hworkhead, by rw [ht]; exact hleft⟩
  · have hord : inOrder (s.plan.page w.page) (s.plan.page (w.page + 1)) = false := by
      simpa [inOrder_eq_decide ha hb]
    exact afterRecording_advances hend hp
      ((advance_crosses hw hc _).trans (cross_refused ((Page.workable_iff _).mpr hsucc) hord))

end Sys2Proof.Machine
end

section
/-! PROOFS. The orders to the unit: release, abort and STOP_RUN as the statements write them, and what a release goes on
to once the unit is OPEN (06 R105, 08 R140, R149, R151). -/

namespace Sys2Proof.Machine

/-! ## The orders themselves -/

section Orders

variable (i : Inputs) (held : Track Int) (waiting : Quad Bool) (u : LiningUnit)

theorem AxisStatus.halt_eq (a : AxisStatus) : a.halt = if a = .waiting ∨ a = .moving then .halted else a := by
  cases a <;> rfl

theorem clampsOpen_iff : i.clampsOpen = true ↔ i.clampClosed = ⟨false, false, false⟩ := by
  obtain ⟨-, ⟨l, r, k⟩, -, -, -⟩ := i
  simp [Inputs.clampsOpen, and_assoc]

/-- Clamps sensed open are not sensed closed. -/
theorem clampsClosed_of_open (h : i.clampClosed = ⟨false, false, false⟩) (hook : Bool) :
    i.clampsClosed hook = false := by
  simp [Inputs.clampsClosed, h]

theorem haltAll_eq : u.haltAll held = axesHalted held u := by
  have hhalt : AxisStatus.halt = fun a => if a = .waiting ∨ a = .moving then .halted else a :=
    funext AxisStatus.halt_eq
  rw [LiningUnit.haltAll, hhalt]
  rfl

theorem release_eq : u.release i held = releaseOrder i held u := by
  simp only [LiningUnit.release, haltAll_eq, releaseOrder, clampsOpen_iff]

theorem abort_eq : u.abort held waiting = abortOrder held waiting u := by
  cases hu : u.state <;>
    simp [LiningUnit.abort, LiningUnit.abandon, LiningUnit.releaseLater, abortOrder, haltAll_eq, hu]

theorem stopRun_eq : u.stopRun held waiting = stopRunOrder held waiting u := by
  rw [LiningUnit.stopRun, abort_eq]
  rfl

theorem releaseOrder_marks : (releaseOrder i held u).releaseAfterHeads = false
    ∧ (releaseOrder i held u).frozen = false ∧ (releaseOrder i held u).clampPending = u.clampPending
    ∧ (releaseOrder i held u).hookConcerned = u.hookConcerned ∧ (releaseOrder i held u).settings = u.settings :=
  ⟨rfl, rfl, rfl, rfl, rfl⟩

theorem releaseOrder_isOpen_iff :
    (releaseOrder i held u).state = .isOpen ↔ i.clampClosed = ⟨false, false, false⟩ := by
  by_cases h : i.clampClosed = ⟨false, false, false⟩ <;> simp [releaseOrder, h]

theorem releaseOrder_state :
    (releaseOrder i held u).state = .isOpen ∨ (releaseOrder i held u).state = .releasing := by
  by_cases h : i.clampClosed = ⟨false, false, false⟩ <;> simp [releaseOrder, h]

end Orders

section Release

variable {s : State} {c : Context}

/-! ## A release in the state (08 R149) -/

/-- The state once the unit has its release order and live delivery has ended (04 R75, 08 R149). -/
def State.released (s : State) : State := endLive (s.setLining (releaseOrder s.inputs (heldTrack s) s.lining))

@[simp] theorem State.released_keeps (s : State) :
    s.released.lining = releaseOrder s.inputs (heldTrack s) s.lining ∧ s.released.seq = s.seq
      ∧ s.released.inputs = s.inputs ∧ s.released.plan = s.plan ∧ s.released.chainage = s.chainage
      ∧ s.released.heads = s.heads ∧ s.released.latches = s.latches := by
  simp [State.released]

theorem released_of_noWindow (h : s.measuring = .noWindow) :
    s.released = s.setLining (releaseOrder s.inputs (heldTrack s) s.lining) := endLive_of_noWindow h

theorem releaseUnit_eq (s : State) :
    releaseUnit s = if s.released.lining.state = .isOpen then reportOpen s.released else s.released := by
  have hr : s.released = endLive (s.modLining fun u => u.release s.inputs s.trackSensed) := by
    rw [State.modLining_eq, release_eq]; rfl
  rw [hr]
  rfl

theorem releaseUnit_releasing (h : (releaseOrder s.inputs (heldTrack s) s.lining).state = .releasing) :
    releaseUnit s = s.released := by
  rw [releaseUnit_eq, if_neg (by simp [h])]

theorem releaseUnit_opens (h : (releaseOrder s.inputs (heldTrack s) s.lining).state = .isOpen) :
    releaseUnit s = reportOpen s.released := by
  rw [releaseUnit_eq, if_pos (by simp [h])]

/-! ## The report of OPEN (06 R105, 08 R149) -/

theorem reportOpen_pending (h : s.lining.clampPending = true) : reportOpen s = clampUnit s := if_pos h

theorem reportOpen_rests (hp : s.lining.clampPending = false) (h : s.seq.state ≠ .releasing) : reportOpen s = s :=
  (if_neg (by simp [hp])).trans (if_neg h)

theorem reportOpen_window (hp : s.lining.clampPending = false) (h : s.seq.state = .releasing)
    (hc : s.seq.context = some c) : reportOpen s = s.setMeasuring (.window (.fresh .final c)) := by
  simp [reportOpen, hp, h, hc, openWindow]

theorem reportOpen_retry (hp : s.lining.clampPending = false) (h : s.seq.state = .releasing)
    (hc : s.seq.context = none) : reportOpen s = continueRun s := by
  simp [reportOpen, hp, h, hc]

/-- A clamp pending is taken with every clamp still open: CLAMPING, and no window opens yet (08 R140). -/
theorem clampUnit_of_open (h : s.inputs.clampClosed = ⟨false, false, false⟩) :
    clampUnit s = s.setLining { s.lining with
      state := .clamping, command := ⟨true, true, s.lining.hookConcerned⟩
      clampTimer := some s.lining.settings.clampTime, clampPending := false } := by
  have hclosed := clampsClosed_of_open s.inputs h
  simp [clampUnit, LiningUnit.clamp, hclosed]

/-! ## What every release leaves -/

theorem clampUnit_marks (s : State) : (clampUnit s).lining.releaseAfterHeads = s.lining.releaseAfterHeads
    ∧ (clampUnit s).lining.frozen = s.lining.frozen ∧ (clampUnit s).seq = s.seq := by
  unfold clampUnit
  dsimp only
  split <;> simp [LiningUnit.clamp]

theorem reportOpen_marks (s : State) : (reportOpen s).lining.releaseAfterHeads = s.lining.releaseAfterHeads
    ∧ (reportOpen s).lining.frozen = s.lining.frozen := by
  obtain ⟨ha, hf, -⟩ := clampUnit_marks s
  unfold reportOpen
  split
  · exact ⟨ha, hf⟩
  · split
    · split <;> simp
    · exact ⟨rfl, rfl⟩

/-- A release leaves neither mark on the unit. -/
theorem releaseUnit_marks (s : State) :
    (releaseUnit s).lining.releaseAfterHeads = false ∧ (releaseUnit s).lining.frozen = false := by
  obtain ⟨ha, hf⟩ := reportOpen_marks s.released
  rw [releaseUnit_eq]
  split
  · exact ⟨ha.trans (by simp [releaseOrder]), hf.trans (by simp [releaseOrder])⟩
  · exact ⟨by simp [releaseOrder], by simp [releaseOrder]⟩

/-- Only a release retry, in RELEASING with no sleeper in flight, goes on with the run. -/
theorem releaseUnit_seq (h : s.seq.state ≠ .releasing ∨ s.seq.context ≠ none) : (releaseUnit s).seq = s.seq := by
  have hopen : (reportOpen s.released).seq = s.seq := by
    unfold reportOpen
    split
    · exact (clampUnit_marks _).2.2.trans (by simp)
    · split
      · next hq =>
        split
        · simp
        · next hc => simp only [State.released_keeps] at hq hc; exact absurd hc (h.resolve_left (· hq))
      · simp
  rw [releaseUnit_eq]
  split
  · exact hopen
  · simp

end Release

end Sys2Proof.Machine
end

section
/-! PROOFS. What follows at the end of an event: tamp start, releases, the release after heads, and the index move (03
R49, 06 R99, R103, R104, 08 R149, R151, R152). -/

namespace Sys2Proof.Machine

section Settle

variable {s : State} {c : Context}

/-! ## Each part where its condition stands -/

theorem Context.engagedAll_iff {heads : Quad HeadRecord} {test : HeadRecord → Bool} :
    c.engagedAll heads test = true ↔ ∀ i : Fin 4, c.engaged i = true → test (heads.get i) = true := by
  simp only [Context.engagedAll, List.all_eq_true, Bool.or_eq_true, Bool.not_eq_true']
  refine ⟨fun h i hi => (h i (mem_headList i)).resolve_left (by simp [hi]), fun h i _ => ?_⟩
  cases hi : c.engaged i with
  | false => exact .inl rfl
  | true => exact .inr (h i hi)

theorem doneWithPreparing_iff (h : HeadRecord) : h.doneWithPreparing = true ↔ h.state = .ready
    ∨ (h.state = .parked ∧ (h.outcome = some .traverseFault ∨ h.outcome = some .tiltFault)) := by
  simp [HeadRecord.doneWithPreparing]

theorem finishedParked_iff (h : HeadRecord) : h.finishedParked = true ↔ h.state = .parked ∧ h.outcome ≠ none := by
  simp [HeadRecord.finishedParked, Option.isSome_iff_ne_none]

theorem beginTamping_begins (hc : s.seq.context = some c) (hq : s.seq.state = .correcting)
    (hu : s.lining.state = .holding)
    (hh : ∀ i : Fin 4, c.engaged i = true → (s.heads.get i).doneWithPreparing = true) :
    beginTamping s = (enterState .tamping s).headsTampStart := by
  rw [beginTamping, hc]
  exact if_pos ⟨hq, hu, Context.engagedAll_iff.mpr hh⟩

theorem endTamping_ends (hc : s.seq.context = some c) (hq : s.seq.state = .tamping)
    (hh : ∀ i : Fin 4, c.engaged i = true → (s.heads.get i).finishedParked = true) :
    endTamping s = releaseUnit (enterState .releasing s) := by
  rw [endTamping, hc]
  exact if_pos ⟨hq, Context.engagedAll_iff.mpr hh⟩

theorem releaseAfterHeads_due (h : s.lining.releaseAfterHeads = true) (ha : ∀ i : Fin 4, s.lining.awaited.get i = false) :
    releaseAfterHeads s = releaseUnit s := if_pos ⟨h, (Quad.anyTrue_false_iff _).mpr ha⟩

theorem releaseFrozen_due (hq : s.seq.state = .indexing) (hf : s.lining.frozen = true) (hu : s.lining.state ≠ .isOpen)
    (hp : ∀ i : Fin 4, (s.heads.get i).state = .parked) : releaseFrozen s = releaseUnit s :=
  if_pos ⟨hq, hf, hu, s.allParked_iff.mpr hp⟩

theorem releaseFrozen_of_running (h : s.lining.frozen = false) : releaseFrozen s = s := by simp [releaseFrozen, h]

theorem releaseFrozen_of_unparked {i : Fin 4} (h : (s.heads.get i).state ≠ .parked) : releaseFrozen s = s :=
  if_neg fun hr => h (s.allParked_iff.mp hr.2.2.2 i)

theorem startIndexMove_of_unparked {i : Fin 4} (h : (s.heads.get i).state ≠ .parked) : startIndexMove s = s := by
  unfold startIndexMove
  split
  · rfl
  · exact if_neg fun hr => h (s.allParked_iff.mp hr.2.2.2 i)

/-! ## The end of an event by the state of the sequencer -/

/-- The states that wait for nothing of the machine but a release after heads. -/
def SeqState.rests (q : SeqState) : Prop := q = .idle ∨ q = .measuring ∨ q = .hold ∨ q = .paused ∨ q = .ended

theorem SeqState.rests.ne {q : SeqState} (h : q.rests) :
    q ≠ .indexing ∧ q ≠ .correcting ∧ q ≠ .tamping ∧ q ≠ .releasing := by
  rcases h with rfl | rfl | rfl | rfl | rfl <;> decide

/-- The release that waited for the heads, where the state rests (08 R151). -/
theorem settle_releases (hq : s.seq.state.rests) (hr : s.lining.releaseAfterHeads = true)
    (ha : ∀ i : Fin 4, s.lining.awaited.get i = false) : settle s = releaseUnit s := by
  obtain ⟨hi, hc, ht, hrel⟩ := hq.ne
  have hdue := releaseAfterHeads_due hr ha
  rw [settle_of_state hc ht (by rw [hdue, releaseUnit_seq (.inl hrel)]; exact hi), hdue]

theorem settle_waits (hq : s.seq.state.rests) {i : Fin 4} (ha : s.lining.awaited.get i = true) : settle s = s := by
  obtain ⟨hi, hc, ht, -⟩ := hq.ne
  exact settle_of_quiet hi hc ht (releaseAfterHeads_of_awaited ha)

theorem settle_indexing (hq : s.seq.state = .indexing) :
    settle s = startIndexMove (releaseFrozen (releaseAfterHeads s)) := by
  rw [settle, beginTamping_same (by simp [hq]), endTamping_same (by simp [hq])]

/-- A release in INDEXING leaves the unit unfrozen, so that no second one follows. -/
theorem releaseFrozen_releaseUnit (s : State) : releaseFrozen (releaseUnit s) = releaseUnit s :=
  releaseFrozen_of_running (releaseUnit_marks s).2

/-- The release at the end of TAMPING is the last of its event (06 R104). -/
theorem settle_tamping_ends (hc : s.seq.context = some c) (hq : s.seq.state = .tamping)
    (hh : ∀ i : Fin 4, c.engaged i = true → (s.heads.get i).finishedParked = true) :
    settle s = releaseUnit (enterState .releasing s) := by
  have hseq : (releaseUnit (enterState .releasing s)).seq.state = .releasing := by
    rw [releaseUnit_seq (.inr (by simp [enterState, hc]))]; rfl
  rw [settle, beginTamping_same (by simp [hq]), endTamping_ends hc hq hh,
    releaseAfterHeads_same (releaseUnit_marks _).1, releaseFrozen_releaseUnit, startIndexMove_same (by simp [hseq])]

/-! ## The release order and the index move -/

theorem State.released_eq (s : State) : s.released = { s with
    lining := releaseOrder s.inputs (heldTrack s) s.lining
    measuring := match s.measuring with
      | .live _ => .noWindow
      | m => m } := by
  obtain ⟨_, _, _, _, _, _, _, _, _, _, m, _, _, _, _, _, _, _, _, _, _⟩ := s
  cases m <;> rfl

/-- The index move of INDEXING (03 R49, 06 R99). -/
theorem startIndexMove_eq {r : SleeperRecord} (hr : s.plan.workheadRecord = some r) (hq : s.seq.state = .indexing) :
    startIndexMove s =
      if s.lining.state = .isOpen ∧ s.chainage.move.demandActive = false
          ∧ ∀ i : Fin 4, (s.heads.get i).state = .parked then
        s.setChainage
          { s.chainage with
            move := { s.chainage.move with
              state := .firstMove, target := r.chainage + s.chainage.offset
              stopTolerance := s.params.stopTolerance, timer := some s.params.indexTime }
            line := some (.move (r.chainage + s.chainage.offset - s.chainage.running)) }
      else s := by
  rw [startIndexMove, hr]
  refine if_congr ?_ rfl rfl
  rw [s.allParked_iff]
  tauto

end Settle

/-- Settles O38: each part of the end of an event where it is due, then the release order by what the unit reports. -/
theorem phasesFollowOneAnother : Obligations.PhasesFollowOneAnother := by
  intro s
  refine ⟨fun hr hi hc ht => settle_of_quiet hi hc ht (releaseAfterHeads_same hr), fun hq hu hr =>
      settle_of_waiting (beginTamping_of_unit hu) (endTamping_same (by simp [hq])) (releaseAfterHeads_same hr)
        (by simp [hq]),
    fun c hc hq hu hh => ?_, fun c hc hq _ hh => ?_, fun hr ha => ⟨fun hq => settle_releases hq hr ha, fun hq => ?_⟩,
    fun _ ⟨i, hi⟩ hq => settle_waits hq hi, fun hq hr hf hu => ⟨fun hp => ?_, fun ⟨i, hi⟩ => ?_⟩, ?_,
    fun hq hr => ?_, fun r hr hq => startIndexMove_eq hr hq⟩
  · rw [settle, beginTamping_begins hc hq hu fun i hi => (doneWithPreparing_iff _).mpr (hh i hi)]
    rfl
  · exact settle_tamping_ends hc hq fun i hi => (finishedParked_iff _).mpr (hh i hi)
  · rw [settle_indexing hq, releaseAfterHeads_due hr ha, releaseFrozen_releaseUnit]
  · rw [settle_indexing hq, releaseAfterHeads_same hr, releaseFrozen_due hq hf hu hp]
  · rw [settle_indexing hq, releaseAfterHeads_same hr, releaseFrozen_of_unparked hi, startIndexMove_of_unparked hi]
  · intro order stopped
    have hrel : s.released = { s with lining := order, measuring := stopped } := s.released_eq
    have hpend : s.released.lining.clampPending = s.lining.clampPending := by rw [hrel]; rfl
    have hseq : s.released.seq = s.seq := by rw [hrel]
    refine ⟨fun ho => (releaseUnit_releasing ho).trans hrel, fun ho hp hq => ?_, fun c ho hp hq hc => ?_,
      fun ho hp hq hc howed => ?_, fun ho hp => ?_⟩
    all_goals rw [releaseUnit_opens ho]
    · rw [reportOpen_rests (hpend.trans hp) (by rwa [hseq]), hrel]
    · rw [reportOpen_window (hpend.trans hp) (by rwa [hseq]) (by rwa [hseq]), hrel]
      rfl
    · rw [reportOpen_retry (hpend.trans hp) (by rwa [hseq]) (by rwa [hseq]), hrel, afterRecording]
      have howed : { s.seq with advanceOwed := true } = s.seq := by rw [← howed]
      exact congrArg (fun q => continueRun { s with lining := order, measuring := stopped, seq := q }) howed.symm
    · rw [reportOpen_pending (hpend.trans hp), clampUnit_of_open (by
        rw [hrel]; exact (releaseOrder_isOpen_iff ..).mp ho), hrel]
      rfl
  · rw [settle_indexing hq, releaseAfterHeads_same hr]

end Sys2Proof.Machine
end

section
/-! PROOFS. START_RUN taken: the plan as the run begins, and the first MOVE (01 R14, 03 R49, 06 R97, R98). -/

namespace Sys2Proof.Machine

section Begins

variable {s : State} {n : Fin 4} {r : SleeperRecord}

/-! ## The plan in which a run begins (01 R14) -/

theorem PlanStore.begun_eq {p : PlanStore} {w : Pos} (h : (p.page w.page).workable = true) : p.begun w =
    { pages := .ofFn fun m : Fin 4 => { p.page m with
        orderFault := false, state := if m = w.page then .active else (p.page m).state }
      workhead := some w, front := none } := by
  have hcleared : ∀ m, PlanStore.page { p with pages := p.pages.map Page.faultCleared } m = (p.page m).faultCleared :=
    fun m => by simp [PlanStore.page]
  refine congrArg (fun q => PlanStore.mk q (some w) none) (Quad.ext_get fun m => ?_)
  show (PlanStore.setPage _ w.page _).page m = _
  rw [PlanStore.setPage_page, hcleared, hcleared, Page.entered_of_workable (by exact h), Quad.get_ofFn]
  by_cases hm : m = w.page <;> simp [hm, Page.faultCleared]

/-- The plan after START_RUN: the workhead on the starting record in an ACTIVE page, and every record where it was. -/
theorem startRun_plan {p : PlanStore} {w : Pos} {c : Int} (h : (p.page w.page).workable = true) (hr : p.at? w = some r) :
    (p.startRun w c).workhead = some w ∧ ((p.startRun w c).page w.page).state = .active
      ∧ (p.startRun w c).workheadRecord = some r
      ∧ ∀ (m : Fin 4) (i : Nat), ((p.startRun w c).page m).at? i = (p.page m).at? i := by
  have hent := begun_entered h
  obtain ⟨hrecords, hworkhead⟩ := (p.begun w).computeFront_keeps c
  have hat : ∀ (m : Fin 4) (i : Nat), ((p.startRun w c).page m).at? i = (p.page m).at? i := fun m i =>
    (hrecords.at? m i).trans (Page.at?_congr (hent.records m) i)
  have hw : (p.startRun w c).workhead = some w := hworkhead
  refine ⟨hw, PlanStore.computeFront_active (p.begun w) c w rfl (by rw [hent.state, if_pos rfl]), ?_, hat⟩
  rw [PlanStore.workheadRecord, hw]
  exact (hat w.page w.index).trans hr

/-! ## The first MOVE -/

/-- Nothing waits for a release where every head is PARKED. -/
theorem State.awaitLaw.not_releaseAfterHeads (h : s.awaitLaw) (hp : ∀ i : Fin 4, (s.heads.get i).state = .parked) :
    s.lining.releaseAfterHeads = false := by
  obtain ⟨hawaited, hsome⟩ := h
  by_contra hr
  have hnone : s.lining.awaited.anyTrue = false := (Quad.anyTrue_false_iff _).mpr fun i =>
    Bool.eq_false_iff.mpr fun hi => hawaited i hi (hp i)
  simp [hsome (by simpa using hr)] at hnone

/-- In INDEXING with the unit OPEN and the heads PARKED the move starts in the same event (03 R49, 06 R99). -/
theorem settle_moves (hq : s.seq.state = .indexing) (hu : s.lining.state = .isOpen)
    (hp : ∀ i : Fin 4, (s.heads.get i).state = .parked) (hr : s.lining.releaseAfterHeads = false)
    (hd : s.chainage.move.demandActive = false) (hw : s.plan.workheadRecord = some r) : settle s =
      s.setChainage
        { s.chainage with
          move := { s.chainage.move with
            state := .firstMove, target := r.chainage + s.chainage.offset
            stopTolerance := s.params.stopTolerance, timer := some s.params.indexTime }
          line := some (.move (r.chainage + s.chainage.offset - s.chainage.running)) } := by
  rw [settle_indexing hq, releaseAfterHeads_same hr, releaseFrozen_of_open hu, startIndexMove_eq hw hq,
    if_pos ⟨hu, hd, hp⟩]

/-- The run as its first event leaves it (03 R49, 06 R98, R99). -/
def State.runBegun (s : State) (w : Pos) (r : SleeperRecord) : State :=
  { s with
    plan := s.plan.startRun w s.params.chordFront
    computer := ⟨0, 0, 0, 0, 0, 0⟩
    chainage :=
      { running := s.chainage.running
        offset := 0
        move := ⟨.firstMove, r.chainage, none, none, s.params.stopTolerance, some s.params.indexTime⟩
        line := some (.move (r.chainage - s.chainage.running)) }
    seq := { s.seq with
      state := .indexing, hold := none, kind := .normal, pausePending := false
      skipPending := false, retained := none, advanceOwed := false, resumeAction := none
      missCount := 0, degradedCount := 0 } }

theorem beginRun_settled {w : Pos} (hu : s.lining.state = .isOpen)
    (hp : ∀ i : Fin 4, (s.heads.get i).state = .parked) (hr : s.lining.releaseAfterHeads = false)
    (hw : (s.plan.startRun w s.params.chordFront).workheadRecord = some r) :
    settle (beginRun w s) = s.runBegun w r := by
  have hmove := settle_moves (s := beginRun w s) (r := r) rfl hu hp hr rfl hw
  have hoffset : r.chainage + (beginRun w s).chainage.offset = r.chainage := add_zero _
  rw [hmove, hoffset]
  rfl

/-- A request that raises no latch adds no report to its event. -/
theorem request_silent {g : State} {q : Request} {y : Reply} (h : s.linkReady) (hq : q.call ≠ .restart)
    (hrun : runCall q.call (s.queued q) = (g.queued q, y)) (hlink : g.link = s.link) (hlat : g.latches = s.latches)
    (hen : g.params.reportEnable = s.params.reportEnable) : request q s = s.moved q y g := by
  rw [request_moved h hq hrun hlink, report_eq_of_not_due]
  apply dueReports_eq_zero
  · simpa [State.moved, State.replied] using hlat
  · simpa [State.moved, State.replied] using hen

/-- Such a request that arms the attention timer: its reply, and the timer running. -/
theorem request_arms {g : State} {q : Request} {y : Reply} (h : s.linkReady) (hq : q.call ≠ .restart)
    (hrun : runCall q.call (s.queued q) = (g.queued q, y)) (hlink : g.link = s.link) (hlat : g.latches = s.latches)
    (hen : g.params.reportEnable = s.params.reportEnable) (hb : s.seq.state.attentive = false)
    (ha : g.seq.state.attentive = true) : request q s = g.loadAttention.answered q y := by
  rw [request_silent h hq hrun hlink hlat hen, State.moved,
    followAttention_arms hb (by simpa [State.replied] using ha)]
  rfl

end Begins

/-- Settles O23: the run set up with the front computed, then the move that the end of the event starts. -/
theorem startRunBeginsIndexing : Obligations.StartRunBeginsIndexing := by
  intro s tag page index n r h hawait hstate hstop hchain hunit hparked hpage hready hrec hahead hbehind plan
  have hwork : (s.plan.page n).workable = true := (Page.workable_iff _).mpr (.inl hready)
  obtain ⟨hworkhead, hactive, hrecord, hat⟩ :=
    startRun_plan (w := ⟨n, index.toNat⟩) (c := s.params.chordFront) hwork hrec
  have hmay : (s.queued ⟨tag, .startRun page index⟩).MayStart := ⟨hstate, hstop, hchain, hunit, hparked⟩
  have hnear : ¬3000 < absInt (r.chainage - s.chainage.running) := fun hfar => by
    rcases (far_iff _ _).mp hfar with hf | hf <;> omega
  have hrun := (startRun_record hmay hpage hready hrec).trans (if_neg hnear)
  rw [beginRun_queued, settle_queued] at hrun
  rw [beginRun_settled hunit hparked (hawait.not_releaseAfterHeads hparked) hrecord] at hrun
  have hcalm : s.seq.state.attentive = false := by rcases hstate with hs | hs <;> rw [hs] <;> rfl
  refine ⟨congrArg _ (request_arms (q := ⟨tag, .startRun page index⟩) h nofun hrun rfl rfl rfl hcalm rfl), hworkhead,
    hactive, hrecord, ?_, hat⟩
  · intro w placed
    have hplaced : s.plan.begun w = placed := PlanStore.begun_eq (w := w) hwork
    have hent := begun_entered (pos := w) hwork
    refine ⟨by rw [← hplaced]; rfl, fun hwhole hc => ?_⟩
    rw [← hplaced]
    exact computeFront_computed rfl ((hent.at? w).trans hrec)
      ((Page.workable_iff _).mpr (.inr (by rw [hent.state, if_pos rfl]))) (hent.wholePages hwhole) hc

end Sys2Proof.Machine
end

section
/-! PROOFS. RESUME and RETAMP by the hold reason and the resume action (06 R111, R115). -/

namespace Sys2Proof.Machine

section Resumes

variable {s : State}

@[simp] theorem activity_seq (s : State) : (activity s).seq = s.seq := by rw [activity_eq]; rfl

/-- READMIT written out: the record admitted where it is POSITIONED, and INDEXING elsewhere (06 R111, R115). -/
def State.readmitted (x : State) : State :=
  let q := { x.seq with kind := if x.seq.advanceOwed then .retamp else .readmission, resumeAction := none }
  if x.chainage.move.state = .positioned then admitSleeper (x.setSeq q)
  else x.setSeq { q with state := .indexing, hold := none }

theorem readmit_eq (x : State) : readmit x = x.readmitted := rfl

theorem resumed_paused (hq : s.seq.state = .paused) :
    resumed s = some (advanceRun ((activity s).setSeq { s.seq with resumeAction := none })) := by
  simp only [resumed, hq, resumeAdvance, State.modSeq, activity_seq]

theorem resumed_hold {r : HoldReason} (hq : s.seq.state = .hold) (hr : s.seq.hold = some r) :
    resumed s = resumeHold r (activity s) := by simp only [resumed, hq, hr]

theorem resumed_detectionLost (hq : s.seq.state = .hold) (hr : s.seq.hold = some .detectionLost) :
    resumed s = some (readmit ((activity s).setSeq { s.seq with missCount := 0 })) := by
  rw [resumed_hold hq hr, ← activity_seq s]; rfl

theorem resumed_measureLost (hq : s.seq.state = .hold) (hr : s.seq.hold = some .measureLost) :
    resumed s = some (readmit ((activity s).setSeq { s.seq with degradedCount := 0 })) := by
  rw [resumed_hold hq hr, ← activity_seq s]; rfl

/-- HOLD(CLAMP_FAULT) and HOLD(STOP_CLEARED) do what the resume action says. -/
theorem resumed_action (hq : s.seq.state = .hold)
    (hr : s.seq.hold = some .clampFault ∨ s.seq.hold = some .stopCleared) :
    resumed s = some (takeAction s.seq.resumeAction (activity s)) := by
  have haction : (activity s).seq.resumeAction = s.seq.resumeAction := by rw [activity_seq]
  rcases hr with hr | hr <;> rw [resumed_hold hq hr, ← haction] <;> rfl

theorem retamp_taken (h : s.linkReady) (tag : Byte) (hq : s.seq.state = .paused) :
    ∃ t, exec (.retamp tag) s = .next t ∧ t.reportOf (s.moved ⟨tag, .retamp⟩ (.plain .ok)
      (settle (admitSleeper (s.setSeq { s.seq with kind := .retamp })))) := by
  refine ⟨_, rfl, request_settled h nofun ?_ (by simp)⟩
  exact (if_pos hq).trans (by rw [modSeq_queued, admit_queued]; rfl)

/-- The answer, its activity and its reports change no store. -/
theorem State.keepsStores_of_moved {t g : State} {r : Request} {y : Reply} (h : t.reportOf (s.moved r y g))
    (hg : g.keepsStores s) : t.keepsStores s := by
  obtain ⟨hpending, hreset, hinputs, hawait, hparams, -, hrules, -, -, -, -, -, -, -, hsupervisor, -, -, -, -, hrx,
    hrequests, hrestart⟩ := State.moved_keeps h
  simp only [State.keepsStores, hpending, hreset, hinputs, hawait, hparams, hrules, hsupervisor, hrx, hrequests,
    hrestart]
  exact hg

theorem State.keepsStores_refl (s : State) : s.keepsStores s := ⟨rfl, rfl, rfl, rfl, rfl, rfl, rfl, rfl, rfl, rfl⟩

/-! ## A record readmitted to INDEXING -/

/-- Where the record is not POSITIONED, the unit OPEN and the heads PARKED, its move starts at once (03 R55). -/
theorem settle_readmit_moves {r : SleeperRecord} (hm : s.chainage.move.state = .faulted) (hu : s.lining.state = .isOpen)
    (hawait : s.awaitLaw) (hp : ∀ i : Fin 4, (s.heads.get i).state = .parked)
    (hw : s.plan.workheadRecord = some r) : settle (readmit s) =
      { s with
        seq := { s.seq with
          state := .indexing, hold := none, resumeAction := none
          kind := if s.seq.advanceOwed then .retamp else .readmission }
        chainage := { s.chainage with
          move := { s.chainage.move with
            state := .firstMove, target := r.chainage + s.chainage.offset
            stopTolerance := s.params.stopTolerance, timer := some s.params.indexTime }
          line := some (.move (r.chainage + s.chainage.offset - s.chainage.running)) } } := by
  have hindexing : readmit s = enterState .indexing (s.modSeq fun q =>
      { q with kind := if q.advanceOwed then .retamp else .readmission, resumeAction := none }) :=
    if_neg (by simp [State.modSeq, hm])
  have hidle : s.chainage.move.demandActive = false := by simp [IndexMove.demandActive, hm]
  rw [hindexing]
  exact settle_moves rfl hu hp (hawait.not_releaseAfterHeads hp) hidle hw

end Resumes

/-- Settles O25: what the sequencer does, by the reason of the hold and its action, then the end of the event. -/
theorem resumeByReason : Obligations.ResumeByReason := by
  intro s tag h ends resumes y readmitted clampFault
  have taken {x : State} (hx : resumed s = some x) : resumes x := resume_taken h tag hx
  refine ⟨fun hq => taken (resumed_paused hq), fun hq hr => taken (resumed_readmit hq hr),
    fun hq hr => taken (resumed_detectionLost hq hr), fun hq hr => taken (resumed_measureLost hq hr),
    fun hq hr ha => taken ((resumed_action hq hr).trans (by rw [ha]; rfl)),
    fun hq hr ha => taken ((resumed_action hq hr).trans ?_),
    fun hq hr ha => taken ((resumed_action hq hr).trans ?_),
    retamp_taken h tag, fun r hq hr hm hu hawait hp hw => ?_⟩
  · rw [ha, takeAction, resumeAdvance, State.modSeq, activity_seq]
  · rw [ha, takeAction, retryRelease, State.modSeq, activity_seq]
    rfl
  · obtain ⟨t, ht, hreport⟩ := resume_taken h tag (resumed_readmit hq (.inr (.inr hr)))
    rw [activity_eq, settle_readmit_moves (s := s.setAttention (activity s).attention) hm hu hawait hp hw] at hreport
    obtain ⟨-, -, -, -, -, hplan, -, -, hchainage, -, -, hseq, hheads, hlining, -, -, hresults, -⟩ :=
      State.moved_keeps hreport
    exact ⟨t, ht, by rw [hseq], by rw [hseq], by rw [hseq]; rfl, by rw [hchainage], by rw [hchainage]; rfl,
      by rw [hchainage]; rfl, by rw [hchainage]; rfl, hplan, hheads, hlining, hresults,
      State.keepsStores_of_moved hreport s.keepsStores_refl⟩

end Sys2Proof.Machine
end

section
/-! PROOFS. SKIP_SLEEPER, held pending or recorded at once (06 R108, R113). -/

namespace Sys2Proof.Machine

section Skips

variable {s : State}

theorem Sequencer.wentOn.ne {q : Sequencer} (h : q.wentOn) :
    q.state ≠ .correcting ∧ q.state ≠ .tamping ∧ q.state ≠ .releasing := by
  rcases h with h | h | h | ⟨h, -⟩ <;> simp [h]

/-- Where the run has gone on, the end of the event leaves the sequencer as it is. -/
theorem settle_seq_of_wentOn (h : s.seq.wentOn) : (settle s).seq = s.seq := by
  obtain ⟨hc, ht, hr⟩ := h.ne
  have hafter : (releaseAfterHeads s).seq = s.seq := by
    unfold releaseAfterHeads
    split
    · exact releaseUnit_seq (.inl hr)
    · rfl
  have hfrozen : (releaseFrozen (releaseAfterHeads s)).seq = s.seq := by
    rw [releaseFrozen]
    split
    · exact (releaseUnit_seq (.inl (by rwa [hafter]))).trans hafter
    · exact hafter
  rw [settle, beginTamping_same hc, endTamping_same ht]
  exact (by simp : (startIndexMove _).seq = _).trans hfrozen

/-- What follows a recording keeps no sleeper in flight. -/
theorem afterRecording_flight (s : State) : (afterRecording s).seq.context = s.seq.context
    ∧ (afterRecording s).seq.reservation = s.seq.reservation := by
  obtain ⟨hcontext, hreservation, -⟩ := continueRun_flight s.owed
  exact ⟨hcontext, hreservation⟩

theorem skipSleeper_pends (h : s.seq.state = .indexing ∨ s.seq.state = .paused
    ∨ (s.seq.state = .hold ∧ s.seq.hold ≠ some .confirmWait)) :
    skipSleeper s = (s.setSeq { s.seq with skipPending := true }, .plain .ok) := by
  have hpend : skipSleeper s = pendSkip s := by
    rcases h with hq | hq | ⟨hq, hr⟩
    · simp only [skipSleeper, hq]
    · simp only [skipSleeper, hq]
    · have hawaits : s.seq.awaitsConfirm = false :=
        Bool.eq_false_iff.mpr fun ha => hr ((awaitsConfirm_iff _).mp ha).2
      simp [skipSleeper, hq, hawaits]
  exact hpend

theorem skipSleeper_records (hq : s.seq.state = .hold) (hr : s.seq.hold = some .confirmWait) :
    skipSleeper s = (settle (afterRecording (recordSleeper .skipped s)), .plain .ok) := by
  have hawaits : s.seq.awaitsConfirm = true := (awaitsConfirm_iff _).mpr ⟨hq, hr⟩
  simp only [skipSleeper, hq, hawaits, if_true]

end Skips

/-- Settles O27: pending by the state, else recorded SKIPPED and the run going on from there. -/
theorem skipPendsOrRecords : Obligations.SkipPendsOrRecords := by
  intro s tag h
  refine ⟨fun hpends => congrArg _ (seq_request_answered (r := ⟨tag, .skipSleeper⟩)
    (q := { s.seq with skipPending := true }) h nofun (skipSleeper_pends hpends) rfl), fun c hq hr hc => ?_⟩
  have hrun : runCall .skipSleeper (s.queued ⟨tag, .skipSleeper⟩)
      = (settle ((afterRecording (recordSleeper .skipped s)).queued ⟨tag, .skipSleeper⟩), .plain .ok) := by
    rw [← afterRecording_queued, ← recordSleeper_queued]
    exact skipSleeper_records hq hr
  have hreport := request_settled (r := ⟨tag, .skipSleeper⟩) h nofun hrun (by simp)
  obtain ⟨-, -, -, -, -, -, -, -, -, -, -, hseq, -, -, -, -, hresults, -, hcounters, -⟩ := State.moved_keeps hreport
  obtain ⟨hrecorded, hform, -⟩ := recordSleeper_of_context hc .skipped
  have hgone : (settle (afterRecording (recordSleeper .skipped s))).seq
      = (afterRecording (recordSleeper .skipped s)).seq := settle_seq_of_wentOn (continueRun_wentOn _)
  obtain ⟨hcontext, hreservation⟩ := afterRecording_flight (recordSleeper .skipped s)
  have hplan : (recordSleeper .skipped s).plan = s.plan := by simp
  refine ⟨_, rfl, hreport, ?_, rfl, rfl, ?_, ?_, ?_, fun hend => ?_, fun hmore hpause => ?_⟩
  · rw [hresults, ← hform]; simp
  · rw [hseq, hgone, hcontext, hrecorded]; rfl
  · rw [hseq, hgone, hreservation, hrecorded]; rfl
  · rw [hcounters .sleepersSkipped nofun]
    simpa [SleeperOutcome.counter] using recordSleeper_counter hc .skipped .sleepersSkipped
  · rw [hseq, hgone, afterRecording_ended (by rwa [hplan])]; rfl
  · rw [hseq, hgone, afterRecording_paused (by simp [hmore]) (by rw [hrecorded]; exact hpause)]; rfl

end Sys2Proof.Machine
end

section
/-! PROOFS. The heads going out, whom a release then waits for, and the end of an event that leaves a release to the
heads (07 R135, 08 R149, R151). -/

namespace Sys2Proof.Machine

/-! ## A head going out (07 R135) -/

section HeadOut

variable (e : HeadEnv) (h : HeadRecord)

theorem finishAborted_eq : h.finishAborted = { h with
    outcome := if h.outcome = none then some .aborted else h.outcome, preparePending := false } := by
  cases ho : h.outcome <;> simp [HeadRecord.finishAborted, ho]

theorem settle_eq : h.settle e = { h with
    state := .parked, vibration := false
    verticalSet := if e.awaits then h.verticalSet else 0
    squeezeSet := if e.awaits then h.squeezeSet else 0
    traverseSet := if e.awaits then h.traverseSet else e.lateral
    traverseTimer := none, tiltTimer := none, penetrationTimer := none, squeezeTimer := none
    tiltDue := .all4 .tiltOut
    tilt := if e.raised then .all4 (some .tiltOut) else h.tilt } := by
  cases ha : e.awaits <;> simp only [HeadRecord.settle, HeadRecord.sendSet, ha] <;> rfl

theorem goOut_goesOut : GoesOut e h (h.goOut e).1 := by
  unfold GoesOut HeadRecord.goOut
  rw [← finishAborted_eq]
  cases hs : h.state with
  | parked => dsimp only; split <;> rfl
  | preparing =>
    dsimp only
    rw [HeadRecord.park_of_no_order rfl, settle_eq]
    rfl
  | ready => rfl
  | penetrating => simp [HeadRecord.leaveBallast, HeadRecord.finishAborted, hs]
  | squeezing => simp [HeadRecord.leaveBallast, HeadRecord.finishAborted, hs]
  | opening => rfl
  | rising => rfl

/-- Of the heads going out only one in PREPARING reaches PARKED. -/
theorem goOut_reports : (h.goOut e).2 = decide (h.state = .preparing) := by
  unfold HeadRecord.goOut
  cases hs : h.state with
  | parked => dsimp only; split <;> rfl
  | preparing => exact congrArg Prod.snd (HeadRecord.park_of_no_order rfl)
  | ready => rfl
  | penetrating => rfl
  | squeezing => rfl
  | opening => rfl
  | rising => rfl

end HeadOut

section Awaited

variable {s : State}

/-! ## Whom a release waits for (08 R151, log entry 13) -/

theorem stepHead_awaited (f : HeadEnv → HeadRecord → HeadStep) (i j : Fin 4) (s : State) :
    (s.stepHead f i).lining.awaited.get j =
      (s.lining.awaited.get j && !(decide (j = i) && (f (s.headEnv i) (s.heads.get i)).2)) := by
  unfold State.stepHead State.reportParked
  rcases f (s.headEnv i) (s.heads.get i) with ⟨k, _ | _⟩
  · simp
  · by_cases hj : j = i
    · simp [hj]
    · simp [hj, Quad.get_set_of_ne]

/-- A head that reaches PARKED is no longer awaited; nothing else of the unit changes. -/
theorem stepHeads_awaited (f : HeadEnv → HeadRecord → HeadStep) (s : State) : (s.stepHeads f).lining =
    { s.lining with
      awaited := .ofFn fun i => s.lining.awaited.get i && !(f (s.headEnv i) (s.heads.get i)).2 } := by
  obtain ⟨a, ha⟩ := s.stepHeads_lining f
  have haw : ∀ i, a.get i = (s.lining.awaited.get i && !(f (s.headEnv i) (s.heads.get i)).2) := fun i => by
    rw [show a = (s.stepHeads f).lining.awaited by rw [ha], State.stepHeads]
    fin_cases i <;> simp [stepHead_awaited, State.stepHead_get]
  have hset : a = .ofFn fun i => s.lining.awaited.get i && !(f (s.headEnv i) (s.heads.get i)).2 :=
    Quad.ext_get fun i => by rw [haw, Quad.get_ofFn]
  rw [ha, hset]

theorem headsGoOut_lining (s : State) : s.headsGoOut.lining = { s.lining with
    awaited := .ofFn fun i => s.lining.awaited.get i && decide ((s.heads.get i).state ≠ .preparing) } := by
  rw [State.headsGoOut, stepHeads_awaited]
  simp only [goOut_reports, decide_not]

/-! ## The end of an event that leaves the release to the heads -/

theorem settle_left_to_heads (hq : s.seq.state.rests) (hr : s.lining.releaseAfterHeads = true) :
    settle s = if s.lining.awaited.anyTrue then s else releaseUnit s := by
  cases ha : s.lining.awaited.anyTrue with
  | false => exact settle_releases hq hr ((Quad.anyTrue_false_iff _).mp ha)
  | true =>
    obtain ⟨i, hi⟩ : ∃ i, s.lining.awaited.get i = true := by
      by_contra hnone
      have hfalse := (Quad.anyTrue_false_iff s.lining.awaited).mpr fun i => by
        simpa using not_exists.mp hnone i
      rw [ha] at hfalse
      cases hfalse
    exact settle_waits hq hi

/-- With no clamp pending a release changes the unit by its order alone. -/
theorem releaseUnit_lining (hq : s.seq.state ≠ .releasing) (hp : s.lining.clampPending = false) :
    (releaseUnit s).lining = releaseOrder s.inputs (heldTrack s) s.lining := by
  have hpend : s.released.lining.clampPending = false := by
    rw [s.released_keeps.1, (releaseOrder_marks ..).2.2.1, hp]
  rcases releaseOrder_state s.inputs (heldTrack s) s.lining with hu | hu
  · rw [releaseUnit_opens hu, reportOpen_rests hpend (by simpa using hq)]
    simp
  · rw [releaseUnit_releasing hu]
    simp

theorem SeqState.rests.not_releasing {q : SeqState} (h : q.rests) : q ≠ .releasing := h.ne.2.2.2

/-- The unit at the end of an event that left the release to the heads, with no clamp pending. -/
theorem settle_left_lining (hq : s.seq.state.rests) (hr : s.lining.releaseAfterHeads = true)
    (hp : s.lining.clampPending = false) : (settle s).lining =
      if s.lining.awaited.anyTrue then s.lining else releaseOrder s.inputs (heldTrack s) s.lining := by
  rw [settle_left_to_heads hq hr]
  split
  · rfl
  · exact releaseUnit_lining hq.not_releasing hp

/-- With a clamp pending, a release that finds every clamp sensed open goes on to CLAMPING (08 R140, R149). -/
theorem releaseUnit_clamps (hm : s.measuring = .noWindow) (hp : s.lining.clampPending = true) : releaseUnit s =
    let v := releaseOrder s.inputs (heldTrack s) s.lining
    s.setLining (if v.state = .isOpen then { v with
        state := .clamping, command := ⟨true, true, v.hookConcerned⟩
        clampTimer := some v.settings.clampTime, clampPending := false } else v) := by
  have hpend : s.released.lining.clampPending = true := by
    rw [s.released_keeps.1, (releaseOrder_marks ..).2.2.1, hp]
  rcases releaseOrder_state s.inputs (heldTrack s) s.lining with hu | hu
  · have hopen : s.released.inputs.clampClosed = ⟨false, false, false⟩ := by
      simpa using (releaseOrder_isOpen_iff ..).mp hu
    rw [releaseUnit_opens hu, reportOpen_pending hpend, clampUnit_of_open hopen, released_of_noWindow hm]
    simp [hu]
  · rw [releaseUnit_releasing hu, released_of_noWindow hm]
    simp [hu]

end Awaited

end Sys2Proof.Machine
end

section
/-! PROOFS. ABORT_SLEEPER (06 R114): the sleeper recorded ABORTED, the heads going out, the unit's abort order. -/

namespace Sys2Proof.Machine

/-! ## The abort order (08 R151) -/

section AbortOrder

variable (held : Track Int) (waiting : Quad Bool) (u : LiningUnit)

/-- An abort order that asks no release only cancels a clamp pending. -/
theorem abortOrder_kept (h : u.state = .isOpen ∨ u.state = .releasing) :
    abortOrder held waiting u = { u with clampPending := false } := by
  rcases h with h | h <;> simp [abortOrder, h]

/-- Elsewhere the release is left to the heads `waiting`, whichever were awaited before. -/
theorem abortOrder_left (ho : u.state ≠ .isOpen) (hr : u.state ≠ .releasing) (a : Quad Bool) :
    abortOrder held waiting { u with awaited := a } = abortOrder held waiting u
      ∧ (abortOrder held waiting u).releaseAfterHeads = true ∧ (abortOrder held waiting u).awaited = waiting := by
  cases hu : u.state <;> simp_all [abortOrder, axesHalted]

theorem abortOrder_clampPending : (abortOrder held waiting u).clampPending = false := by
  cases hu : u.state <;> simp [abortOrder, axesHalted, hu]

theorem abortOrder_setpoint :
    (abortOrder held waiting u).setpoint = u.setpoint ∨ (abortOrder held waiting u).setpoint = held := by
  cases hu : u.state <;> simp [abortOrder, axesHalted, hu]

end AbortOrder

section Aborts

variable {s x : State} {c : Context}

/-- What holds the setpoints is the same once they are held. -/
theorem heldTrack_eq (hi : x.inputs = s.inputs) (ha : x.awaitFrame = s.awaitFrame)
    (hs : x.lining.setpoint = s.lining.setpoint ∨ x.lining.setpoint = heldTrack s) : heldTrack x = heldTrack s := by
  unfold heldTrack at hs ⊢
  rw [hi, ha]
  cases hw : s.awaitFrame with
  | false => rfl
  | true => rw [hw] at hs; exact hs.elim id id

theorem settle_rests (hq : s.seq.state.rests) (hr : s.lining.releaseAfterHeads = false) : settle s = s := by
  obtain ⟨hi, hc, ht, -⟩ := hq.ne
  exact settle_of_quiet hi hc ht (releaseAfterHeads_same hr)

/-! ## The flight aborted, block by block -/

@[simp] theorem endMeasuring_headEnv (s : State) (i : Fin 4) : (endMeasuring s).headEnv i = s.headEnv i := rfl

theorem abortUnit_eq (s : State) : abortUnit s = s.setLining (abortOrder (heldTrack s) s.notParked s.lining) := by
  rw [abortUnit, State.modLining_eq, abort_eq]
  rfl

/-- The track setpoints are held where they were when the heads began to go out. -/
theorem heldTrack_headsGoOut (s : State) : heldTrack s.headsGoOut = heldTrack s :=
  heldTrack_eq (by simp) (by simp) (.inl (by rw [headsGoOut_lining]))

theorem abortFlight_heads (s : State) (i : Fin 4) :
    (abortFlight s).heads.get i = ((s.heads.get i).goOut (s.headEnv i)).1 := by
  simp [abortFlight]

theorem abortFlight_lining (s : State) : (abortFlight s).lining =
    abortOrder (heldTrack s) (abortFlight s).notParked { s.lining with
      awaited := .ofFn fun i => s.lining.awaited.get i && decide ((s.heads.get i).state ≠ .preparing) } := by
  have hheads : (abortFlight s).notParked = (endMeasuring s).headsGoOut.notParked := by
    simp [State.notParked, abortFlight]
  have hheld : heldTrack (endMeasuring s).headsGoOut = heldTrack s := heldTrack_headsGoOut _
  rw [hheads, ← hheld]
  simp [abortFlight, abortUnit_eq, headsGoOut_lining]

/-- A recording as ABORTED leaves the carry (05 R94). -/
theorem recordSleeper_aborted_computer (s : State) : (recordSleeper .aborted s).computer = s.computer := by
  cases hc : s.seq.context with
  | none => rw [recordSleeper_none hc]
  | some c =>
    rw [(recordSleeper_of_context hc .aborted).2.2]
    cases c.correction <;> rfl

theorem abortFlight_record (hc : s.seq.context = some c) :
    (abortFlight s).seq = { s.seq with
        state := .hold, hold := some .aborted, context := none, reservation := 0, retained := some c.record }
      ∧ (abortFlight s).results = s.results ++ [formResult c (abortFlight s).heads .aborted]
      ∧ (abortFlight s).counters.get .sleepersAborted = min 65535 (s.counters.get .sleepersAborted + 1) := by
  have hctx : (abortUnit (endMeasuring s).headsGoOut).seq.context = some c := by simpa using hc
  obtain ⟨hseq, hresults, -⟩ := recordSleeper_of_context hctx .aborted
  refine ⟨?_, ?_, ?_⟩
  · simp [abortFlight, enterHold, State.modSeq, hseq, Sequencer.recorded]
  · simp [abortFlight, hresults]
  · simpa [abortFlight, SleeperOutcome.counter] using recordSleeper_counter hctx .aborted .sleepersAborted

theorem abortFlight_rests (s : State) : (abortFlight s).seq.state = .hold := rfl

theorem abortFlight_computer (s : State) : (abortFlight s).computer = s.computer := by
  simp [abortFlight, recordSleeper_aborted_computer]

theorem abortFlight_measuring (s : State) : (abortFlight s).measuring = .noWindow := by
  simp [abortFlight, endMeasuring]

theorem abortFlight_latch (s : State) : (abortFlight s).latches.getLsbD 0 = true := by
  have hbit : Latch.holdEntered.mask[0] = true := by decide
  simp [abortFlight, enterHold, hbit]

/-- The unit after the abort, where its order leaves the release to the heads. -/
theorem abortFlight_settled_left (ho : s.lining.state ≠ .isOpen) (hr : s.lining.state ≠ .releasing) :
    (settle (abortFlight s)).lining =
      let u := abortOrder (heldTrack s) (abortFlight s).notParked s.lining
      if (abortFlight s).notParked.anyTrue then u else releaseOrder s.inputs (heldTrack s) u := by
  obtain ⟨hsame, hleft, hawaited⟩ := abortOrder_left (heldTrack s) (abortFlight s).notParked s.lining ho hr
    (.ofFn fun i => s.lining.awaited.get i && decide ((s.heads.get i).state ≠ .preparing))
  have hlining := (abortFlight_lining s).trans hsame
  have hheld : heldTrack (abortFlight s) = heldTrack s :=
    heldTrack_eq (by simp) (by simp) (hlining ▸ abortOrder_setpoint ..)
  rw [settle_left_lining (.inr (.inr (.inl rfl))) (by rw [hlining, hleft])
    (by rw [hlining, abortOrder_clampPending]), hheld, hlining, hawaited]
  simp

/-- The unit after the abort, where its order asks no release and none was due. -/
theorem abortFlight_settled_kept (hu : s.lining.state = .isOpen ∨ s.lining.state = .releasing)
    (hr : s.lining.releaseAfterHeads = false) : (settle (abortFlight s)).lining = unitKept s := by
  have hlining : (abortFlight s).lining = unitKept s :=
    (abortFlight_lining s).trans (abortOrder_kept _ _ _ hu)
  rw [settle_rests (.inr (.inr (.inl rfl))) (by rw [hlining]; exact hr), hlining]

theorem abortSleeper_aborts (h : s.seq.state = .measuring ∨ s.seq.state = .correcting ∨ s.seq.state = .tamping) :
    abortSleeper s = (settle (abortFlight s), .plain .ok) := by
  rcases h with h | h | h <;> simp only [abortSleeper, h]

end Aborts

/-- Settles O28: the flight aborted block by block, then the end of the event in HOLD. -/
theorem abortRecordsSleeper : Obligations.AbortRecordsSleeper := by
  intro s tag c h hstate hc
  have hrun : runCall .abortSleeper (s.queued ⟨tag, .abortSleeper⟩)
      = (settle ((abortFlight s).queued ⟨tag, .abortSleeper⟩), .plain .ok) := by
    rw [← abortFlight_queued]
    exact abortSleeper_aborts hstate
  have hreport := request_settled (r := ⟨tag, .abortSleeper⟩) h nofun hrun (by simp)
  obtain ⟨hseq, hresults, hcounter⟩ := abortFlight_record hc
  have hrests : (abortFlight s).seq.state.rests := .inr (.inr (.inl rfl))
  have hpend : (abortFlight s).lining.clampPending = false := by
    rw [abortFlight_lining, abortOrder_clampPending]
  obtain ⟨hkplan, hkchainage, hkseq, hkheads, hklatches, hkpend, hkmeasuring⟩ :=
    settle_resting_keeps hrests.ne.2.1 hrests.ne.2.2.1 hrests.ne.1 hrests.not_releasing hpend
  obtain ⟨-, -, -, -, -, htplan, -, htmask, htchainage, htmeasuring, htcomputer, htseq, htheads, htlining, -, htstop,
    htresults, htlatches, htcounters, -⟩ := State.moved_keeps hreport
  refine ⟨_, rfl, ?_⟩
  simp only [htplan, htmask, htchainage, htmeasuring, htcomputer, htseq, htheads, htlining, htstop, htresults,
    htlatches, htcounters .sleepersAborted nofun, hkplan, hkchainage, hkseq, hkheads, hklatches, hkpend,
    hkmeasuring (abortFlight_measuring s), settle_keeps, abortFlight_keeps, abortFlight_computer]
  refine ⟨hseq, trivial, fun i => ?_, hresults, hcounter, abortFlight_latch s, trivial, abortFlight_settled_left,
    abortFlight_settled_kept, trivial, trivial, trivial, trivial, trivial, ?_⟩
  · rw [abortFlight_heads]
    exact goOut_goesOut ..
  · exact State.keepsStores_of_moved hreport (by simp [State.keepsStores])

end Sys2Proof.Machine
end

section
/-! PROOFS. STOP_RUN (06 R116): the run ended in IDLE, the release left to the heads. -/

namespace Sys2Proof.Machine

/-! ## The order of STOP_RUN (06 R116, 08 R151, R152) -/

section StopOrder

variable (held : Track Int) (waiting : Quad Bool) (u : LiningUnit)

/-- A unit OPEN and not frozen has nothing to release. -/
theorem stopRunOrder_kept (ho : u.state = .isOpen) (hf : u.frozen = false) :
    stopRunOrder held waiting u = { u with clampPending := false } := by
  simp [stopRunOrder, abortOrder, ho, hf]

/-- Any other unit leaves its release to the heads `waiting`, whichever were awaited before. -/
theorem stopRunOrder_left (h : u.state ≠ .isOpen ∨ u.frozen = true) (a : Quad Bool) :
    stopRunOrder held waiting { u with awaited := a } = stopRunOrder held waiting u
      ∧ (stopRunOrder held waiting u).releaseAfterHeads = true ∧ (stopRunOrder held waiting u).awaited = waiting := by
  cases hu : u.state with
  | isOpen =>
    have hf : u.frozen = true := h.resolve_left (by simp [hu])
    simp [stopRunOrder, abortOrder, hu, hf]
  | releasing => simp [stopRunOrder, abortOrder, hu]
  | _ => cases hf : u.frozen <;> simp [stopRunOrder, abortOrder, axesHalted, hu, hf]

theorem stopRunOrder_clampPending : (stopRunOrder held waiting u).clampPending = false := by
  unfold stopRunOrder
  dsimp only
  split <;> exact abortOrder_clampPending ..

theorem stopRunOrder_setpoint :
    (stopRunOrder held waiting u).setpoint = u.setpoint ∨ (stopRunOrder held waiting u).setpoint = held := by
  unfold stopRunOrder
  dsimp only
  split <;> exact abortOrder_setpoint ..

end StopOrder

section Stops

variable {s : State} {c : Context}

/-! ## The run ended, block by block -/

theorem endRunNow_heads (s : State) (i : Fin 4) :
    (endRunNow s).heads.get i = ((s.heads.get i).goOut (s.headEnv i)).1 := by
  simp [endRunNow]

theorem endRunNow_lining (s : State) : (endRunNow s).lining =
    stopRunOrder (heldTrack s) (endRunNow s).notParked { s.lining with
      awaited := .ofFn fun i => s.lining.awaited.get i && decide ((s.heads.get i).state ≠ .preparing) } := by
  have hheads : (endRunNow s).notParked = s.headsGoOut.notParked := by simp [State.notParked, endRunNow]
  rw [hheads, ← heldTrack_headsGoOut]
  simp [endRunNow, stopRun_eq, headsGoOut_lining, State.trackSensed, heldTrack, State.notParked]

theorem endRunNow_chainage (s : State) : (endRunNow s).chainage = { s.chainage with
    move := { s.chainage.move with state := .noMove, drift := none, outcome := none, timer := none }
    line := some .cancel } := by
  simp [endRunNow, ChainageUnit.cancelTravel, IndexMove.clear]

theorem endRunNow_plan (s : State) : (endRunNow s).plan = s.plan.stopRun := by
  simp [endRunNow]

theorem endRunNow_measuring (s : State) : (endRunNow s).measuring = .noWindow := by
  simp [endRunNow, endMeasuring]

theorem endRunNow_computer (s : State) : (endRunNow s).computer = s.computer := by
  simp [endRunNow, recordSleeper_aborted_computer]

theorem endRunNow_seq (s : State) : (endRunNow s).seq = { s.seq with
    state := .idle, hold := none, context := none
    reservation := if s.seq.context.isSome then 0 else s.seq.reservation
    retained := none, pausePending := false, skipPending := false, advanceOwed := false
    resumeAction := none } := by
  cases hc : s.seq.context with
  | none =>
    have hrecord := recordSleeper_none (s := s.headsGoOut) (by simpa using hc) .aborted
    simp [endRunNow, enterState, State.modSeq, hrecord, hc]
  | some c =>
    obtain ⟨hseq, -⟩ := recordSleeper_of_context (s := s.headsGoOut) (by simpa using hc) .aborted
    simp [endRunNow, enterState, State.modSeq, hseq, Sequencer.recorded]

theorem endRunNow_results (s : State) : (endRunNow s).results = s.results ++
    (s.seq.context.map fun c => formResult c (endRunNow s).heads .aborted).toList := by
  cases hc : s.seq.context with
  | none =>
    have hrecord := recordSleeper_none (s := s.headsGoOut) (by simpa using hc) .aborted
    simp [endRunNow, hrecord]
  | some c =>
    obtain ⟨-, hresults, -⟩ := recordSleeper_of_context (s := s.headsGoOut) (by simpa using hc) .aborted
    simp [endRunNow, hresults]

/-! ## The unit at the end of the event -/

theorem endRunNow_settled_left (h : s.lining.state ≠ .isOpen ∨ s.lining.frozen = true) :
    (settle (endRunNow s)).lining =
      let u := stopRunOrder (heldTrack s) (endRunNow s).notParked s.lining
      if (endRunNow s).notParked.anyTrue then u else releaseOrder s.inputs (heldTrack s) u := by
  obtain ⟨hsame, hleft, hawaited⟩ := stopRunOrder_left (heldTrack s) (endRunNow s).notParked s.lining h
    (.ofFn fun i => s.lining.awaited.get i && decide ((s.heads.get i).state ≠ .preparing))
  have hlining := (endRunNow_lining s).trans hsame
  have hheld : heldTrack (endRunNow s) = heldTrack s :=
    heldTrack_eq (by simp) (by simp) (hlining ▸ stopRunOrder_setpoint ..)
  rw [settle_left_lining (.inl rfl) (by rw [hlining, hleft]) (by rw [hlining, stopRunOrder_clampPending]), hheld,
    hlining, hawaited]
  simp

theorem endRunNow_settled_kept (ho : s.lining.state = .isOpen) (hf : s.lining.frozen = false)
    (hr : s.lining.releaseAfterHeads = false) : (settle (endRunNow s)).lining = unitKept s := by
  have hlining : (endRunNow s).lining = unitKept s := (endRunNow_lining s).trans (stopRunOrder_kept _ _ _ ho hf)
  rw [settle_rests (.inl rfl) (by rw [hlining]; exact hr), hlining]

/-! ## The timer of a run that ends (09 R161) -/

/-- A request that takes the sequencer to a state without attention leaves the timer DISARMED. -/
theorem moved_disarms {g : State} {r : Request} {y : Reply} (hb : s.seq.state.attentive = true)
    (hg : g.seq.state.attentive = false) : (s.moved r y g).attention.state = .disarmed := by
  rw [State.moved, followAttention_disarms hb (by simpa [State.replied] using hg), requestActivity_eq_ite]
  simp

end Stops

/-- Settles O29: the run ended block by block, then the end of the event in IDLE. -/
theorem stopRunReturnsToIdle : Obligations.StopRunReturnsToIdle := by
  intro s tag h hstate
  have hrun : runCall .stopRun (s.queued ⟨tag, .stopRun⟩)
      = (settle ((endRunNow s).queued ⟨tag, .stopRun⟩), .plain .ok) := by
    rw [← endRunNow_queued]
    exact if_neg hstate
  have hreport := request_settled (r := ⟨tag, .stopRun⟩) h nofun hrun (by simp)
  have hpend : (endRunNow s).lining.clampPending = false := by rw [endRunNow_lining, stopRunOrder_clampPending]
  obtain ⟨hkplan, hkchainage, hkseq, hkheads, -, hkpend, hkmeasuring⟩ := settle_resting_keeps (s := endRunNow s)
    nofun nofun nofun nofun hpend
  obtain ⟨-, -, -, -, -, htplan, -, htmask, htchainage, htmeasuring, htcomputer, htseq, htheads, htlining, -, htstop,
    htresults, -⟩ := State.moved_keeps hreport
  refine ⟨_, rfl, ?_⟩
  simp only [htplan, htmask, htchainage, htmeasuring, htcomputer, htseq, htheads, htlining, htstop, htresults, hkplan,
    hkchainage, hkseq, hkheads, hkpend, hkmeasuring (endRunNow_measuring s), settle_keeps, endRunNow_keeps,
    endRunNow_computer, endRunNow_plan]
  refine ⟨endRunNow_seq s, fun hc => ?_, fun c hc => ?_, endRunNow_chainage s, rfl, rfl, fun n hn => ?_, fun n hn => ?_,
    trivial, fun i => ?_, trivial, endRunNow_settled_left, endRunNow_settled_kept, fun ha => ?_, trivial, trivial,
    trivial, ?_⟩
  · simp [endRunNow_results, hc]
  · simp [endRunNow_results, hc]
  · simp [stopRun_page, Page.returned_eq, hn]
  · simp [stopRun_page, Page.returned_eq, hn]
  · rw [endRunNow_heads]
    exact goOut_goesOut ..
  · obtain ⟨-, -, -, -, -, -, -, -, -, -, -, -, -, -, -, -, hattention, -⟩ := State.reportOf_keeps hreport
    rw [hattention]
    exact moved_disarms ha (by rw [hkseq]; rfl)
  · exact State.keepsStores_of_moved hreport (by simp [State.keepsStores])

end Sys2Proof.Machine
end

section
/-! PROOFS. CONFIRM in HOLD(CONFIRM_WAIT) (06 R102, R112): the clamp order by the state of the unit, the prepare orders,
and the end of the event in MEASURING. -/

namespace Sys2Proof.Machine

section ClampOrder

variable {s : State} {c : Context}

/-! ## The clamp order (08 R140) -/

theorem takeContext_eq (u : LiningUnit) (c : Context) : u.takeContext c = { u with
    settings := ⟨c.cycle.deadband, c.cycle.correctionTime, c.cycle.clampTime⟩
    hookConcerned := c.record.branch, frozen := false, approach := ⟨none, false, false⟩ } := rfl

/-- In CLAMPING, CLAMPED, APPROACHING and HOLDING: as an abort order, and clamp pending (08 R140). -/
theorem clampLater_eq {u : LiningUnit} (ho : u.state ≠ .isOpen) (hr : u.state ≠ .releasing) (held : Track Int)
    (waiting : Quad Bool) : u.clampLater held waiting = { abortOrder held waiting u with clampPending := true } := by
  cases hu : u.state <;>
    simp_all [LiningUnit.clampLater, LiningUnit.abandon, LiningUnit.releaseLater, abortOrder, haltAll_eq, axesHalted]

theorem clampOrder_open (h : s.lining.state = .isOpen) :
    clampOrder c s = clampUnit (s.setLining (s.lining.takeContext c)) := by
  simp [clampOrder, LiningUnit.takeContext, h]

theorem clampOrder_releasing (h : s.lining.state = .releasing) : clampOrder c s =
    releaseUnit (s.setLining { s.lining.takeContext c with clampPending := true }) := by
  simp [clampOrder, LiningUnit.takeContext, h]

theorem clampOrder_later (ho : s.lining.state ≠ .isOpen) (hr : s.lining.state ≠ .releasing) : clampOrder c s =
    s.setLining { abortOrder (heldTrack s) s.notParked (s.lining.takeContext c) with clampPending := true } := by
  rw [← clampLater_eq (u := s.lining.takeContext c) ho hr]
  cases hu : s.lining.state <;> simp_all [clampOrder, LiningUnit.takeContext, State.trackSensed, State.notParked, heldTrack]

/-- The clamps commanded CLOSE for the sleeper of `c`: CLAMPED at once where they are sensed closed (08 R140). -/
def LiningUnit.clampedFor (u : LiningUnit) (i : Inputs) (c : Context) : LiningUnit :=
  { u with
    state := if i.clampsClosed c.record.branch then .clamped else .clamping
    command := ⟨true, true, c.record.branch⟩
    clampTimer := if i.clampsClosed c.record.branch then none else some c.cycle.clampTime
    clampPending := false }

/-- A release with the clamps of `c` pending: OPEN is left at once for CLAMPING. -/
def LiningUnit.releasedFor (u : LiningUnit) (i : Inputs) (held : Track Int) (c : Context) : LiningUnit :=
  if (releaseOrder i held u).state = .isOpen then (releaseOrder i held u).clampedFor i c else releaseOrder i held u

/-- The unit has taken the settings of the sleeper of `c`. -/
def LiningUnit.setFor (u : LiningUnit) (c : Context) : Prop :=
  u.hookConcerned = c.record.branch ∧ u.settings = ⟨c.cycle.deadband, c.cycle.correctionTime, c.cycle.clampTime⟩

theorem clamp_eq {u : LiningUnit} (h : u.setFor c) (i : Inputs) : u.clamp i = u.clampedFor i c := by
  obtain ⟨hhook, hsettings⟩ := h
  simp [LiningUnit.clamp, LiningUnit.clampedFor, hhook, hsettings]

/-- A unit OPEN commands the clamps CLOSE, and opens the PRE window where they are closed already (06 R102). -/
theorem clampUnit_measuring (hq : s.seq.state = .measuring) (hc : s.seq.context = some c)
    (hu : s.lining.setFor c) (hm : s.measuring = .noWindow) : clampUnit s = { s with
      lining := s.lining.clampedFor s.inputs c
      measuring := if s.inputs.clampsClosed c.record.branch then .window (.fresh .pre c) else .noWindow } := by
  rw [clampUnit, State.modLining_eq, clamp_eq hu]
  cases hclosed : s.inputs.clampsClosed c.record.branch with
  | false =>
    rw [if_neg (by simp [LiningUnit.clampedFor, hclosed]), if_neg nofun, ← hm]
    rfl
  | true =>
    rw [if_pos (by simp [LiningUnit.clampedFor, hclosed]), if_pos rfl, reportClamped, if_pos (by exact hq), openWindow,
      State.setLining_seq, hc]
    rfl

theorem releaseUnit_releasedFor (hm : s.measuring = .noWindow) (hp : s.lining.clampPending = true)
    (hu : s.lining.setFor c) :
    releaseUnit s = s.setLining (s.lining.releasedFor s.inputs (heldTrack s) c) := by
  obtain ⟨hhook, hsettings⟩ := hu
  rw [releaseUnit_clamps hm hp, LiningUnit.releasedFor]
  dsimp only
  refine congrArg _ ?_
  split
  · next hopen =>
    have hclosed := clampsClosed_of_open s.inputs ((releaseOrder_isOpen_iff ..).mp hopen) c.record.branch
    simp [LiningUnit.clampedFor, releaseOrder, axesHalted, hclosed, hhook, hsettings]
  · rfl

theorem abortOrder_settings (held : Track Int) (waiting : Quad Bool) (u : LiningUnit) :
    (abortOrder held waiting u).hookConcerned = u.hookConcerned
      ∧ (abortOrder held waiting u).settings = u.settings := by
  cases hu : u.state <;> simp [abortOrder, axesHalted, hu]

end ClampOrder

section Prepares

variable {s : State} {c : Context}

/-! ## The prepare orders (07 R125) -/

/-- Head `i` once it is told to prepare for the sleeper of `c`. -/
def State.prepared (s : State) (c : Context) (i : Fin 4) : HeadRecord :=
  if c.engaged i then
    if (s.heads.get i).state = .parked ∧ s.awaitFrame = false then
      { s.heads.get i with
        state := .preparing
        traverseTimer := some c.cycle.traverseTime
        tiltTimer := some c.cycle.tiltTime
        preparePending := false
        tiltDue := tiltsFor (armsOf c.enabled i)
        tilt := if s.inputs.raised.get i then (tiltsFor (armsOf c.enabled i)).map some else (s.heads.get i).tilt }
    else { s.heads.get i with preparePending := true }
  else s.heads.get i

theorem orderPrepare_eq (h : s.seq.context = some c) (i : Fin 4) :
    (s.heads.get i).orderPrepare (s.headEnv i) = s.prepared c i := by
  have horder : (s.headEnv i).order = some (c.order i) := by simp [State.headEnv, h]
  rw [HeadRecord.orderPrepare, horder]
  rfl

theorem headsPrepare_eq (h : s.seq.context = some c) : s.headsPrepare = { s with heads := .ofFn (s.prepared c) } := by
  have hheads : s.headsPrepare.heads = .ofFn (s.prepared c) := Quad.ext_get fun i => by
    rw [State.headsPrepare, State.stepHeads_get, Quad.get_ofFn, ← orderPrepare_eq h]
    rfl
  rw [← hheads]
  rfl

/-! ## MEASURING as CONFIRM enters it -/

/-- The state in MEASURING with the heads told to prepare, the unit and the measuring block as given. -/
def State.confirmed (s : State) (c : Context) (u : LiningUnit) (m : Measuring) : State :=
  { s with
    seq := { s.seq with state := .measuring, hold := none }
    lining := u
    measuring := m
    heads := .ofFn (s.prepared c) }

theorem enterMeasuring_confirmed {u : LiningUnit} {m : Measuring} (hc : s.seq.context = some c)
    (h : clampOrder c (enterState .measuring s) =
      { s with seq := { s.seq with state := .measuring, hold := none }, lining := u, measuring := m }) :
    enterMeasuring c s = s.confirmed c u m := by
  rw [enterMeasuring, h]
  exact headsPrepare_eq hc

theorem confirmed_settled {u : LiningUnit} {m : Measuring} (h : u.releaseAfterHeads = false) :
    settle (s.confirmed c u m) = s.confirmed c u m := settle_rests (.inr (.inl rfl)) h

theorem releasedFor_releaseAfterHeads (u : LiningUnit) (i : Inputs) (held : Track Int) :
    (u.releasedFor i held c).releaseAfterHeads = false := by
  unfold LiningUnit.releasedFor
  split <;> rfl

/-! ## CONFIRM by the state of the unit (06 R112) -/

theorem confirm_open (hc : s.seq.context = some c) (hm : s.measuring = .noWindow) (hu : s.lining.state = .isOpen)
    (hr : s.lining.releaseAfterHeads = false) : settle (enterMeasuring c s) =
      s.confirmed c ((s.lining.takeContext c).clampedFor s.inputs c)
        (if s.inputs.clampsClosed c.record.branch then .window (.fresh .pre c) else .noWindow) := by
  have hclamp := (clampOrder_open (s := enterState .measuring s) (c := c) hu).trans
    (clampUnit_measuring rfl hc ⟨rfl, rfl⟩ hm)
  rw [enterMeasuring_confirmed hc hclamp]
  exact confirmed_settled hr

theorem confirm_releasing (hc : s.seq.context = some c) (hm : s.measuring = .noWindow)
    (hu : s.lining.state = .releasing) : settle (enterMeasuring c s) = s.confirmed c
      ({ s.lining.takeContext c with clampPending := true }.releasedFor s.inputs (heldTrack s) c) s.measuring := by
  have hrelease := (clampOrder_releasing (s := enterState .measuring s) (c := c) hu).trans
    (releaseUnit_releasedFor hm rfl ⟨rfl, rfl⟩)
  rw [enterMeasuring_confirmed hc hrelease]
  exact confirmed_settled (releasedFor_releaseAfterHeads ..)

/-- The order that CONFIRM gives a unit neither OPEN nor RELEASING: clamp pending, the release left to the heads. -/
def State.clampsLater (s : State) (c : Context) : LiningUnit :=
  { abortOrder (heldTrack s) s.notParked (s.lining.takeContext c) with clampPending := true }

theorem confirm_later (hc : s.seq.context = some c) (hm : s.measuring = .noWindow)
    (ho : s.lining.state ≠ .isOpen) (hr : s.lining.state ≠ .releasing) : settle (enterMeasuring c s) = s.confirmed c
      (if s.notParked.anyTrue then s.clampsLater c else (s.clampsLater c).releasedFor s.inputs (heldTrack s) c)
      s.measuring := by
  obtain ⟨-, hleft, hawaited⟩ := abortOrder_left (heldTrack s) s.notParked (s.lining.takeContext c) ho hr (.all4 false)
  have hset : (s.clampsLater c).setFor c := abortOrder_settings ..
  have hheld : heldTrack (s.confirmed c (s.clampsLater c) s.measuring) = heldTrack s :=
    heldTrack_eq rfl rfl (abortOrder_setpoint (heldTrack s) s.notParked (s.lining.takeContext c))
  have hrelease := releaseUnit_releasedFor (s := s.confirmed c (s.clampsLater c) s.measuring) hm rfl hset
  rw [enterMeasuring_confirmed hc (clampOrder_later (s := enterState .measuring s) ho hr),
    settle_left_to_heads (.inr (.inl rfl)) hleft]
  have hwaiting : (s.clampsLater c).awaited = s.notParked := hawaited
  show (if (s.clampsLater c).awaited.anyTrue = true then s.confirmed c (s.clampsLater c) s.measuring
    else releaseUnit (s.confirmed c (s.clampsLater c) s.measuring)) = _
  rw [hwaiting, hrelease, hheld]
  split <;> rfl

/-- The three cases together: MEASURING, with the unit by its state before. -/
theorem confirm_settled (hc : s.seq.context = some c) (hm : s.measuring = .noWindow)
    (hr : s.lining.state = .isOpen → s.lining.releaseAfterHeads = false) :
    ∃ u m, settle (enterMeasuring c s) = s.confirmed c u m
      ∧ (s.lining.state = .isOpen → u = (s.lining.takeContext c).clampedFor s.inputs c
          ∧ m = if s.inputs.clampsClosed c.record.branch then .window (.fresh .pre c) else .noWindow)
      ∧ (s.lining.state = .releasing →
          u = { s.lining.takeContext c with clampPending := true }.releasedFor s.inputs (heldTrack s) c
          ∧ m = .noWindow)
      ∧ (s.lining.state ≠ .isOpen → s.lining.state ≠ .releasing →
          u = (if s.notParked.anyTrue then s.clampsLater c
            else (s.clampsLater c).releasedFor s.inputs (heldTrack s) c)
          ∧ m = .noWindow) := by
  by_cases ho : s.lining.state = .isOpen
  · exact ⟨_, _, confirm_open hc hm ho (hr ho), fun _ => ⟨rfl, rfl⟩, by simp [ho], fun hn => absurd ho hn⟩
  · by_cases hu : s.lining.state = .releasing
    · exact ⟨_, _, confirm_releasing hc hm hu, fun h => absurd h ho, fun _ => ⟨rfl, hm⟩, fun _ hn => absurd hu hn⟩
    · exact ⟨_, _, confirm_later hc hm ho hu, fun h => absurd h ho, fun h => absurd h hu, fun _ _ => ⟨rfl, hm⟩⟩

theorem confirmSleeper_confirms (hq : s.seq.state = .hold) (hr : s.seq.hold = some .confirmWait)
    (hc : s.seq.context = some c) : confirmSleeper s = (settle (enterMeasuring c s), .plain .ok) := by
  have hawaits : s.seq.awaitsConfirm = true := (awaitsConfirm_iff _).mpr ⟨hq, hr⟩
  rw [confirmSleeper, hawaits, hc]

/-- A CONFIRM taken: its reply and the state in MEASURING, with no report. -/
theorem confirm_taken {u : LiningUnit} {m : Measuring} (h : s.linkReady) (tag : Byte) (hq : s.seq.state = .hold)
    (hr : s.seq.hold = some .confirmWait) (hc : s.seq.context = some c)
    (hsettle : settle (enterMeasuring c s) = s.confirmed c u m) :
    exec (.confirm tag) s = .next (s.moved ⟨tag, .confirm⟩ (.plain .ok) (s.confirmed c u m)) := by
  have hrun : runCall .confirm (s.queued ⟨tag, .confirm⟩)
      = ((s.confirmed c u m).queued ⟨tag, .confirm⟩, .plain .ok) := by
    rw [← hsettle, ← settle_queued, ← enterMeasuring_queued]
    exact confirmSleeper_confirms hq hr hc
  exact congrArg _ (request_silent (q := ⟨tag, .confirm⟩) h nofun hrun rfl rfl rfl)

end Prepares

/-- Settles O26: the unit by its state, the heads by theirs, then the end of the event in MEASURING. -/
theorem confirmStartsMeasuring : Obligations.ConfirmStartsMeasuring := by
  intro s tag c h hq hr hc hm hnone closed ordered clamped released waiting later
  obtain ⟨u, m, hsettle, hopen, hreleasing, hlater⟩ := confirm_settled hc hm fun ho => hnone (.inl ho)
  have hreport : (s.moved ⟨tag, .confirm⟩ (.plain .ok) (s.confirmed c u m)).reportOf
      (s.moved ⟨tag, .confirm⟩ (.plain .ok) (s.confirmed c u m)) := State.reportOf_refl _
  obtain ⟨-, -, -, -, -, hplan, -, hmask, hchainage, hmeasuring, hcomputer, hseq, hheads, hlining, -, hstop, hresults,
    hlatches, -⟩ := State.moved_keeps hreport
  have hhead : ∀ i : Fin 4, (s.moved ⟨tag, .confirm⟩ (.plain .ok) (s.confirmed c u m)).heads.get i = s.prepared c i :=
    fun i => by rw [hheads]; exact Quad.get_ofFn ..
  refine ⟨_, confirm_taken h tag hq hr hc hsettle, hseq, ?_, ?_, ?_, fun i hi => ?_, fun i hi hn => ?_,
    fun i hi hp ha => ?_, hplan, hchainage, hcomputer, hstop, hresults, hlatches, ?_, hmask,
    State.keepsStores_of_moved hreport s.keepsStores_refl⟩
  · rw [hlining, hmeasuring]
    exact hopen
  · rw [hlining, hmeasuring]
    exact hreleasing
  · rw [hlining, hmeasuring]
    exact hlater
  · simp [hhead, State.prepared, hi]
  · have hnot : ¬((s.heads.get i).state = .parked ∧ s.awaitFrame = false) := fun ⟨hp, ha⟩ =>
      hn.elim (· hp) fun haw => by rw [ha] at haw; cases haw
    rw [hhead, State.prepared, if_pos hi, if_neg hnot]
  · rw [hhead, State.prepared, if_pos hi, if_pos ⟨hp, ha⟩]
  · simp [State.moved, State.replied, State.confirmed]

end Sys2Proof.Machine
end

section
/-! PROOFS. What one step can do, said once: a request carried out, an event of the machine, a reset, or nothing but a
turn of the link. -/

namespace Sys2Proof.Machine

/-! ## Blocks outside the work of the machine -/

/-- `t` differs from `s` at most in the commands that wait, the link, the attention timer, the latches and the
counters. -/
def State.SameWork (s t : State) : Prop :=
  t = { s with
    pending := t.pending, link := t.link, attention := t.attention, latches := t.latches, counters := t.counters }

/-- `t` has the heads, the unit and the measuring unit as `s`, the arms sensed as there, and the sequencer in the same
state with the same sleeper in flight. -/
structure State.SameRun (s t : State) : Prop where
  heads : t.heads = s.heads
  lining : t.lining = s.lining
  measuring : t.measuring = s.measuring
  tilt : t.inputs.tilt = s.inputs.tilt
  awaitFrame : t.awaitFrame = s.awaitFrame
  state : t.seq.state = s.seq.state
  context : t.seq.context = s.seq.context

section Same

variable {s t u : State}

theorem State.SameWork.refl (s : State) : s.SameWork s := rfl

theorem State.SameWork.trans (h : s.SameWork t) (g : t.SameWork u) : s.SameWork u := by
  rw [State.SameWork] at h g
  rw [h] at g
  exact g

/-- A law of the machine reads none of the other blocks. -/
theorem State.SameWork.keeps {Law : State → Prop} (h : s.SameWork t)
    (hlaw : ∀ p l a x c, Law { s with pending := p, link := l, attention := a, latches := x, counters := c }) :
    Law t := by
  rw [State.SameWork] at h
  rw [h]
  exact hlaw ..

theorem State.SameWork.sameRun (h : s.SameWork t) : s.SameRun t :=
  h.keeps fun _ _ _ _ _ => ⟨rfl, rfl, rfl, rfl, rfl, rfl, rfl⟩

theorem State.SameWork.resetLow (h : s.SameWork t) : t.resetLow = s.resetLow :=
  h.keeps (Law := fun x => x.resetLow = s.resetLow) fun _ _ _ _ _ => rfl

theorem State.LinkTurned.sameWork (h : s.LinkTurned t) : s.SameWork t := by
  rw [State.LinkTurned] at h
  rw [h]
  exact rfl

theorem State.reportOf.sameWork (h : t.reportOf s) : s.SameWork t := by
  obtain ⟨hs, -⟩ := h
  generalize s.link = l, s.counters = c at hs
  subst hs
  exact rfl

theorem report_sameWork (before after : State) : after.SameWork (report before after) :=
  (report_reportOf before after).sameWork

theorem requestActivity_sameWork (r : Request) (y : Reply) (s : State) : s.SameWork (requestActivity r y s) := by
  rw [requestActivity_eq]
  exact rfl

theorem followAttention_sameWork (before after : State) : after.SameWork (followAttention before after) := by
  rw [followAttention_eq]
  exact rfl

theorem State.SameRun.refl (s : State) : s.SameRun s := ⟨rfl, rfl, rfl, rfl, rfl, rfl, rfl⟩

theorem activity_sameRun (s : State) : s.SameRun (activity s) := by
  rw [activity_eq]
  exact ⟨rfl, rfl, rfl, rfl, rfl, rfl, rfl⟩

end Same

/-! ## What an event or a request does to the machine -/

/-- All that an event of the machine or the owner of a request can do, out of reset: one constructor for each, with what
stood when it was taken. -/
inductive State.Does (s : State) : State → Prop
  | quiet {t : State} (h : s.SameRun t) : s.Does t
  | stopRaised (cause : StopCause) {x : State} (h : s.SameRun x) : s.Does (raiseStop cause x)
  | axisFrame (f : AxisFrame) : s.Does (takeAxisFrame f s)
  | measuringFrame (samples : Channels (Option Int)) : s.Does (settle (takeMeasuringFrame samples s))
  | silence : s.Does (settle (expireSilence s))
  | halted : s.Does (settle (takeHalted s))
  | indexTimer : s.Does (expireIndexTimer s)
  | clampLevels {x : State} (h : s.SameRun x) : s.Does (settle (takeClampLevels x))
  | clampTimer : s.Does (settle (expireClampTimer s))
  | correctionTimer : s.Does (settle (expireCorrection s))
  | tilt (i arm : Fin 4) (r : TiltReport) : s.Does (takeTilt i (s.setInputs (tiltLevel i arm r s.inputs)))
  | raised (i : Fin 4) {x : State} (h : s.SameRun x) : s.Does (takeRaised i x)
  | traverseTimer (i : Fin 4) : s.Does (expireTraverse i s)
  | tiltTimer (i : Fin 4) : s.Does (expireTilt i s)
  | penetrationTimer (i : Fin 4) : s.Does (expirePenetration i s)
  | squeezeTimer (i : Fin 4) : s.Does (expireSqueeze i s)
  | warmRestart : s.Does (warmRestart s)
  | begins (pos : Pos) (hq : s.seq.state = .idle ∨ s.seq.state = .ended) (hu : s.lining.state = .isOpen)
      (hp : s.allParked = true) : s.Does (settle (beginRun pos s))
  | advances {x : State} (hq : s.seq.state = .paused ∨ s.seq.state = .hold) (h : s.SameRun x) :
      s.Does (settle (resumeAdvance x))
  | readmits {x : State} (hq : s.seq.state = .paused ∨ s.seq.state = .hold) (h : s.SameRun x) :
      s.Does (settle (readmit x))
  | retries {x : State} (hq : s.seq.state = .paused ∨ s.seq.state = .hold) (h : s.SameRun x) :
      s.Does (settle (retryRelease x))
  | confirms {c : Context} (hq : s.seq.state = .hold) (hc : s.seq.context = some c) :
      s.Does (settle (enterMeasuring c s))
  | skips (hq : s.seq.state = .hold) : s.Does (settle (afterRecording (recordSleeper .skipped s)))
  | aborts (hq : s.seq.state = .measuring ∨ s.seq.state = .correcting ∨ s.seq.state = .tamping) :
      s.Does (settle (abortFlight s))
  | admits {x : State} (hq : s.seq.state = .paused ∨ s.seq.state = .hold) (h : s.SameRun x) :
      s.Does (settle (admitSleeper x))
  | ends : s.Does (settle (endRunNow s))
  | clears {x : State} (hq : s.seq.state = .faultStop) (h : s.SameRun x) : s.Does (enterHold .stopCleared x)
  | crosses (w : Pos) {x : State} (hq : s.seq.state = .hold) (h : s.SameRun x) : s.Does (settle (retryCrossing w x))

/-- All that one step can do: a turn of the link alone, an event or a request out of reset, the reset line going low, a
level followed while it is low, and the power-on reset. -/
inductive State.Steps (s t : State) : Prop
  | rests (h : s.SameWork t)
  | does {u v : State} (hr : s.resetLow = false) (hu : s.SameWork u) (hd : u.Does v) (hv : v.SameWork t)
  | lowered (h : (s.setResetLow true).SameWork t)
  | follows (hr : s.resetLow = true) (i : Inputs) (h : (s.setInputs i).SameWork t)
  | powered {u : State} (h : t = powerOn u)

/-! ## The requests -/

section Requests

variable {s t : State}

theorem setParam_does (id : Byte) (value : BitVec 32) (s : State) : s.Does (setParam id value s).1 := by
  have hstore : ∀ p v, s.Does (storeParam p v s) := fun p v => by
    unfold storeParam
    dsimp only
    split <;> exact .quiet ⟨by simp, by simp, by simp, by simp, by simp, by simp, by simp⟩
  unfold setParam setChord setClamped
  dsimp only
  split
  · exact .quiet (.refl s)
  · split
    · split
      · exact .quiet (.refl s)
      · split
        · exact .quiet (.refl s)
        · exact hstore _ _
    · exact hstore _ _

/-- START_RUN is taken with the unit OPEN and every head PARKED (06 R97). -/
theorem startRun_does (page index : Byte) (s : State) : s.Does (startRun page index s).1 := by
  unfold startRun
  split
  · exact .quiet (.refl s)
  next hq =>
  split
  · exact .quiet (.refl s)
  split
  · exact .quiet (.refl s)
  split
  · exact .quiet (.refl s)
  next hstand =>
  -- the last four checks of R97 are about the operands
  iterate 4 (split; · exact .quiet (.refl s))
  obtain ⟨hu, hp⟩ := not_or.mp hstand
  exact .begins _ (by tauto) (not_not.mp hu) (by simpa using hp)

theorem pauseRun_does (s : State) : s.Does (pauseRun s).1 := by
  unfold pauseRun
  split <;> exact .quiet ⟨rfl, rfl, rfl, rfl, rfl, rfl, rfl⟩

theorem resumeHold_does {x : State} {r : HoldReason} (hq : s.seq.state = .paused ∨ s.seq.state = .hold)
    (h : s.SameRun x) (ht : resumeHold r x = some t) : s.Does (settle t) := by
  have hreadmit : ∀ f : Sequencer → Sequencer, (f x.seq).state = x.seq.state → (f x.seq).context = x.seq.context →
      s.Does (settle (readmit (x.modSeq f))) := fun f hs hc =>
    .readmits hq ⟨h.heads, h.lining, h.measuring, h.tilt, h.awaitFrame, hs.trans h.state, hc.trans h.context⟩
  have haction : ∀ a, s.Does (settle (takeAction a x)) := fun a => by
    unfold takeAction
    split
    · exact .readmits hq h
    · exact .retries hq h
    · exact .advances hq h
    · exact .readmits hq h
  unfold resumeHold at ht
  split at ht
  · cases ht
  · cases ht
  · cases ht
  · cases ht; exact .readmits hq h
  · cases ht; exact hreadmit _ rfl rfl
  · cases ht; exact hreadmit _ rfl rfl
  · cases ht; exact .readmits hq h
  · cases ht; exact .readmits hq h
  · cases ht; exact haction _
  · cases ht; exact haction _

theorem resumeRun_does (s : State) : s.Does (resumeRun s).1 := by
  unfold resumeRun
  split
  · next t ht =>
    unfold resumed at ht
    split at ht
    · next hq => cases ht; exact .advances (.inl hq) (activity_sameRun s)
    · next hq _ => exact resumeHold_does (.inr hq) (activity_sameRun s) ht
    · cases ht
  · exact .quiet (.refl s)

theorem skipSleeper_does (s : State) : s.Does (skipSleeper s).1 := by
  have hpend : s.Does (pendSkip s).1 := .quiet ⟨rfl, rfl, rfl, rfl, rfl, rfl, rfl⟩
  unfold skipSleeper
  split
  · exact hpend
  · exact hpend
  · next hq =>
    split
    · exact .skips hq
    · exact hpend
  all_goals exact .quiet (.refl s)

theorem abortSleeper_does (s : State) : s.Does (abortSleeper s).1 := by
  unfold abortSleeper
  split
  · exact .aborts (.inl ‹_›)
  · exact .aborts (.inr (.inl ‹_›))
  · exact .aborts (.inr (.inr ‹_›))
  all_goals exact .quiet (.refl s)

theorem clearStop_does (s : State) : s.Does (clearStop s).1 := by
  unfold clearStop
  split
  · exact .quiet (.refl s)
  · split
    · exact .quiet (.refl s)
    · split
      · dsimp only
        split
        · next hq => exact .clears hq ⟨rfl, rfl, rfl, rfl, rfl, rfl, rfl⟩
        · exact .quiet ⟨rfl, rfl, rfl, rfl, rfl, rfl, rfl⟩
      · exact .quiet (.refl s)

theorem closePage_does (page count endByte : Byte) (s : State) : s.Does (closePage page count endByte s).1 := by
  have ht : s.SameRun (s.setPlan (s.plan.closePage page count endByte).1) := ⟨rfl, rfl, rfl, rfl, rfl, rfl, rfl⟩
  unfold closePage
  dsimp only
  split
  · next w _ hw =>
    dsimp only
    split
    · next hwait =>
      unfold State.waitsFor at hwait
      rw [hw] at hwait
      exact .crosses w (of_decide_eq_true hwait).1 ht
    · exact .quiet ht
  · exact .quiet ht

theorem releaseResults_sameRun (n : Byte) (s : State) : s.SameRun (releaseResults n s).1 := by
  unfold releaseResults
  split
  · exact .refl s
  · split <;> exact ⟨rfl, rfl, rfl, rfl, rfl, rfl, rfl⟩

/-- The owner of a request does one of these. -/
theorem runCall_does (c : Call) (s : State) : s.Does (runCall c s).1 := by
  cases c with
  | setParam id value => exact setParam_does id value s
  | closePage page count endByte => exact closePage_does page count endByte s
  | setChainage value =>
    show s.Does (setChainageTo value s).1
    unfold setChainageTo
    repeat' split
    all_goals exact .quiet ⟨rfl, rfl, rfl, rfl, rfl, rfl, rfl⟩
  | startRun page index => exact startRun_does page index s
  | pause => exact pauseRun_does s
  | resume => exact resumeRun_does s
  | confirm =>
    show s.Does (confirmSleeper s).1
    unfold confirmSleeper
    split
    · next hq hc => exact .confirms (awaitsConfirm_state hq) hc
    · exact .quiet (.refl s)
  | skipSleeper => exact skipSleeper_does s
  | abortSleeper => exact abortSleeper_does s
  | retamp =>
    show s.Does (retampSleeper s).1
    unfold retampSleeper
    split
    · next hq => exact .admits (.inl hq) ⟨rfl, rfl, rfl, rfl, rfl, rfl, rfl⟩
    · exact .quiet (.refl s)
  | stopRun =>
    show s.Does (stopRun s).1
    unfold stopRun
    split
    · exact .quiet (.refl s)
    · exact .ends
  | clearStop => exact clearStop_does s
  | releaseResults n =>
    show s.Does (releaseResultsRequest n s).1
    unfold releaseResultsRequest
    dsimp only
    split
    · next hq => exact .admits (.inr hq.1) (releaseResults_sameRun n s)
    · exact .quiet (releaseResults_sameRun n s)
  | getCounters clear =>
    show s.Does (getCounters clear s).1
    unfold getCounters
    split
    · exact .quiet (.refl s)
    · dsimp only
      split <;> exact .quiet ⟨rfl, rfl, rfl, rfl, rfl, rfl, rfl⟩
  | _ => exact .quiet ⟨rfl, rfl, rfl, rfl, rfl, rfl, rfl⟩

/-! ## The link -/

theorem State.Steps.of_same {u : State} (h : s.SameWork u) (ht : u.Steps t) : s.Steps t := by
  cases ht with
  | rests hu => exact .rests (h.trans hu)
  | does hr hu hd hv => exact .does (h.resetLow ▸ hr) (h.trans hu) hd hv
  | lowered hl =>
    refine .lowered (State.SameWork.trans ?_ hl)
    exact h.keeps (Law := fun x => (s.setResetLow true).SameWork (x.setResetLow true)) fun _ _ _ _ _ => rfl
  | follows hr i hl =>
    refine .follows (h.resetLow ▸ hr) i (State.SameWork.trans ?_ hl)
    exact h.keeps (Law := fun x => (s.setInputs i).SameWork (x.setInputs i)) fun _ _ _ _ _ => rfl
  | powered hp => exact .powered hp

theorem execute_steps (r : Request) (hr : s.resetLow = false) : s.Steps (execute r s) := by
  refine .does hr (.refl s) (runCall_does r.call s) ?_
  refine State.SameWork.trans ?_ (report_sameWork s _)
  refine State.SameWork.trans ?_ (requestActivity_sameWork r _ _)
  refine State.SameWork.trans ?_ (followAttention_sameWork s _)
  exact rfl

theorem executeOldest_steps (hr : s.resetLow = false) : s.Steps (executeOldest s) := by
  unfold executeOldest
  split
  · exact .rests (.refl s)
  · split
    · exact execute_steps _ hr
    · exact .rests (.refl s)

theorem request_steps (r : Request) (s : State) : s.Steps (request r s) := by
  have ha := (acceptRequest_turned r s).sameWork
  unfold request
  split
  · exact .rests (.refl s)
  · next hready =>
    have hr : s.resetLow = false := by simpa using (not_or.mp hready).1
    split
    · exact executeOldest_steps hr
    · split
      · exact .of_same ha (executeOldest_steps (ha.resetLow.trans hr))
      · exact .rests ha

/-! ## Events -/

theorem event_steps {f : State → State} (h : s.Does (f s)) : s.Steps (event f s) := by
  unfold event
  split
  · exact .rests (.refl s)
  · next hr =>
    exact .does (by simpa using hr) (.refl s) h ((followAttention_sameWork s _).trans (report_sameWork s _))

theorem event_turns {f : State → State} (h : s.SameWork (f s)) : s.SameWork (event f s) := by
  unfold event
  split
  · exact .refl s
  · exact h.trans ((followAttention_sameWork s _).trans (report_sameWork s _))

theorem levelEvent_steps {g : Inputs → Inputs} {f : State → State} (h : s.Does (f s)) : s.Steps (levelEvent g f s) := by
  cases hr : s.resetLow with
  | true => exact .follows hr (g s.inputs) (by rw [levelEvent, if_pos hr]; exact .refl _)
  | false => rw [levelEvent_eq hr]; exact event_steps h

/-- Bytes received turn the link alone (log entry 3). -/
theorem bytes_turn (bytes : List RxByte) (s : State) :
    s.SameWork (bytes.foldl (fun t b => event (takeByte b) t) s) := by
  induction bytes generalizing s with
  | nil => exact .refl s
  | cons b rest ih => exact (event_turns (takeByte_turned b s).sameWork).trans (ih _)

theorem takeSent_does (s : State) : s.Does (takeSent s) := by
  unfold takeSent
  split
  · exact .quiet (.refl s)
  · split
    · exact .quiet ⟨rfl, rfl, rfl, rfl, rfl, rfl, rfl⟩
    · split
      · exact .warmRestart
      · exact .quiet ⟨rfl, rfl, rfl, rfl, rfl, rfl, rfl⟩

theorem takeChain_does (closed : Bool) (s : State) : s.Does (takeChain closed s) := by
  unfold takeChain
  dsimp only
  split
  · exact .stopRaised _ ⟨rfl, rfl, rfl, rfl, rfl, rfl, rfl⟩
  · exact .quiet ⟨rfl, rfl, rfl, rfl, rfl, rfl, rfl⟩

theorem expireAxisLine_does (s : State) : s.Does (expireAxisLine s) := by
  unfold expireAxisLine
  split
  · exact .quiet (.refl s)
  · exact .stopRaised _ ⟨rfl, rfl, rfl, rfl, rfl, rfl, rfl⟩

theorem expireAttention_does (s : State) : s.Does (expireAttention s) := by
  unfold expireAttention
  split
  · exact .quiet (.refl s)
  · exact .quiet ⟨rfl, rfl, rfl, rfl, rfl, rfl, rfl⟩
  · exact .stopRaised _ (.refl s)

theorem takeDetection_does (s : State) : s.Does (takeDetection s) := by
  unfold takeDetection
  split
  · split
    · exact .quiet (.refl s)
    · dsimp only
      split <;> exact .quiet ⟨rfl, rfl, rfl, rfl, rfl, rfl, rfl⟩
  · exact .quiet (.refl s)

theorem clampLevel_tilt (clamp : Clamp) (closed : Bool) (i : Inputs) : (clampLevel clamp closed i).tilt = i.tilt := by
  cases clamp <;> rfl

end Requests

/-! ## Every command and every step -/

theorem exec_steps {c : Instr} {s t : State} (h : exec c s = .next t) : s.Steps t := by
  cases c with
  | loadRecords tag page first records =>
    simp only [exec, execLoadRecords] at h
    split at h
    · cases h; exact request_steps _ s
    · cases h
  | frameReceived bytes => cases h; exact .rests (bytes_turn bytes s)
  | gapLimitExpiry => cases h; exact .rests (event_turns (expireGap_turned s).sameWork)
  | frameSent => cases h; exact event_steps (takeSent_does s)
  | powerOnReset => cases h; exact .powered rfl
  | measuringFrame bytes intact => cases h; exact event_steps (.measuringFrame _)
  | silenceLimitExpiry => cases h; exact event_steps .silence
  | axisFrame frame => cases h; exact event_steps (.axisFrame frame)
  | axisLineSilenceExpiry => cases h; exact event_steps (expireAxisLine_does s)
  | safetyChainChange closed => cases h; exact levelEvent_steps (takeChain_does closed s)
  | operatorInputActive input =>
    cases h
    refine .rests (event_turns ?_)
    rw [activityFrom_eq]
    exact rfl
  | odometerCount forward => cases h; exact event_steps (.quiet ⟨rfl, rfl, rfl, rfl, rfl, rfl, rfl⟩)
  | detection => cases h; exact event_steps (takeDetection_does s)
  | halted => cases h; exact event_steps .halted
  | indexTimerExpiry => cases h; exact event_steps .indexTimer
  | clampSensorReport clamp closed =>
    cases h
    exact levelEvent_steps (.clampLevels ⟨rfl, rfl, rfl, clampLevel_tilt .., rfl, rfl, rfl⟩)
  | clampTimerExpiry => cases h; exact event_steps .clampTimer
  | correctionTimerExpiry => cases h; exact event_steps .correctionTimer
  | tiltSensorReport head arm report => cases h; exact levelEvent_steps (.tilt head arm report)
  | headRaisedSensorReport head raised =>
    cases h
    exact levelEvent_steps (.raised head ⟨rfl, rfl, rfl, rfl, rfl, rfl, rfl⟩)
  | traverseTimerExpiry head => cases h; exact event_steps (.traverseTimer head)
  | tiltTimerExpiry head => cases h; exact event_steps (.tiltTimer head)
  | penetrationTimerExpiry head => cases h; exact event_steps (.penetrationTimer head)
  | squeezeTimerExpiry head => cases h; exact event_steps (.squeezeTimer head)
  | attentionTimerExpiry => cases h; exact event_steps (expireAttention_does s)
  | receivedByte byte => cases h; exact .rests (event_turns (takeByte_turned byte s).sameWork)
  | resetLineLow => cases h; exact .lowered rfl
  | _ => cases h; exact request_steps _ s

/-- One step turns the link alone, carries out an event or a request, or resets. -/
theorem step_steps {s t : State} (h : step s = .next t) : s.Steps t := by
  unfold step at h
  split at h
  · cases h
    unfold idle
    split
    · exact .rests (.refl s)
    · next hr => exact executeOldest_steps (by simpa using hr)
  · next rest _ => exact .of_same (u := s.setPending rest) rfl (exec_steps h)

end Sys2Proof.Machine
end

section
/-! PROOFS. What can happen to one head (07), said once for each function of its record: the events it meets and the
orders of its sleeper, as changes of its phase. -/

namespace Sys2Proof.Machine

/-! ## The phase of a head -/

/-- The fields of a head record that say where it stands in its work (07 R120). -/
structure HeadPhase where
  state : HeadState
  outcome : Option HeadOutcome
  planned : Nat
  begun : Nat
  pending : Bool
  vibration : Bool

def HeadRecord.phase (h : HeadRecord) : HeadPhase :=
  ⟨h.state, h.outcome, h.planned, h.begun, h.preparePending, h.vibration⟩

/-- An entry to PARKED (07 R134): after the first axis frame a prepare order that waits is taken (log entry 11). -/
def HeadPhase.parked (e : HeadEnv) (p : HeadPhase) : HeadPhase :=
  if p.pending = true ∧ e.order.isSome = true ∧ e.awaits = false then
    { p with state := .preparing, pending := false, vibration := false }
  else { p with state := .parked, vibration := false }

/-- A second insertion is to come (07 R132). -/
def HeadPhase.comesBack (p : HeadPhase) : Prop := p.begun = 1 ∧ p.planned = 2 ∧ p.outcome = none

/-- ABORTED, unless the head had finished (07 R135). -/
def HeadPhase.aborted (p : HeadPhase) : Option HeadOutcome := p.outcome.or (some .aborted)

/-- What the sensors and timers of a head and its axis frames can do to its phase; `true` where it reports PARKED. -/
inductive HeadPhase.Meets (e : HeadEnv) (p : HeadPhase) : HeadPhase → Bool → Prop
  | stays : p.Meets e p false
  | ready (hs : p.state = .preparing) : p.Meets e { p with state := .ready } false
  | squeezes (hs : p.state = .penetrating) : p.Meets e { p with state := .squeezing } false
  | opens (o : Option HeadOutcome) (hs : p.state = .squeezing) (ho : o = p.outcome ∨ o ≠ none) :
      p.Meets e { p with state := .opening, outcome := o, vibration := false } false
  | leaves (o : HeadOutcome) (hs : p.state = .penetrating) :
      p.Meets e { p with state := .rising .full, outcome := some o, vibration := false } false
  | risesPartway (hs : p.state = .opening) (hc : p.comesBack) : p.Meets e { p with state := .rising .partway } false
  | risesFull (hs : p.state = .opening) : p.Meets e { p with state := .rising .full } false
  | reenters (hs : p.state = .rising .partway) (hg : e.guard = true) :
      p.Meets e { p with state := .penetrating, begun := p.begun + 1, vibration := true } false
  | turnsBack (hs : p.state = .rising .partway) :
      p.Meets e { p with state := .rising .full, outcome := some .tiltFault } false
  | sensedOut (ha : e.awaits = true) : p.Meets e { p with state := .rising .full, vibration := false } false
  | sensedIn (ha : e.awaits = true) : p.Meets e (p.parked e) true
  | parks (hs : p.state = .rising .full) : p.Meets e (p.parked e) true
  | faults (o : HeadOutcome) (hs : p.state = .preparing) :
      p.Meets e ({ p with outcome := some o }.parked e) true

/-- What can happen to the phase of a head between resets, but for the first axis frame: its events, and the orders of
its sleeper. -/
inductive HeadPhase.Turns (e : HeadEnv) (p : HeadPhase) : HeadPhase → Bool → Prop
  | meets {q : HeadPhase} {b : Bool} (h : p.Meets e q b) : p.Turns e q b
  | takesUp (n : Nat) (o : Option HeadOutcome) (ho : o = none ∨ o = some .notEngaged) :
      p.Turns e { p with planned := n, begun := 0, outcome := o } false
  | prepares (hs : p.state = .parked) (ha : e.awaits = false) :
      p.Turns e { p with state := .preparing, pending := false } false
  | pends : p.Turns e { p with pending := true } false
  | begins (hs : p.state = .ready) (hg : e.guard = true) :
      p.Turns e { p with state := .penetrating, begun := p.begun + 1, vibration := true } false
  | refused (hs : p.state = .ready) : p.Turns e ({ p with outcome := some .tiltFault }.parked e) true
  | unordered (hs : p.state = .parked) : p.Turns e { p with pending := false } false
  | finishes (hs : p.state = .parked ∨ p.state = .opening) :
      p.Turns e { p with outcome := p.aborted, pending := false } false
  | givesUp (hs : p.state = .preparing) :
      p.Turns e { p with state := .parked, outcome := p.aborted, pending := false, vibration := false } true
  | retreats (hs : p.state = .ready ∨ ∃ f, p.state = .rising f) :
      p.Turns e { p with state := .rising .full, outcome := p.aborted, pending := false } false
  | abandons (hs : p.state = .penetrating) :
      p.Turns e { p with state := .rising .full, outcome := p.aborted, pending := false, vibration := false } false
  | letsGo (hs : p.state = .squeezing) :
      p.Turns e { p with state := .opening, outcome := p.aborted, pending := false, vibration := false } false

section Functions

variable (e : HeadEnv) (h : HeadRecord)

/-! ## Each function of a head record -/

theorem HeadRecord.working_iff : h.working = true ↔ h.state = .penetrating ∨ h.state = .squeezing := by
  simp [HeadRecord.working]

theorem HeadRecord.park_phase : (h.park e).1.phase = h.phase.parked e ∧ (h.park e).2 = true := by
  unfold HeadRecord.park HeadPhase.parked
  rw [settle_eq]
  split
  · next hp ho ha => simp [HeadRecord.phase, HeadRecord.takePrepare, HeadRecord.commandTilt, hp, ho, ha]
  · next hno =>
    have hwaits : ¬(h.preparePending = true ∧ e.order.isSome = true ∧ e.awaits = false) := fun ⟨hp, ho, ha⟩ => by
      obtain ⟨o, ho⟩ := Option.isSome_iff_exists.mp ho
      exact hno o hp ho ha
    simp [HeadRecord.phase, hwaits]

theorem HeadRecord.testPrepared_meets : h.phase.Meets e (h.testPrepared e).phase false := by
  unfold HeadRecord.testPrepared
  split
  · next hs _ =>
    split
    · unfold HeadRecord.sendSet
      split <;> exact .ready hs
    · exact .stays
  · exact .stays

theorem HeadRecord.leaveBallast_meets (o : HeadOutcome) (hw : h.working = true) :
    h.phase.Meets e { h.leaveBallast with outcome := some o }.phase false := by
  rcases h.working_iff.mp hw with hs | hs
  · simpa [HeadRecord.phase, HeadRecord.leaveBallast, hs] using HeadPhase.Meets.leaves (e := e) (p := h.phase) o hs
  · simpa [HeadRecord.phase, HeadRecord.leaveBallast, hs] using
      HeadPhase.Meets.opens (e := e) (p := h.phase) (some o) hs (.inr (by simp))

/-- A head whose guard is broken is no longer PREPARING, so a tilt report does one of the two (07 R126, R128). -/
theorem HeadRecord.tilted_meets : h.phase.Meets e ((h.testGuard e).testPrepared e).phase false := by
  unfold HeadRecord.testGuard
  split
  · next hw =>
    have hkept : HeadRecord.testPrepared e { h.leaveBallast with outcome := some .tiltFault }
        = { h.leaveBallast with outcome := some .tiltFault } := by
      unfold HeadRecord.testPrepared
      split
      · next hs _ =>
        dsimp only [HeadRecord.leaveBallast] at hs
        split at hs <;> cases hs
      · rfl
    rw [hkept]
    exact h.leaveBallast_meets e _ hw.1
  · exact h.testPrepared_meets e

theorem HeadRecord.testRaised_meets : h.phase.Meets e (h.testRaised e).1.phase (h.testRaised e).2 := by
  unfold HeadRecord.testRaised
  split
  · next hs =>
    obtain ⟨hphase, hreport⟩ := h.park_phase e
    rw [hphase, hreport]
    exact .parks hs.1
  · exact .stays

theorem HeadRecord.onRaised_meets : h.phase.Meets e (h.onRaised e).1.phase (h.onRaised e).2 := by
  have hgiven : ∀ g : HeadRecord, g.phase = h.phase →
      h.phase.Meets e (if e.awaits then g.followRaised e else g.testRaised e).1.phase
        (if e.awaits then g.followRaised e else g.testRaised e).2 := fun g hg => by
    rw [← hg]
    split
    · next ha =>
      unfold HeadRecord.followRaised
      split
      · exact .sensedOut ha
      · split
        · exact .stays
        · obtain ⟨hphase, hreport⟩ := g.park_phase e
          rw [hphase, hreport]
          exact .sensedIn ha
    · exact g.testRaised_meets e
  unfold HeadRecord.onRaised
  exact hgiven _ (by split <;> rfl)

theorem HeadRecord.preparingFault_meets (o : HeadOutcome) (hs : h.state = .preparing) :
    h.phase.Meets e (h.preparingFault e o).1.phase (h.preparingFault e o).2 := by
  obtain ⟨hphase, hreport⟩ := HeadRecord.park_phase e { h with outcome := some o }
  rw [HeadRecord.preparingFault, hphase, hreport]
  exact .faults o hs

theorem HeadRecord.endSqueeze_meets (r : SqueezeResult) (hs : h.state = .squeezing) :
    h.phase.Meets e (h.endSqueeze r).phase false :=
  .opens _ hs (by unfold HeadRecord.endSqueeze; dsimp only; split; exacts [.inr (by simp), .inl rfl])

theorem HeadRecord.strike_meets (hs : h.state = .penetrating) : h.phase.Meets e h.strike.phase false :=
  h.leaveBallast_meets e .struck (h.working_iff.mpr (.inl hs))

theorem HeadRecord.onFrame_meets : h.phase.Meets e (h.onFrame e).1.phase (h.onFrame e).2 := by
  unfold HeadRecord.onFrame
  split
  · exact .stays
  · exact .stays
  · next o _ _ => exact HeadRecord.testPrepared_meets e { h with traverseSet := traverseStroke e o.target h.traverseSet }
  · next hs _ =>
    unfold HeadRecord.penetrate
    dsimp only
    split
    · exact .squeezes hs
    · exact .stays
  · next hs _ =>
    unfold HeadRecord.squeeze
    dsimp only
    split
    · exact HeadRecord.endSqueeze_meets e { h with depth := _, peak := _, squeezeSet := _ } _ hs
    · exact .stays
  · next hs =>
    unfold HeadRecord.open HeadRecord.riseForm
    dsimp only
    split
    · split
      · next hc => exact .risesPartway hs hc
      · exact .risesFull hs
    · exact .stays
  · exact HeadRecord.testRaised_meets e { h with verticalSet := stepToward riseStep 0 h.verticalSet }
  · next hs _ =>
    unfold HeadRecord.riseToReentry
    dsimp only
    split
    · split
      · next hg => exact .reenters hs hg
      · exact .turnsBack hs
    · exact .stays
  · exact .stays

theorem HeadRecord.takeUp_turns (o : HeadOrder) : h.phase.Turns e (h.takeUp o).phase false :=
  .takesUp _ _ (by unfold HeadRecord.takeUp; dsimp only; split; exacts [.inl rfl, .inr rfl])

theorem HeadRecord.orderPrepare_turns : h.phase.Turns e (h.orderPrepare e).phase false := by
  unfold HeadRecord.orderPrepare
  split
  · exact .meets .stays
  · split
    · split
      · next hp => exact .prepares hp.1 hp.2
      · exact .pends
    · exact .meets .stays

theorem HeadRecord.tampStart_turns : h.phase.Turns e (h.tampStart e).1.phase (h.tampStart e).2 := by
  unfold HeadRecord.tampStart
  split
  · next hs =>
    split
    · exact .meets .stays
    · split
      · next hg => exact .begins hs hg
      · obtain ⟨hphase, hreport⟩ := HeadRecord.park_phase e { h with outcome := some .tiltFault }
        rw [hphase, hreport]
        exact .refused hs
  · exact .meets .stays

theorem HeadRecord.goOut_turns : h.phase.Turns e (h.goOut e).1.phase (h.goOut e).2 := by
  unfold HeadRecord.goOut
  split
  · next hs =>
    split
    · exact .finishes (.inl hs)
    · exact .unordered hs
  · next hs => rw [HeadRecord.park_of_no_order rfl, settle_eq]; exact .givesUp hs
  · next hs => exact .retreats (.inl hs)
  · next hs =>
    have hleft : h.finishAborted.leaveBallast.phase = { h.phase with
        state := .rising .full, outcome := h.phase.aborted, pending := false, vibration := false } := by
      simp [HeadRecord.phase, HeadRecord.leaveBallast, HeadRecord.finishAborted, HeadPhase.aborted, hs]
    rw [hleft]
    exact .abandons hs
  · next hs =>
    have hleft : h.finishAborted.leaveBallast.phase = { h.phase with
        state := .opening, outcome := h.phase.aborted, pending := false, vibration := false } := by
      simp [HeadRecord.phase, HeadRecord.leaveBallast, HeadRecord.finishAborted, HeadPhase.aborted, hs]
    rw [hleft]
    exact .letsGo hs
  · next hs => exact .finishes (.inr hs)
  · next f hs => exact .retreats (.inr ⟨f, hs⟩)

/-- The first axis frame (07 R137): the head opens, rises in full or enters PARKED. -/
theorem HeadRecord.firstFrame_phase :
    ((h.firstFrame e).1.phase = { h.phase with state := .opening, vibration := false } ∧ (h.firstFrame e).2 = false)
      ∨ ((h.firstFrame e).1.phase = { h.phase with state := .rising .full, vibration := false }
        ∧ (h.firstFrame e).2 = false)
      ∨ ((h.firstFrame e).1.phase = h.phase.parked e ∧ (h.firstFrame e).2 = true) := by
  unfold HeadRecord.firstFrame
  dsimp only
  split
  · exact .inl ⟨rfl, rfl⟩
  · split
    · exact .inr (.inl ⟨rfl, rfl⟩)
    · exact .inr (.inr (h.park_phase e))

end Functions

/-! ## Laws of one head -/

section Laws

variable {e : HeadEnv} {p q : HeadPhase} {b : Bool}

/-- Vibration is on exactly in the ballast (07 R121). -/
def HeadPhase.steady (p : HeadPhase) : Prop := p.vibration = true ↔ p.state = .penetrating ∨ p.state = .squeezing

theorem HeadPhase.parked_steady : (p.parked e).steady := by
  unfold HeadPhase.parked
  split <;> simp [HeadPhase.steady]

theorem HeadPhase.Meets.steady (h : p.Meets e q b) (hp : p.steady) : q.steady := by
  cases h with
  | stays => exact hp
  | sensedIn ha => exact HeadPhase.parked_steady
  | parks hs => exact HeadPhase.parked_steady
  | faults o hs => exact HeadPhase.parked_steady
  | opens o hs ho => simp [HeadPhase.steady]
  | leaves o hs => simp [HeadPhase.steady]
  | sensedOut ha => simp [HeadPhase.steady]
  | reenters hs hg => simp [HeadPhase.steady]
  | ready hs => simpa [HeadPhase.steady, hs] using hp
  | squeezes hs => simpa [HeadPhase.steady, hs] using hp
  | risesPartway hs hc => simpa [HeadPhase.steady, hs] using hp
  | risesFull hs => simpa [HeadPhase.steady, hs] using hp
  | turnsBack hs => simpa [HeadPhase.steady, hs] using hp

theorem HeadPhase.Turns.steady (h : p.Turns e q b) (hp : p.steady) : q.steady := by
  cases h with
  | meets h => exact h.steady hp
  | takesUp n o ho => exact hp
  | pends => exact hp
  | unordered hs => exact hp
  | finishes hs => exact hp
  | begins hs hg => simp [HeadPhase.steady]
  | refused hs => exact HeadPhase.parked_steady
  | givesUp hs => simp [HeadPhase.steady]
  | abandons hs => simp [HeadPhase.steady]
  | letsGo hs => simp [HeadPhase.steady]
  | prepares hs ha => simpa [HeadPhase.steady, hs] using hp
  | retreats hs => rcases hs with hs | ⟨f, hs⟩ <;> simpa [HeadPhase.steady, hs] using hp

theorem HeadPhase.Meets.reports (h : p.Meets e q b) (hq : q.state = .parked) : p.state = .parked ∨ b = true := by
  cases h with
  | stays => exact .inl hq
  | sensedIn ha => exact .inr rfl
  | parks hs => exact .inr rfl
  | faults o hs => exact .inr rfl
  | _ => cases hq

/-- A head that comes to be PARKED reports it (07 R134). -/
theorem HeadPhase.Turns.reports (h : p.Turns e q b) (hq : q.state = .parked) : p.state = .parked ∨ b = true := by
  cases h with
  | meets h => exact h.reports hq
  | takesUp n o ho => exact .inl hq
  | pends => exact .inl hq
  | unordered hs => exact .inl hq
  | finishes hs => exact .inl hq
  | refused hs => exact .inr rfl
  | givesUp hs => exact .inr rfl
  | _ => cases hq

/-- A head before the first axis frame after a reset (07 R137, log entry 11). -/
structure HeadPhase.Unmoved (p : HeadPhase) : Prop where
  state : p.state = .parked ∨ p.state = .rising .full
  begun : p.begun = 0
  noTiltFault : p.outcome ≠ some .tiltFault
  noTraverseFault : p.outcome ≠ some .traverseFault

theorem HeadPhase.Unmoved.parked (h : p.Unmoved) (ha : e.awaits = true) : (p.parked e).Unmoved := by
  unfold HeadPhase.parked
  rw [if_neg (by simp [ha])]
  exact ⟨.inl rfl, h.begun, h.noTiltFault, h.noTraverseFault⟩

/-- In PARKED and in a full rise a head meets its head-raised sensor alone. -/
theorem HeadPhase.Meets.unmoved (h : p.Meets e q b) (ha : e.awaits = true) (hp : p.Unmoved) : q.Unmoved := by
  obtain ⟨hstate, hbegun, htilt, htraverse⟩ := id hp
  cases h with
  | stays => exact hp
  | sensedIn _ => exact hp.parked ha
  | parks _ => exact hp.parked ha
  | sensedOut _ => exact ⟨.inr rfl, hbegun, htilt, htraverse⟩
  | _ => simp_all

theorem HeadPhase.aborted_ne {o : HeadOutcome} (ho : o ≠ .aborted) (h : p.outcome ≠ some o) : p.aborted ≠ some o := by
  unfold HeadPhase.aborted
  cases hp : p.outcome with
  | none => simpa using ho.symm
  | some x => rw [hp] at h; exact h

theorem HeadPhase.Turns.unmoved (h : p.Turns e q b) (ha : e.awaits = true) (hp : p.Unmoved) : q.Unmoved := by
  obtain ⟨hstate, hbegun, htilt, htraverse⟩ := id hp
  have habort := And.intro (HeadPhase.aborted_ne (by decide) htilt) (HeadPhase.aborted_ne (by decide) htraverse)
  cases h with
  | meets h => exact h.unmoved ha hp
  | takesUp n o ho => rcases ho with rfl | rfl <;> exact ⟨hstate, rfl, by simp, by simp⟩
  | prepares _ hf => rw [ha] at hf; cases hf
  | pends => exact ⟨hstate, hbegun, htilt, htraverse⟩
  | unordered hs => exact ⟨hstate, hbegun, htilt, htraverse⟩
  | finishes hs => exact ⟨hstate, hbegun, habort.1, habort.2⟩
  | retreats hs => exact ⟨.inr rfl, hbegun, habort.1, habort.2⟩
  | _ => simp_all

end Laws

end Sys2Proof.Machine
end

section
/-! PROOFS. A law of each head by itself, and what it takes for every step to keep it: that the orders and events of one
head do (07 R121, R137, 08 R151). -/

namespace Sys2Proof.Machine

/-! ## Laws that each head keeps by itself -/

/-- What is asked of each head: of its phase, by whether the first axis frame is awaited and whether a release awaits the
head. -/
def State.Each (P : Bool → HeadPhase → Bool → Prop) (s : State) : Prop :=
  ∀ i : Fin 4, P s.awaitFrame (s.heads.get i).phase (s.lining.awaited.get i)

/-- A law that one head's orders and events keep, a release that begins to wait, the first axis frame and the resets. -/
structure HeadLaw (P : Bool → HeadPhase → Bool → Prop) : Prop where
  turns {e : HeadEnv} {p q : HeadPhase} {a b : Bool} (h : p.Turns e q b) (hp : P e.awaits p a) : P e.awaits q (a && !b)
  waits {w : Bool} {p : HeadPhase} {a : Bool} (hp : P w p a) : P w p (decide (p.state ≠ .parked))
  firstFrame {e : HeadEnv} {h : HeadRecord} {a : Bool} (ha : e.awaits = false) (hp : P true h.phase a) :
    P false (h.firstFrame e).1.phase (a && !(h.firstFrame e).2)
  powerOn (raised : Bool) : P true (HeadRecord.atPowerOn raised).phase false
  warm (raised : Bool) (h : HeadRecord) : P true (h.warmReset raised).phase false

/-- Vibration on exactly in the ballast (07 R121). -/
theorem steady_headLaw : HeadLaw fun _ p _ => p.steady where
  turns h hp := h.steady hp
  waits hp := hp
  firstFrame {e h _} _ _ := by
    rcases h.firstFrame_phase e with ⟨hk, -⟩ | ⟨hk, -⟩ | ⟨hk, -⟩ <;> rw [hk]
    · simp [HeadPhase.steady]
    · simp [HeadPhase.steady]
    · exact HeadPhase.parked_steady
  powerOn raised := by cases raised <;> simp [HeadPhase.steady, HeadRecord.phase, HeadRecord.atPowerOn]
  warm raised h := by
    cases raised <;> simp [HeadPhase.steady, HeadRecord.phase, HeadRecord.warmReset, HeadRecord.commandTilt]

/-- A head that a release awaits is not PARKED (08 R151). -/
theorem awaited_headLaw : HeadLaw fun _ p a => a = true → p.state ≠ .parked where
  turns {_ _ _ a b} h hp := fun hab hq => by
    obtain ⟨ha, hb⟩ := Bool.and_eq_true_iff.mp hab
    rcases h.reports hq with hs | hs
    · exact hp ha hs
    · rw [hs] at hb; cases hb
  waits _ := of_decide_eq_true
  firstFrame {e h _} _ _ := fun hab hq => by
    obtain ⟨-, hb⟩ := Bool.and_eq_true_iff.mp hab
    rcases h.firstFrame_phase e with ⟨hk, -⟩ | ⟨hk, -⟩ | ⟨-, hk⟩
    · rw [hk] at hq; cases hq
    · rw [hk] at hq; cases hq
    · rw [hk] at hb; cases hb
  powerOn _ := fun ha => nomatch ha
  warm _ _ := fun ha => nomatch ha

/-- Before the first axis frame every head is PARKED or in a full rise, with nothing begun (07 R137, log entry 11). -/
theorem unmoved_headLaw : HeadLaw fun w p _ => w = true → p.Unmoved where
  turns h hp := fun ha => h.unmoved ha (hp ha)
  waits hp := hp
  firstFrame _ _ := fun ha => nomatch ha
  powerOn raised := fun _ => ⟨by cases raised <;> simp [HeadRecord.phase, HeadRecord.atPowerOn], rfl, nofun, nofun⟩
  warm raised h := fun _ =>
    ⟨by cases raised <;> simp [HeadRecord.phase, HeadRecord.warmReset, HeadRecord.commandTilt], rfl, nofun, nofun⟩

section Each

variable {P : Bool → HeadPhase → Bool → Prop} {s t : State}

/-- A change of other blocks, and of other fields of the unit. -/
theorem State.Each.of_same (h : s.Each P) (hw : t.awaitFrame = s.awaitFrame) (hh : t.heads = s.heads)
    (ha : t.lining.awaited = s.lining.awaited) : t.Each P := fun i => by
  rw [hw, hh, ha]
  exact h i

theorem State.Each.of_sameRun (h : s.Each P) (ht : s.SameRun t) : t.Each P :=
  h.of_same ht.awaitFrame ht.heads (by rw [ht.lining])

theorem modLining_each {f : LiningUnit → LiningUnit} (hf : ∀ u, (f u).awaited = u.awaited) (h : s.Each P) :
    (s.modLining f).Each P := h.of_same rfl rfl (hf _)

/-! ## The heads take an event -/

theorem stepHead_each (law : HeadLaw P) {f : HeadEnv → HeadRecord → HeadStep} (i : Fin 4)
    (hf : (s.heads.get i).phase.Turns (s.headEnv i) (f (s.headEnv i) (s.heads.get i)).1.phase
      (f (s.headEnv i) (s.heads.get i)).2) (h : s.Each P) : (s.stepHead f i).Each P := fun j => by
  rw [stepHead_awaited, State.stepHead_get, (s.stepHead_keeps f i).2.2.2.1]
  by_cases hj : j = i
  · subst hj
    simpa using (show P s.awaitFrame _ _ from law.turns hf (h j))
  · simpa [hj] using h j

theorem stepHeads_each (law : HeadLaw P) {f : HeadEnv → HeadRecord → HeadStep}
    (hf : ∀ (e : HeadEnv) (h : HeadRecord), h.phase.Turns e (f e h).1.phase (f e h).2) (h : s.Each P) :
    (s.stepHeads f).Each P := by
  have step : ∀ i x, State.Each P x → (x.stepHead f i).Each P := fun i x => stepHead_each law i (hf _ _)
  exact step 3 _ (step 2 _ (step 1 _ (step 0 s h)))

theorem headsGoOut_each (law : HeadLaw P) (h : s.Each P) : s.headsGoOut.Each P :=
  stepHeads_each law (fun e k => k.goOut_turns e) h

theorem headsTakeUp_each (law : HeadLaw P) (h : s.Each P) : s.headsTakeUp.Each P :=
  stepHeads_each law (fun e k => by unfold quiet; dsimp only; split; exacts [k.takeUp_turns e _, .meets .stays]) h

theorem headsPrepare_each (law : HeadLaw P) (h : s.Each P) : s.headsPrepare.Each P :=
  stepHeads_each law (fun e k => k.orderPrepare_turns e) h

theorem headsTampStart_each (law : HeadLaw P) (h : s.Each P) : s.headsTampStart.Each P :=
  stepHeads_each law (fun e k => k.tampStart_turns e) h

/-- The first axis frame takes every head (07 R137). -/
theorem firstFrame_each (law : HeadLaw P) (hw : s.awaitFrame = true) (h : s.Each P) :
    ((s.setAwaitFrame false).stepHeads fun e k => k.firstFrame e).Each P := fun i => by
  rw [stepHeads_awaited, State.stepHeads_get, (State.stepHeads_keeps _ _).2.2.2.1]
  simpa using law.firstFrame (e := (s.setAwaitFrame false).headEnv i) rfl (hw ▸ h i)

/-- A release begins to wait for the heads that are not PARKED (08 R151). -/
theorem waits_each (law : HeadLaw P) (h : s.Each P) (hw : t.awaitFrame = s.awaitFrame) (hh : t.heads = s.heads)
    (ha : t.lining.awaited = s.lining.awaited ∨ t.lining.awaited = s.notParked) : t.Each P := by
  rcases ha with ha | ha
  · exact h.of_same hw hh ha
  · intro i
    rw [hw, hh, ha, State.notParked, Quad.get_map]
    exact law.waits (h i)

/-! ## The unit -/

theorem clampUnit_awaited (s : State) : (clampUnit s).lining.awaited = s.lining.awaited := by
  unfold clampUnit
  dsimp only
  split <;> simp [LiningUnit.clamp]

theorem reportOpen_awaited (s : State) : (reportOpen s).lining.awaited = s.lining.awaited := by
  unfold reportOpen
  split
  · exact clampUnit_awaited s
  · split
    · split <;> simp
    · rfl

theorem releaseUnit_awaited (s : State) : (releaseUnit s).lining.awaited = s.lining.awaited := by
  have hreleased : s.released.lining.awaited = s.lining.awaited := by simp [releaseOrder, axesHalted]
  rw [releaseUnit_eq]
  split
  · exact (reportOpen_awaited _).trans hreleased
  · exact hreleased

theorem releaseUnit_each (h : s.Each P) : (releaseUnit s).Each P :=
  h.of_same (by simp) (by simp) (releaseUnit_awaited s)

theorem abandon_awaited (u : LiningUnit) (held : Track Int) : (u.abandon held).awaited = u.awaited := by
  cases hu : u.state <;> simp [LiningUnit.abandon, LiningUnit.haltAll, hu]

theorem clampOrder_each (law : HeadLaw P) (c : Context) (h : s.Each P) : (clampOrder c s).Each P := by
  have ht : (s.modLining fun u => u.takeContext c).Each P := h.of_same rfl rfl rfl
  have hlater : ((s.modLining fun u => u.takeContext c).modLining fun u => u.clampLater
      (s.modLining fun u => u.takeContext c).trackSensed (s.modLining fun u => u.takeContext c).notParked).Each P :=
    waits_each law ht rfl rfl (.inr rfl)
  unfold clampOrder
  dsimp only
  split
  · exact ht.of_same (by simp) (by simp) (clampUnit_awaited _)
  · exact releaseUnit_each (ht.of_same rfl rfl rfl)
  all_goals exact hlater

theorem abort_awaited (u : LiningUnit) (held : Track Int) (waiting : Quad Bool) :
    (u.abort held waiting).awaited = u.awaited ∨ (u.abort held waiting).awaited = waiting := by
  have hkept := abandon_awaited { u with clampPending := false } held
  unfold LiningUnit.abort
  dsimp only
  split
  · exact .inl hkept
  · exact .inl hkept
  all_goals exact .inr rfl

theorem abortUnit_each (law : HeadLaw P) (h : s.Each P) : (abortUnit s).Each P :=
  waits_each law h rfl rfl (abort_awaited ..)

theorem stopRun_awaited (u : LiningUnit) (held : Track Int) (waiting : Quad Bool) :
    (u.stopRun held waiting).awaited = u.awaited ∨ (u.stopRun held waiting).awaited = waiting := by
  unfold LiningUnit.stopRun
  dsimp only
  split
  · exact .inr rfl
  · exact abort_awaited ..

theorem enterMeasuring_each (law : HeadLaw P) (c : Context) (h : s.Each P) : (enterMeasuring c s).Each P :=
  headsPrepare_each law (clampOrder_each law c (h.of_same (by simp) (by simp) (by simp)))

/-! ## Admission and positioning -/

theorem workContext_each (law : HeadLaw P) (h : s.Each P) : (workContext s).Each P := by
  have hrecorded : ∀ o, (afterRecording (recordSleeper o s)).Each P := fun o => h.of_same (by simp) (by simp) (by simp)
  unfold workContext
  split
  · exact h
  · split
    · exact hrecorded _
    · split
      · exact hrecorded _
      · split
        · exact h.of_same (by simp) (by simp) (by simp)
        · exact enterMeasuring_each law _ h

theorem takeContext_each (law : HeadLaw P) (record : SleeperRecord) (pos : Pos) (h : s.Each P) :
    (takeContext record pos s).Each P := headsTakeUp_each law (h.of_same rfl rfl rfl)

theorem admitSleeper_each (law : HeadLaw P) (h : s.Each P) : (admitSleeper s).Each P := by
  have hhold : ∀ r, (enterHold r s).Each P := fun r => h.of_same (by simp) (by simp) (by simp)
  unfold admitSleeper
  split
  · exact hhold _
  · split
    · exact hhold _
    · split
      · exact hhold _
      · split
        · exact hhold _
        · split
          · exact workContext_each law (takeContext_each law _ _ h)
          · exact h

theorem positioned_each (law : HeadLaw P) (h : s.Each P) : (positioned s).Each P := by
  unfold positioned
  dsimp only
  refine admitSleeper_each law (h.of_same ?_ ?_ ?_) <;> split <;> rfl

theorem takeHalted_each (law : HeadLaw P) (h : s.Each P) : (takeHalted s).Each P := by
  have ht : (s.modMove fun m => { m with timer := none }).Each P := h.of_same rfl rfl rfl
  unfold takeHalted
  dsimp only
  split
  · split
    · exact positioned_each law ht
    · exact h.of_same rfl rfl rfl
  · split
    · exact positioned_each law ht
    · exact h.of_same (by simp) (by simp) (by simp)
  all_goals exact h

/-! ## Windows, the approach and the clamps -/

theorem closeWindow_each (w : Window) (h : s.Each P) : (closeWindow w s).Each P := by
  unfold closeWindow
  split
  · exact h.of_same rfl rfl rfl
  · split
    · exact h.of_same (by simp) (by simp) (by rw [closePre_lining]; rfl)
    · exact h.of_same (by simp) (by simp) (by simp)

theorem stepAxes_awaited (u : LiningUnit) (awaits : Bool) (lost : Channels Bool) (live : Channels (Option Int))
    (sensed : Track Int) : (u.sentFrom awaits ((u.loseChannels lost sensed).stepAxes live sensed)).awaited = u.awaited := by
  cases awaits <;> rfl

theorem takeMeasuringFrame_each (samples : Channels (Option Int)) (h : s.Each P) :
    (takeMeasuringFrame samples s).Each P := by
  unfold takeMeasuringFrame
  split
  · exact h
  · split
    · exact closeWindow_each _ h
    · exact h.of_same rfl rfl rfl
  · unfold takeLive
    dsimp only
    split
    · split
      · exact h.of_same rfl rfl (stepAxes_awaited ..)
      · exact h.of_same (by simp) (by simp) (stepAxes_awaited ..)
    · exact h.of_same rfl rfl rfl

theorem expireSilence_each (h : s.Each P) : (expireSilence s).Each P := by
  unfold expireSilence
  split
  · exact h
  · exact closeWindow_each _ h
  · exact h

theorem expireCorrection_each (h : s.Each P) : (expireCorrection s).Each P := by
  unfold expireCorrection
  split
  · exact h.of_same (by simp) (by simp) rfl
  · exact h

theorem takeClampLevels_each (h : s.Each P) : (takeClampLevels s).Each P := by
  unfold takeClampLevels
  split
  · exact h.of_same (by simp) (by simp) (by simp)
  · split
    · exact h.of_same (by simp) (by simp) (reportOpen_awaited _)
    · exact h

theorem clampFailure_each (law : HeadLaw P) (h : s.Each P) : (clampFailure s).Each P := by
  unfold clampFailure
  split
  · have hout : (abortUnit (endMeasuring s).headsGoOut).Each P :=
      abortUnit_each law (headsGoOut_each law (h.of_same (by simp) (by simp) (by simp)))
    exact hout.of_same (by simp) (by simp) (by simp)
  · exact h

theorem releaseFailure_each (law : HeadLaw P) (h : s.Each P) : (releaseFailure s).Each P := by
  unfold releaseFailure
  split
  · exact clampFailure_each law h
  · split
    · split <;> exact h.of_same (by simp) (by simp) (by simp)
    · exact h

theorem expireClampTimer_each (law : HeadLaw P) (h : s.Each P) : (expireClampTimer s).Each P := by
  have ht : (s.modLining fun u => { u with clampTimer := none }).Each P := h.of_same rfl rfl rfl
  unfold expireClampTimer
  split
  · dsimp only
    split
    · exact clampFailure_each law ht
    · exact releaseFailure_each law ht
    all_goals exact ht
  · exact h

/-! ## The end of an event -/

theorem beginTamping_each (law : HeadLaw P) (h : s.Each P) : (beginTamping s).Each P := by
  unfold beginTamping
  split
  · exact h
  · split
    · exact headsTampStart_each law (h.of_same (by simp) (by simp) (by simp))
    · exact h

theorem endTamping_each (h : s.Each P) : (endTamping s).Each P := by
  unfold endTamping
  split
  · exact h
  · split
    · exact releaseUnit_each (h.of_same (by simp) (by simp) (by simp))
    · exact h

theorem releaseAfterHeads_each (h : s.Each P) : (releaseAfterHeads s).Each P := by
  unfold releaseAfterHeads
  split
  · exact releaseUnit_each h
  · exact h

theorem releaseFrozen_each (h : s.Each P) : (releaseFrozen s).Each P := by
  unfold releaseFrozen
  split
  · exact releaseUnit_each h
  · exact h

theorem settle_each (law : HeadLaw P) (h : s.Each P) : (settle s).Each P :=
  (releaseFrozen_each (releaseAfterHeads_each (endTamping_each (beginTamping_each law h)))).of_same
    (by simp [settle]) (by simp [settle]) (by simp [settle])

/-! ## Stops, axis frames and the heads' own events -/

theorem enterFaultStop_each (law : HeadLaw P) (h : s.Each P) : (enterFaultStop s).Each P := by
  have hout : (s.modChainage ChainageUnit.cancelTravel).headsGoOut.Each P :=
    headsGoOut_each law (h.of_same rfl rfl rfl)
  exact hout.of_same (by simp) (by simp [enterFaultStop]) (by simp [enterFaultStop, LiningUnit.freeze])

theorem raiseStop_each (law : HeadLaw P) (cause : StopCause) (h : s.Each P) : (raiseStop cause s).Each P := by
  unfold raiseStop
  dsimp only
  split
  · split
    · exact enterFaultStop_each law (h.of_same rfl rfl rfl)
    · exact h.of_same rfl rfl rfl
  · exact h.of_same rfl rfl rfl

/-- What a stop keeps, a check of an axis frame keeps. -/
theorem supervise_induction {I : State → Prop} (f : AxisFrame) (hsame : ∀ {x y : State}, x.SameRun y → I x → I y)
    (hstop : ∀ {x : State} (cause : StopCause), I x → I (raiseStop cause x)) (h : I s) : I (supervise f s) := by
  have hfold : ∀ (l : List Axis) (x : State), I x → I (l.foldl testAxis x) := fun l => by
    induction l with
    | nil => exact fun x hx => hx
    | cons a l ih =>
      refine fun x hx => ih _ ?_
      unfold testAxis
      split
      · exact hstop _ (hsame (x := x) ⟨rfl, rfl, rfl, rfl, rfl, rfl, rfl⟩ hx)
      · exact hx
  exact hfold _ _ (hsame (x := s) ⟨rfl, rfl, rfl, rfl, rfl, rfl, rfl⟩ h)

theorem cancelUnparked_sameRun (s : State) : s.SameRun (cancelUnparked s) := by
  rcases cancelUnparked_cases s with h | ⟨-, -, h⟩ <;> rw [h]
  · exact .refl s
  · exact ⟨rfl, rfl, rfl, rfl, rfl, rfl, rfl⟩

theorem senseFrame_sameRun (f : AxisFrame) (s : State) : s.SameRun (s.senseFrame f) := ⟨rfl, rfl, rfl, rfl, rfl, rfl, rfl⟩

theorem takeAxisFrame_each (law : HeadLaw P) (f : AxisFrame) (h : s.Each P) : (takeAxisFrame f s).Each P := by
  have hsensed := h.of_sameRun (senseFrame_sameRun f s)
  unfold takeAxisFrame
  dsimp only
  split
  · next hw =>
    refine settle_each law (State.Each.of_sameRun ?_ (cancelUnparked_sameRun _))
    exact modLining_each (fun _ => rfl) (firstFrame_each law hw hsensed)
  · refine settle_each law (stepHeads_each law (fun e k => .meets (k.onFrame_meets e)) ?_)
    exact supervise_induction f (fun hx he => he.of_sameRun hx) (fun c => raiseStop_each law c) hsensed

theorem takeRaised_each (law : HeadLaw P) (i : Fin 4) (h : s.Each P) : (takeRaised i s).Each P := by
  have ht : (s.stepHead (fun e k => k.onRaised e) i).Each P := stepHead_each law i (.meets (HeadRecord.onRaised_meets ..)) h
  unfold takeRaised
  refine settle_each law ?_
  split
  · exact ht.of_sameRun (cancelUnparked_sameRun _)
  · exact ht

theorem setHead_each (law : HeadLaw P) {i : Fin 4} {k : HeadRecord}
    (hk : (s.heads.get i).phase.Turns (s.headEnv i) k.phase false) (h : s.Each P) : (s.setHead i k).Each P :=
  stepHead_each law (f := fun _ _ => (k, false)) i hk h

theorem endRunNow_each (law : HeadLaw P) (h : s.Each P) : (endRunNow s).Each P := by
  have hout := headsGoOut_each law h
  refine waits_each law hout (by simp) (by simp [endRunNow]) ?_
  have hlining := stopRun_awaited s.headsGoOut.lining (heldTrack s) s.headsGoOut.notParked
  have hnot : (endRunNow s).notParked = s.headsGoOut.notParked := by simp [State.notParked, endRunNow]
  rwa [stopRun_eq, headsGoOut_lining, ← hnot, ← endRunNow_lining, ← headsGoOut_lining, hnot] at hlining

/-- An event of the machine, or the owner of a request, keeps a law of the heads. -/
theorem State.Does.each (law : HeadLaw P) (hd : s.Does t) (h : s.Each P) : t.Each P := by
  cases hd with
  | quiet hs => exact h.of_sameRun hs
  | stopRaised cause hs => exact raiseStop_each law cause (h.of_sameRun hs)
  | axisFrame f => exact takeAxisFrame_each law f h
  | measuringFrame samples => exact settle_each law (takeMeasuringFrame_each samples h)
  | silence => exact settle_each law (expireSilence_each h)
  | halted => exact settle_each law (takeHalted_each law h)
  | indexTimer => exact h.of_same (by simp) (by simp) (by simp)
  | clampLevels hs => exact settle_each law (takeClampLevels_each (h.of_sameRun hs))
  | clampTimer => exact settle_each law (expireClampTimer_each law h)
  | correctionTimer => exact settle_each law (expireCorrection_each h)
  | tilt i arm r =>
    exact settle_each law (stepHead_each law i (.meets (HeadRecord.tilted_meets ..)) (h.of_same rfl rfl rfl))
  | raised i hs => exact takeRaised_each law i (h.of_sameRun hs)
  | traverseTimer i =>
    unfold expireTraverse
    split
    · next hs => exact settle_each law (stepHead_each law i (.meets (HeadRecord.preparingFault_meets _ _ _ hs.1)) h)
    · exact h
  | tiltTimer i =>
    unfold expireTilt
    split
    · next hs => exact settle_each law (stepHead_each law i (.meets (HeadRecord.preparingFault_meets _ _ _ hs.1)) h)
    · exact h
  | penetrationTimer i =>
    unfold expirePenetration
    split
    · next hs => exact (setHead_each law (.meets (HeadRecord.strike_meets _ _ hs.1)) h).of_same rfl rfl rfl
    · exact h
  | squeezeTimer i =>
    unfold expireSqueeze
    split
    · next hs => exact setHead_each law (.meets (HeadRecord.endSqueeze_meets _ _ _ hs.1)) h
    · exact h
  | warmRestart =>
    intro i
    have hhead : (Machine.warmRestart s).heads.get i = (s.heads.get i).warmReset (s.inputs.raised.get i) :=
      Quad.get_ofFn ..
    have hawaited : (Machine.warmRestart s).lining.awaited.get i = false := Quad.get_all4 ..
    rw [hhead, hawaited]
    exact law.warm _ _
  | begins pos hq hu hp => exact settle_each law (h.of_same (by simp) (by simp) (by simp))
  | advances hq hs => exact settle_each law ((h.of_sameRun hs).of_same (by simp) (by simp) (by simp))
  | @readmits x hq hs =>
    have hx := h.of_sameRun hs
    refine settle_each law ?_
    unfold readmit
    dsimp only
    split
    · exact admitSleeper_each law (hx.of_same rfl rfl rfl)
    · exact hx.of_same rfl rfl rfl
  | retries hq hs => exact settle_each law (releaseUnit_each ((h.of_sameRun hs).of_same rfl rfl rfl))
  | confirms hq hc => exact settle_each law (enterMeasuring_each law _ h)
  | skips hq => exact settle_each law (h.of_same (by simp) (by simp) (by simp))
  | aborts hq =>
    have hout : (abortUnit (endMeasuring s).headsGoOut).Each P :=
      abortUnit_each law (headsGoOut_each law (h.of_same (by simp) (by simp) (by simp)))
    exact settle_each law (hout.of_same (by simp) (by simp [abortFlight]) (by simp [abortFlight]))
  | admits hq hs => exact settle_each law (admitSleeper_each law (h.of_sameRun hs))
  | ends => exact settle_each law (endRunNow_each law h)
  | clears hq hs => exact (h.of_sameRun hs).of_same (by simp) (by simp) (by simp)
  | crosses w hq hs => exact settle_each law ((h.of_sameRun hs).of_same (by simp) (by simp) (by simp))

/-- So does every step. -/
theorem State.Steps.each (law : HeadLaw P) (hstep : s.Steps t) (h : s.Each P) : t.Each P := by
  have hsame : ∀ {x y : State}, x.SameWork y → x.Each P → y.Each P := fun hx he => he.of_sameRun hx.sameRun
  cases hstep with
  | rests ht => exact hsame ht h
  | does hr hu hd hv => exact hsame hv (hd.each law (hsame hu h))
  | lowered ht => exact hsame ht (h.of_same rfl rfl rfl)
  | follows hr i ht => exact hsame ht (h.of_same rfl rfl rfl)
  | @powered u ht =>
    rw [ht]
    intro i
    simpa [powerOn, State.reset, Inputs.headsAtPowerOn, LiningUnit.atPowerOn] using law.powerOn (u.inputs.raised.get i)

end Each

/-! ## A release waits for a head (08 R151) -/

/-- A release after heads awaits a head. -/
def State.Backed (s : State) : Prop := s.lining.releaseAfterHeads = true → s.lining.awaited.anyTrue = true

section Backed

variable {s t : State}

theorem State.Backed.of_lining (h : s.Backed) (hl : t.lining = s.lining) : t.Backed := by
  unfold State.Backed
  rw [hl]
  exact h

theorem State.Backed.of_unmarked (h : t.lining.releaseAfterHeads = false) : t.Backed := fun hr => by
  rw [h] at hr; cases hr

theorem releaseUnit_backed (s : State) : (releaseUnit s).Backed := .of_unmarked (releaseUnit_marks s).1

/-- A release after heads that awaits no head any longer is taken at the end of the event. -/
theorem settle_backed (s : State) : (settle s).Backed := by
  have hafter : ∀ x, (releaseAfterHeads x).Backed := fun x => by
    unfold releaseAfterHeads
    split
    · exact releaseUnit_backed x
    · next hn => exact fun hr => by simpa [hr] using hn
  have hfrozen : ∀ x : State, x.Backed → (releaseFrozen x).Backed := fun x hx => by
    unfold releaseFrozen
    split
    · exact releaseUnit_backed x
    · exact hx
  exact (hfrozen _ (hafter (endTamping (beginTamping s)))).of_lining (by simp [settle])

theorem raiseStop_backed (cause : StopCause) (h : s.Backed) : (raiseStop cause s).Backed := by
  unfold raiseStop
  dsimp only
  split
  · split
    · exact .of_unmarked (by simp [enterFaultStop, LiningUnit.freeze])
    · exact h
  · exact h

theorem State.Does.backed (hd : s.Does t) (h : s.Backed) : t.Backed := by
  cases hd with
  | quiet hs => exact h.of_lining hs.lining
  | stopRaised cause hs => exact raiseStop_backed cause (h.of_lining hs.lining)
  | axisFrame f =>
    unfold takeAxisFrame
    dsimp only
    split <;> exact settle_backed _
  | indexTimer => exact h.of_lining (by simp)
  | traverseTimer i => unfold expireTraverse; split; exacts [settle_backed _, h]
  | tiltTimer i => unfold expireTilt; split; exacts [settle_backed _, h]
  | penetrationTimer i => unfold expirePenetration; split <;> exact h
  | squeezeTimer i => unfold expireSqueeze; split <;> exact h
  | warmRestart => exact .of_unmarked rfl
  | clears hq hs => exact h.of_lining (by simp [hs.lining])
  | _ => exact settle_backed _

theorem State.Steps.backed (hstep : s.Steps t) (h : s.Backed) : t.Backed := by
  have hsame : ∀ {x y : State}, x.SameWork y → x.Backed → y.Backed := fun hx he => he.of_lining hx.sameRun.lining
  cases hstep with
  | rests ht => exact hsame ht h
  | does hr hu hd hv => exact hsame hv (hd.backed (hsame hu h))
  | lowered ht => exact hsame ht h
  | follows hr i ht => exact hsame ht h
  | powered ht => rw [ht]; exact .of_unmarked rfl

end Backed

/-! ## The laws of the heads -/

theorem vibrationLaw_iff (s : State) : s.vibrationLaw ↔ s.Each fun _ p _ => p.steady := by
  refine forall_congr' fun i => ?_
  rw [Bool.eq_iff_iff, HeadRecord.working_iff]
  rfl

theorem awaitLaw_iff (s : State) : s.awaitLaw ↔ (s.Each fun _ p a => a = true → p.state ≠ .parked) ∧ s.Backed := Iff.rfl

/-- Settles O56: the orders and events of a head keep its vibration, and a head that comes to be PARKED reports it, so
that a release after heads no longer awaits it; the end of the event takes a release that awaits no head. -/
theorem stepKeepsHeadLaws : Obligations.StepKeepsHeadLaws := by
  intro s t h
  have hstep := step_steps h
  refine ⟨fun hv => ?_, fun ha => ?_⟩
  · exact (vibrationLaw_iff t).mpr (hstep.each steady_headLaw ((vibrationLaw_iff s).mp hv))
  · obtain ⟨heach, hbacked⟩ := (awaitLaw_iff s).mp ha
    exact (awaitLaw_iff t).mpr ⟨hstep.each awaited_headLaw heach, hstep.backed hbacked⟩

end Sys2Proof.Machine
end

section
/-! PROOFS. What the heads and the unit do by the state of the sequencer, and the penetration guard (06 R102 to R105, 07
R125 to R132, 08 R140, R141, R151): the laws head by head, and the states in which nothing is worked. -/

namespace Sys2Proof.Machine

/-! ## The phase of a head against its sleeper -/

/-- A head between the start of its first insertion and the end of its last (07 R129 to R132). -/
def HeadPhase.inserting (p : HeadPhase) : Prop :=
  (p.state = .penetrating ∨ p.state = .squeezing) ∨ p.state = .rising .partway
    ∨ (p.state = .opening ∧ p.outcome = none ∧ p.begun = 1 ∧ p.planned = 2)

/-- The phase of a head fits what its sleeper asks of it: it inserts only where it may insert, and prepares, or has a
prepare order pending, only where it may prepare (06 R102 to R104, log entry 11). -/
structure HeadPhase.Fits (inserts prepares : Prop) (awaits : Bool) (p : HeadPhase) : Prop where
  insertion : p.inserting → inserts
  preparation : p.state = .preparing ∨ p.state = .ready → prepares
  order : p.pending = true → prepares ∧ (p.state = .parked → awaits = true) ∧ p.state ≠ .preparing ∧ p.state ≠ .ready

/-- A head that neither inserts nor prepares, with no order pending. -/
def HeadPhase.Resting (p : HeadPhase) : Prop := p.Fits False False false

section Phase

variable {I R : Prop} {w : Bool} {e : HeadEnv} {p q : HeadPhase} {b : Bool}

theorem HeadPhase.Resting.fits (h : p.Resting) : p.Fits I R w :=
  ⟨fun hi => (h.insertion hi).elim, fun hp => (h.preparation hp).elim, fun ho => (h.order ho).1.elim⟩

/-- Where a head may neither insert nor prepare it rests. -/
theorem HeadPhase.Fits.resting (h : p.Fits I R w) (hi : ¬I) (hr : ¬R) : p.Resting :=
  ⟨fun hp => hi (h.insertion hp), fun hp => hr (h.preparation hp), fun hp => (hr (h.order hp).1).elim⟩

theorem HeadPhase.Fits.mono {I' R' : Prop} (h : p.Fits I R w) (hi : I → I') (hr : R → R') : p.Fits I' R' w :=
  ⟨fun hp => hi (h.insertion hp), fun hp => hr (h.preparation hp), fun hp => (h.order hp).imp_left hr⟩

/-- A head that enters PARKED fits: the order that waits is taken, but before the first axis frame. -/
theorem HeadPhase.parked_fits (hp : p.pending = true → R) (ho : R → e.order.isSome = true) :
    (p.parked e).Fits I R e.awaits := by
  unfold HeadPhase.parked
  split
  · next ht => exact ⟨by simp [HeadPhase.inserting], fun _ => hp ht.1, by simp⟩
  · next hn =>
    refine ⟨by simp [HeadPhase.inserting], by simp, fun hq => ⟨hp hq, fun _ => ?_, by simp, by simp⟩⟩
    simpa using fun ha => hn ⟨hq, ho (hp hq), ha⟩

/-- What a head meets leaves it fitting: only the end of an opening is a second insertion's, and only an order that waits
is taken. -/
theorem HeadPhase.Meets.fits (h : p.Meets e q b) (hp : p.Fits I R e.awaits) (ho : R → e.order.isSome = true) :
    q.Fits I R e.awaits := by
  obtain ⟨hins, hprep, hord⟩ := id hp
  have horder : p.pending = true → R := fun hq => (hord hq).1
  cases h with
  | stays => exact hp
  | sensedIn _ => exact HeadPhase.parked_fits horder ho
  | parks _ => exact HeadPhase.parked_fits horder ho
  | faults _ _ => exact HeadPhase.parked_fits horder ho
  | ready hs => exact ⟨by simp [HeadPhase.inserting], fun _ => hprep (.inl hs), fun hq => absurd hs (hord hq).2.2.1⟩
  | squeezes hs => exact ⟨fun _ => hins (.inl (.inl hs)), by simp, fun hq => ⟨horder hq, by simp⟩⟩
  | opens o hs _ => exact ⟨fun _ => hins (.inl (.inr hs)), by simp, fun hq => ⟨horder hq, by simp⟩⟩
  | leaves o hs => exact ⟨fun _ => hins (.inl (.inl hs)), by simp, fun hq => ⟨horder hq, by simp⟩⟩
  | reenters hs _ => exact ⟨fun _ => hins (.inr (.inl hs)), by simp, fun hq => ⟨horder hq, by simp⟩⟩
  | turnsBack hs => exact ⟨fun _ => hins (.inr (.inl hs)), by simp, fun hq => ⟨horder hq, by simp⟩⟩
  | risesFull hs => exact ⟨by simp [HeadPhase.inserting], by simp, fun hq => ⟨horder hq, by simp⟩⟩
  | sensedOut _ => exact ⟨by simp [HeadPhase.inserting], by simp, fun hq => ⟨horder hq, by simp⟩⟩
  | risesPartway hs hc =>
    obtain ⟨hb, hpl, hout⟩ := hc
    exact ⟨fun _ => hins (.inr (.inr ⟨hs, hout, hb, hpl⟩)), by simp, fun hq => ⟨horder hq, by simp⟩⟩

/-- The first axis frame leaves a head fitting: nothing was begun before it. -/
theorem HeadRecord.firstFrame_fits {h : HeadRecord} (hp : h.phase.Fits I R true) (hb : h.phase.begun = 0)
    (ho : R → e.order.isSome = true) (ha : e.awaits = false) : (h.firstFrame e).1.phase.Fits I R false := by
  have horder : h.phase.pending = true → R := fun hq => (hp.order hq).1
  rcases h.firstFrame_phase e with ⟨hk, -⟩ | ⟨hk, -⟩ | ⟨hk, -⟩ <;> rw [hk]
  · exact ⟨by simp [HeadPhase.inserting, hb], by simp, fun hq => ⟨horder hq, by simp⟩⟩
  · exact ⟨by simp [HeadPhase.inserting], by simp, fun hq => ⟨horder hq, by simp⟩⟩
  · exact ha ▸ HeadPhase.parked_fits horder ho

/-- A head that has gone out rests (07 R135). -/
theorem HeadRecord.goOut_resting (e : HeadEnv) (h : HeadRecord) : (h.goOut e).1.phase.Resting := by
  have hout := goOut_goesOut e h
  unfold GoesOut at hout
  dsimp only at hout
  have hfixed : (if h.outcome = none then some HeadOutcome.aborted else h.outcome) ≠ none := by
    split
    · simp
    · next hn => exact hn
  cases hs : h.state <;> rw [hs] at hout <;> dsimp only at hout <;> rw [hout]
  case parked =>
    split <;>
      exact ⟨by simp [HeadPhase.inserting, HeadRecord.phase], by simp [HeadRecord.phase], by simp [HeadRecord.phase]⟩
  all_goals
    exact ⟨by simp [HeadPhase.inserting, HeadRecord.phase, hfixed], by simp [HeadRecord.phase],
      by simp [HeadRecord.phase]⟩

end Phase

/-! ## The guard (07 R127) -/

/-- The enabled mask of the sleeper in flight (02 R40). -/
def State.mask (s : State) : Option TineMask := s.seq.context.map Context.enabled

/-- Every head in the ballast has its guard (07 R127). -/
def State.Guarded (s : State) : Prop := ∀ i : Fin 4, (s.heads.get i).working = true → (s.headEnv i).guard = true

theorem armsOf_get (m : TineMask) (i k : Fin 4) : (armsOf m i).get k = armIn m i k := Quad.get_ofFn ..

theorem confirmed_tiltOut (r : TiltReport) : confirmed .tiltOut r = true ↔ r = .tiltOut := by simp [confirmed]

theorem guardArmsOut_iff (arms : Quad Bool) (tilt : Quad TiltReport) :
    guardArmsOut arms tilt = true ↔ ∀ k : Fin 4, arms.get k = false → tilt.get k = .tiltOut := by
  simp only [guardArmsOut, Quad.allTrue_iff, Quad.get_ofFn, Bool.or_eq_true, confirmed_tiltOut]
  refine forall_congr' fun k => ?_
  cases arms.get k <;> simp

/-- The unit HOLDING, and every arm outside the enabled mask confirmed tilted out. -/
theorem guard_iff (s : State) (i : Fin 4) : (s.headEnv i).guard = true ↔ s.lining.state = .holding
    ∧ ∃ c : Context, s.seq.context = some c
      ∧ ∀ k : Fin 4, armIn c.enabled i k = false → (s.inputs.tilt.get i).get k = .tiltOut := by
  have harms : ∀ c : Context, (c.order i).arms = armsOf c.enabled i := fun _ => rfl
  unfold HeadEnv.guard State.headEnv
  cases hc : s.seq.context with
  | none => simp
  | some c => simp [guardArmsOut_iff, harms, armsOf_get]

theorem guard_congr {s t : State} {i : Fin 4} (hl : t.lining.state = s.lining.state) (hm : t.mask = s.mask)
    (ht : t.inputs.tilt.get i = s.inputs.tilt.get i) : (t.headEnv i).guard = (s.headEnv i).guard := by
  have hread : ∀ x : State, (x.headEnv i).guard = true ↔ x.lining.state = .holding
      ∧ ∃ m : TineMask, x.mask = some m
        ∧ ∀ k : Fin 4, armIn m i k = false → (x.inputs.tilt.get i).get k = .tiltOut := fun x => by
    rw [guard_iff]
    cases hc : x.seq.context <;> simp [State.mask, hc]
  rw [Bool.eq_iff_iff, hread, hread, hl, hm, ht]

/-! ## The laws head by head -/

/-- The sleeper in flight lets a head insert (06 R103). -/
def State.mayInsert (s : State) (i : Fin 4) : Prop := s.seq.state = .tamping ∧ s.engages i

/-- The sleeper in flight lets a head prepare (06 R102). -/
def State.mayPrepare (s : State) (i : Fin 4) : Prop :=
  (s.seq.state = .measuring ∨ s.seq.state = .correcting) ∧ s.engages i

section States

variable {s t : State}

theorem inserting_iff (h : HeadRecord) : h.inserting ↔ h.phase.inserting := by
  rw [HeadRecord.inserting, HeadRecord.working_iff]
  rfl

theorem headPhaseLaw_iff (s : State) :
    s.headPhaseLaw ↔ ∀ i : Fin 4, (s.heads.get i).phase.Fits (s.mayInsert i) (s.mayPrepare i) s.awaitFrame := by
  refine forall_congr' fun i => ?_
  rw [inserting_iff]
  constructor
  · rintro ⟨hins, hprep, hord⟩
    exact ⟨hins, hprep, fun hq => ⟨⟨(hord hq).1, (hord hq).2.1⟩, (hord hq).2.2⟩⟩
  · rintro ⟨hins, hprep, hord⟩
    exact ⟨hins, hprep, fun hq => ⟨(hord hq).1.1, (hord hq).1.2, (hord hq).2⟩⟩

theorem firstFrameLaw_iff (s : State) : s.firstFrameLaw ↔ s.Each fun w p _ => w = true → p.Unmoved := by
  constructor
  · intro h i ha
    obtain ⟨hs, hb, ht, hv⟩ := h ha i
    exact ⟨hs, hb, ht, hv⟩
  · intro h ha i
    obtain ⟨hs, hb, ht, hv⟩ := h i ha
    exact ⟨hs, hb, ht, hv⟩

theorem engages_congr {i : Fin 4} (hm : t.mask = s.mask) : t.engages i ↔ s.engages i := by
  have hread : ∀ x : State, x.engages i ↔ ∃ m : TineMask, x.mask = some m ∧ engagedIn m i = true := fun x => by
    cases hc : x.seq.context <;> simp [State.engages, State.mask, hc, Context.engaged]
  rw [hread, hread, hm]

/-- A head that may prepare has its order in the context. -/
theorem order_of_mayPrepare {i : Fin 4} (h : s.mayPrepare i) : (s.headEnv i).order.isSome = true := by
  obtain ⟨-, c, hc, -⟩ := h
  simp [State.headEnv, hc]

/-! ## States in which nothing is worked -/

/-- Every head rests. -/
def State.HeadsRest (s : State) : Prop := ∀ i : Fin 4, (s.heads.get i).phase.Resting

/-- No window is open. -/
def State.NoWindow (s : State) : Prop := ∀ w : Window, s.measuring ≠ .window w

/-- The heads rest, no window is open, and a release after heads waits at a unit that neither releases nor is OPEN nor
can clamp any more: what stands between two sleepers. -/
structure State.Free (s : State) : Prop where
  rest : s.HeadsRest
  noWindow : s.NoWindow
  later : s.lining.releaseAfterHeads = true → s.lining.state ≠ .isOpen ∧ s.lining.state ≠ .releasing
    ∧ (s.lining.state = .clamping → s.lining.clampTimer = none)
  first : s.Each fun w p _ => w = true → p.Unmoved

/-- What the heads and the unit do by the state of the sequencer, with the guard of the heads in the ballast. -/
structure State.Phased (s : State) : Prop where
  heads : s.headPhaseLaw
  unit : s.unitPhaseLaw
  guard : s.Guarded
  first : s.Each fun w p _ => w = true → p.Unmoved

/-- The states of the sequencer in which no sleeper is worked: all but MEASURING, CORRECTING, TAMPING, RELEASING. -/
def SeqState.between (q : SeqState) : Prop := q ≠ .measuring ∧ q ≠ .correcting ∧ q ≠ .tamping ∧ q ≠ .releasing

theorem State.HeadsRest.headPhaseLaw (h : s.HeadsRest) : s.headPhaseLaw :=
  (headPhaseLaw_iff s).mpr fun i => (h i).fits

theorem State.HeadsRest.of_heads (h : s.HeadsRest) (hh : t.heads = s.heads) : t.HeadsRest := fun i => by
  rw [hh]
  exact h i

theorem headsRest_of_state (h : s.headPhaseLaw) (hm : s.seq.state ≠ .measuring) (hc : s.seq.state ≠ .correcting)
    (ht : s.seq.state ≠ .tamping) : s.HeadsRest := fun i =>
  ((headPhaseLaw_iff s).mp h i).resting (fun hi => ht hi.1) fun hp => hp.1.elim hm hc

/-- Outside TAMPING no head is in the ballast. -/
theorem guarded_of_state (h : s.headPhaseLaw) (ht : s.seq.state ≠ .tamping) : s.Guarded := fun i hw =>
  absurd ((h i).1 (.inl hw)).1 ht

theorem headPhaseLaw_of_same (h : s.headPhaseLaw) (hh : t.heads = s.heads) (hw : t.awaitFrame = s.awaitFrame)
    (hq : t.seq.state = s.seq.state) (hm : t.mask = s.mask) : t.headPhaseLaw := by
  rw [headPhaseLaw_iff] at h ⊢
  intro i
  rw [hh, hw]
  refine (h i).mono ?_ ?_
  · exact fun hi => ⟨hq.trans hi.1, (engages_congr hm).mpr hi.2⟩
  · exact fun hi => ⟨hq ▸ hi.1, (engages_congr hm).mpr hi.2⟩

theorem unitPhaseLaw_of_same (h : s.unitPhaseLaw) (hm : t.measuring = s.measuring) (hl : t.lining = s.lining)
    (hq : t.seq.state = s.seq.state) : t.unitPhaseLaw := by
  unfold State.unitPhaseLaw
  rw [hm, hl, hq]
  exact h

theorem State.Phased.of_same (h : s.Phased) (hh : t.heads = s.heads) (hw : t.awaitFrame = s.awaitFrame)
    (hq : t.seq.state = s.seq.state) (hx : t.mask = s.mask) (hm : t.measuring = s.measuring) (hl : t.lining = s.lining)
    (ht : t.inputs.tilt = s.inputs.tilt) : t.Phased where
  heads := headPhaseLaw_of_same h.heads hh hw hq hx
  unit := unitPhaseLaw_of_same h.unit hm hl hq
  guard i hk := by
    rw [guard_congr (by rw [hl]) hx (by rw [ht])]
    exact h.guard i (by rwa [hh] at hk)
  first := h.first.of_same hw hh (by rw [hl])

theorem State.SameRun.mask (h : s.SameRun t) : t.mask = s.mask := by rw [State.mask, h.context]; rfl

theorem State.Phased.of_sameRun (h : s.Phased) (ht : s.SameRun t) : t.Phased :=
  h.of_same ht.heads ht.awaitFrame ht.state ht.mask ht.measuring ht.lining ht.tilt

theorem State.Free.of_same (h : s.Free) (hh : t.heads = s.heads) (hm : t.measuring = s.measuring)
    (hl : t.lining = s.lining) (hw : t.awaitFrame = s.awaitFrame) : t.Free where
  rest := h.rest.of_heads hh
  noWindow w := by rw [hm]; exact h.noWindow w
  later := by rw [hl]; exact h.later
  first := h.first.of_same hw hh (by rw [hl])

theorem State.Free.of_sameRun (h : s.Free) (ht : s.SameRun t) : t.Free :=
  h.of_same ht.heads ht.measuring ht.lining ht.awaitFrame

/-- With no window open and no release to come the unit's law asks only about TAMPING. -/
theorem unitPhaseLaw_of_unmarked (ht : s.seq.state ≠ .tamping) (hw : s.NoWindow)
    (hr : s.lining.releaseAfterHeads = false) : s.unitPhaseLaw :=
  ⟨fun hq => absurd hq ht, fun w hm => absurd hm (hw w), fun hl => by rw [hr] at hl; cases hl⟩

/-- Where the part is free every law stands in a state in which no sleeper is worked. -/
theorem State.Free.phased (h : s.Free) (hq : s.seq.state.between) : s.Phased := by
  obtain ⟨-, hc, ht, hr⟩ := hq
  refine ⟨h.rest.headPhaseLaw, ⟨fun hs => absurd hs ht, fun w hm => absurd hm (h.noWindow w), fun hl => ?_⟩,
    guarded_of_state h.rest.headPhaseLaw ht, h.first⟩
  obtain ⟨ho, hrel, hclamp⟩ := h.later hl
  exact ⟨hc, ht, hr, fun hu => (hu.elim ho hrel).elim, fun hu => absurd hu hrel, hclamp⟩

/-- A window is open in MEASURING and in RELEASING alone. -/
theorem noWindow_of_state (h : s.unitPhaseLaw) (hm : s.seq.state ≠ .measuring) (hr : s.seq.state ≠ .releasing) :
    s.NoWindow := fun w hw => by
  obtain ⟨-, hpre, hfinal⟩ := h.2.1 w hw
  cases hk : w.kind with
  | pre => exact hm (hpre hk).1
  | final => exact hr (hfinal hk).1

/-- Nor is one where the unit is neither CLAMPED nor OPEN. -/
theorem noWindow_of_unit (h : s.unitPhaseLaw) (hc : s.lining.state ≠ .clamped) (ho : s.lining.state ≠ .isOpen) :
    s.NoWindow := fun w hw => by
  obtain ⟨-, hpre, hfinal⟩ := h.2.1 w hw
  cases hk : w.kind with
  | pre => exact hc (hpre hk).2
  | final => exact ho (hfinal hk).2

theorem later_of_state (h : s.unitPhaseLaw) (hi : s.seq.state ≠ .idle) (hr : s.lining.releaseAfterHeads = true) :
    s.lining.state ≠ .isOpen ∧ s.lining.state ≠ .releasing
      ∧ (s.lining.state = .clamping → s.lining.clampTimer = none) := by
  obtain ⟨-, -, -, hidle, -, hclamp⟩ := h.2.2 hr
  exact ⟨fun ho => hi (hidle (.inl ho)), fun ho => hi (hidle (.inr ho)), hclamp⟩

/-- Between two sleepers of a run the part is free. -/
theorem State.Phased.free (h : s.Phased) (hq : s.seq.state.between) (hi : s.seq.state ≠ .idle) : s.Free where
  rest := headsRest_of_state h.heads hq.1 hq.2.1 hq.2.2.1
  noWindow := noWindow_of_state h.unit hq.1 hq.2.2.2
  later := later_of_state h.unit hi
  first := h.first

theorem unmarked_of_state (h : s.unitPhaseLaw)
    (hq : s.seq.state = .correcting ∨ s.seq.state = .tamping ∨ s.seq.state = .releasing) :
    s.lining.releaseAfterHeads = false := by
  refine Bool.eq_false_iff.mpr fun hr => ?_
  obtain ⟨hc, ht, hl, -⟩ := h.2.2 hr
  rcases hq with hq | hq | hq
  · exact hc hq
  · exact ht hq
  · exact hl hq

theorem unmarked_of_window (h : s.unitPhaseLaw) {w : Window} (hw : s.measuring = .window w) :
    s.lining.releaseAfterHeads = false := (h.2.1 w hw).1

end States

end Sys2Proof.Machine
end

section
/-! PROOFS. The operations of the sleeper cycle keep what the heads and the unit do by the state of the sequencer (06
R100 to R117, 07 R124, R125, 08 R140 to R151). -/

namespace Sys2Proof.Machine

section Operations

variable {s t : State}

/-- Outside TAMPING the guard asks nothing. -/
theorem phased_of_state (hh : s.headPhaseLaw) (hu : s.unitPhaseLaw) (ht : s.seq.state ≠ .tamping)
    (hf : s.Each fun w p _ => w = true → p.Unmoved) : s.Phased := ⟨hh, hu, guarded_of_state hh ht, hf⟩

/-! ## The run goes on (06 R106, R108) -/

theorem between_of_wentOn {q : Sequencer} (h : q.wentOn) : q.state.between := by
  rcases h with h | h | h | ⟨h, -⟩ <;> simp [SeqState.between, h]

theorem between_of_stopped {q : SeqState} (h : q = .paused ∨ q = .hold) : q.between ∧ q ≠ .idle := by
  rcases h with rfl | rfl <;> simp [SeqState.between]

theorem State.Free.continues (h : s.Free) : (continueRun s).Phased :=
  (h.of_same (by simp) (by simp) (by simp) (by simp)).phased (between_of_wentOn (continueRun_wentOn s))

theorem State.Free.advances (h : s.Free) : (advanceRun s).Phased :=
  (h.of_same (by simp) (by simp) (by simp) (by simp)).phased (between_of_wentOn (advanceRun_wentOn s))

theorem State.Free.recorded (h : s.Free) (o : SleeperOutcome) : (recordSleeper o s).Free :=
  h.of_same (by simp) (by simp) (by simp) (by simp)

theorem State.Free.goesOn (h : s.Free) (o : SleeperOutcome) : (afterRecording (recordSleeper o s)).Phased :=
  State.Free.continues ((h.recorded o).of_same rfl rfl rfl rfl)

theorem State.Free.held (h : s.Free) (r : HoldReason) : (enterHold r s).Phased :=
  State.Free.phased (h.of_same (by simp) (by simp) (by simp) (by simp)) (by simp [enterHold, SeqState.between])

theorem State.Free.indexes (h : s.Free) : (enterState .indexing s).Phased :=
  State.Free.phased (h.of_same rfl rfl rfl rfl) (by simp [enterState, SeqState.between])

/-! ## The unit (08 R140, R149, R151) -/

theorem headPhaseLaw_of_seq (h : s.headPhaseLaw) (hh : t.heads = s.heads) (hw : t.awaitFrame = s.awaitFrame)
    (hq : t.seq = s.seq) : t.headPhaseLaw :=
  headPhaseLaw_of_same h hh hw (by rw [hq]) (by rw [State.mask, hq]; rfl)

/-- A window opens where its unit stands. -/
theorem openWindow_unit {k : WindowKind} (hw : s.NoWindow) (hr : s.lining.releaseAfterHeads = false)
    (ht : s.seq.state ≠ .tamping) (hpre : k = .pre → s.seq.state = .measuring ∧ s.lining.state = .clamped)
    (hfinal : k = .final → s.seq.state = .releasing ∧ s.lining.state = .isOpen) : (openWindow k s).unitPhaseLaw := by
  unfold openWindow
  split
  · refine ⟨fun hq => absurd hq ht, fun w hm => ?_, fun hl => absurd hl (by simp [hr])⟩
    cases hm
    exact ⟨hr, hpre, hfinal⟩
  · exact unitPhaseLaw_of_unmarked ht hw hr

/-- A unit that clamps opens the PRE window only in CLAMPED (06 R102, 08 R140). -/
theorem clampUnit_unit (hw : s.NoWindow) (hr : s.lining.releaseAfterHeads = false) (ht : s.seq.state ≠ .tamping) :
    (clampUnit s).unitPhaseLaw := by
  have hrest : (s.modLining fun u => u.clamp s.inputs).unitPhaseLaw := unitPhaseLaw_of_unmarked ht hw hr
  unfold clampUnit
  dsimp only
  split
  · next hu =>
    unfold reportClamped
    split
    · next hq => exact openWindow_unit hw hr ht (fun _ => ⟨hq, hu⟩) nofun
    · exact hrest
  · exact hrest

/-- A unit that reports OPEN clamps again, opens the FINAL window or goes on with the run (06 R105, 08 R149). -/
theorem reportOpen_phased (hh : s.headPhaseLaw) (hf : s.Each fun w p _ => w = true → p.Unmoved) (hw : s.NoWindow)
    (hr : s.lining.releaseAfterHeads = false) (ht : s.seq.state ≠ .tamping) (ho : s.lining.state = .isOpen) :
    (reportOpen s).Phased := by
  unfold reportOpen
  split
  · exact phased_of_state (headPhaseLaw_of_seq hh (by simp) (by simp) (by simp)) (clampUnit_unit hw hr ht) (by simpa)
      (hf.of_same (by simp) (by simp) (clampUnit_awaited s))
  · split
    · next hq =>
      split
      · exact phased_of_state (headPhaseLaw_of_seq hh (by simp) (by simp) (by simp))
          (openWindow_unit hw hr ht nofun fun _ => ⟨hq, ho⟩) (by simpa) (hf.of_same (by simp) (by simp) (by simp))
      · have hrest : s.HeadsRest := headsRest_of_state hh (by simp [hq]) (by simp [hq]) ht
        exact State.Free.continues ⟨hrest, hw, fun hl => absurd hl (by simp [hr]), hf⟩
    · exact phased_of_state hh (unitPhaseLaw_of_unmarked ht hw hr) ht hf

theorem endLive_noWindow (h : s.NoWindow) : (endLive s).NoWindow := by
  unfold endLive
  split
  · exact fun _ hm => nomatch hm
  · exact h

/-- A release order leaves no release to come. -/
theorem releaseUnit_phased (hh : s.headPhaseLaw) (hf : s.Each fun w p _ => w = true → p.Unmoved) (hw : s.NoWindow)
    (ht : s.seq.state ≠ .tamping) : (releaseUnit s).Phased := by
  have hheads : s.released.headPhaseLaw := headPhaseLaw_of_seq hh (by simp) (by simp [State.released]) (by simp)
  have hfirst : s.released.Each fun w p _ => w = true → p.Unmoved :=
    hf.of_same (by simp [State.released]) (by simp) (by simp [releaseOrder, axesHalted])
  have hwindow : s.released.NoWindow := endLive_noWindow (s := s.setLining _) hw
  have hmark : s.released.lining.releaseAfterHeads = false := by simp [releaseOrder]
  have hstate : s.released.seq.state ≠ .tamping := by simpa
  rw [releaseUnit_eq]
  split
  · next ho => exact reportOpen_phased hheads hfirst hwindow hmark hstate ho
  · exact phased_of_state hheads (unitPhaseLaw_of_unmarked hstate hwindow hmark) hstate hfirst

/-- A release leaves the sequencer in MEASURING. -/
theorem clampOrder_seq (c : Context) (hq : s.seq.state = .measuring) : (clampOrder c s).seq = s.seq := by
  unfold clampOrder
  dsimp only
  split
  · simp
  · exact releaseUnit_seq (.inl (by simp [hq]))
  all_goals rfl

/-- A clamp order in MEASURING, where the part is free (06 R102, 08 R140). -/
theorem clampOrder_unit (c : Context) (h : s.Free) (hq : s.seq.state = .measuring) : (clampOrder c s).unitPhaseLaw := by
  have hmarks : s.lining.state = .isOpen ∨ s.lining.state = .releasing → s.lining.releaseAfterHeads = false :=
    fun hu => Bool.eq_false_iff.mpr fun hr => hu.elim (h.later hr).1 (h.later hr).2.1
  have ht : s.seq.state ≠ .tamping := by simp [hq]
  by_cases ho : s.lining.state = .isOpen
  · rw [clampOrder_open ho]
    exact clampUnit_unit (s := s.setLining _) h.noWindow (hmarks (.inl ho)) ht
  · by_cases hr : s.lining.state = .releasing
    · rw [clampOrder_releasing hr]
      exact (releaseUnit_phased (s := s.setLining { s.lining.takeContext c with clampPending := true })
        (headPhaseLaw_of_seq h.rest.headPhaseLaw rfl rfl rfl) (h.first.of_same rfl rfl rfl) h.noWindow ht).unit
    · rw [clampOrder_later ho hr]
      refine ⟨fun hs => absurd hs ht, fun w hm => absurd hm (h.noWindow w), fun _ => ?_⟩
      have hkept : (abortOrder (heldTrack s) s.notParked (s.lining.takeContext c)).state = s.lining.state := by
        cases hu : s.lining.state <;> simp [abortOrder, axesHalted, LiningUnit.takeContext, hu]
      have htimer : s.lining.state = .clamping →
          (abortOrder (heldTrack s) s.notParked (s.lining.takeContext c)).clampTimer = none := fun hu => by
        simp [abortOrder, LiningUnit.takeContext, hu]
      simp only [State.setLining_lining, State.setLining_seq, hq, hkept, ho, hr]
      exact ⟨nofun, nofun, nofun, fun hu => (hu.elim id id).elim, fun hu => hu.elim, htimer⟩

/-! ## The entry to MEASURING (06 R102, 07 R125) -/

/-- A head that rests and takes its prepare order, or holds it pending. -/
theorem HeadRecord.orderPrepare_fits {I R : Prop} {e : HeadEnv} {h : HeadRecord} (hr : h.phase.Resting)
    (ho : ∀ o, e.order = some o → o.engaged = true → R) : (h.orderPrepare e).phase.Fits I R e.awaits := by
  unfold HeadRecord.orderPrepare
  split
  · exact hr.fits
  · next o hsome =>
    split
    · next he =>
      have hprepares := ho o hsome he
      split
      · exact ⟨by simp [HeadPhase.inserting, HeadRecord.phase, HeadRecord.takePrepare, HeadRecord.commandTilt],
          fun _ => hprepares, by simp [HeadRecord.phase, HeadRecord.takePrepare, HeadRecord.commandTilt]⟩
      · next hn =>
        refine ⟨fun hi => (hr.insertion hi).elim, fun _ => hprepares, fun _ => ⟨hprepares, fun hs => ?_,
          fun hs => (hr.preparation (.inl hs)).elim, fun hs => (hr.preparation (.inr hs)).elim⟩⟩
        simpa using fun ha => hn ⟨hs, ha⟩
    · exact hr.fits

theorem unitPhaseLaw_of_awaited {a : Quad Bool} (h : s.unitPhaseLaw) (hm : t.measuring = s.measuring)
    (hq : t.seq.state = s.seq.state) (hl : t.lining = { s.lining with awaited := a }) : t.unitPhaseLaw := by
  unfold State.unitPhaseLaw
  rw [hm, hq, hl]
  exact h

theorem stepHeads_unit (h : s.unitPhaseLaw) (f : HeadEnv → HeadRecord → HeadStep) : (s.stepHeads f).unitPhaseLaw := by
  obtain ⟨a, ha⟩ := s.stepHeads_lining f
  exact unitPhaseLaw_of_awaited h (by simp) (by simp) ha

/-- The prepare orders of MEASURING to heads that rest. -/
theorem headsPrepare_phased (hr : s.HeadsRest) (hu : s.unitPhaseLaw) (hq : s.seq.state = .measuring)
    (hf : s.Each fun w p _ => w = true → p.Unmoved) : s.headsPrepare.Phased := by
  refine phased_of_state ((headPhaseLaw_iff _).mpr fun i => ?_) (stepHeads_unit hu _) (by simp [hq])
    (headsPrepare_each unmoved_headLaw hf)
  have hmay : ∀ o, (s.headEnv i).order = some o → o.engaged = true → s.headsPrepare.mayPrepare i := fun o ho he => by
    obtain ⟨c, hc, rfl⟩ := Option.map_eq_some_iff.mp ho
    exact ⟨.inl (by simpa), c, by simpa, he⟩
  have hfits := HeadRecord.orderPrepare_fits (I := s.headsPrepare.mayInsert i) (hr i) hmay
  simpa [State.headsPrepare, State.stepHeads_get, quiet, State.headEnv] using hfits

theorem State.Free.measures (h : s.Free) (c : Context) : (enterMeasuring c s).Phased := by
  have hfree : (enterState .measuring s).Free := h.of_same rfl rfl rfl rfl
  exact headsPrepare_phased (h.rest.of_heads (by simp)) (clampOrder_unit c hfree rfl)
    (by rw [clampOrder_seq c rfl]; rfl) (clampOrder_each unmoved_headLaw c hfree.first)

/-! ## Admission and positioning (03 R50 to R54, 06 R100, R101) -/

theorem HeadRecord.takeUp_resting {h : HeadRecord} (hr : h.phase.Resting) (o : HeadOrder) : (h.takeUp o).phase.Resting where
  insertion := by
    rintro (hw | hp | ⟨-, -, hb, -⟩)
    · exact hr.insertion (.inl hw)
    · exact hr.insertion (.inr (.inl hp))
    · cases hb
  preparation := hr.preparation
  order := hr.order

theorem State.Free.of_awaited {a : Quad Bool} (h : s.Free) (hr : t.HeadsRest)
    (hf : t.Each fun w p _ => w = true → p.Unmoved) (hm : t.measuring = s.measuring)
    (hl : t.lining = { s.lining with awaited := a }) : t.Free where
  rest := hr
  noWindow w := by rw [hm]; exact h.noWindow w
  later := by rw [hl]; exact h.later
  first := hf

theorem State.Free.takesContext (h : s.Free) (record : SleeperRecord) (pos : Pos) : (takeContext record pos s).Free := by
  obtain ⟨a, ha⟩ := State.stepHeads_lining _ (quiet fun e k => match e.order with
    | some o => k.takeUp o
    | none => k)
  refine h.of_awaited (fun i => ?_) (takeContext_each unmoved_headLaw record pos h.first) (by simp [takeContext]) ha
  rw [takeContext, State.headsTakeUp, State.stepHeads_get, quiet]
  dsimp only
  split
  · exact HeadRecord.takeUp_resting (h.rest i) _
  · exact h.rest i

theorem State.Free.works (h : s.Free) (hq : s.seq.state.between) : (workContext s).Phased := by
  unfold workContext
  split
  · exact h.phased hq
  · split
    · exact h.goesOn _
    · split
      · exact h.goesOn _
      · split
        · exact h.held _
        · exact h.measures _

theorem State.Free.admits (h : s.Free) (hq : s.seq.state.between) : (admitSleeper s).Phased := by
  unfold admitSleeper
  split
  · exact h.held _
  · split
    · exact h.held _
    · split
      · exact h.held _
      · split
        · exact h.held _
        · split
          · exact (h.takesContext _ _).works (by simpa [takeContext] using hq)
          · exact h.phased hq

theorem State.Free.admits_of_sameRun (h : s.Free) (hq : s.seq.state.between) (ht : s.SameRun t) :
    (admitSleeper t).Phased := (h.of_sameRun ht).admits (ht.state ▸ hq)

theorem State.Free.positioned (h : s.Free) (hq : s.seq.state.between) : (positioned s).Phased := by
  refine h.admits_of_sameRun hq ?_
  split <;> exact ⟨rfl, rfl, rfl, rfl, rfl, rfl, rfl⟩

theorem State.Free.readmits (h : s.Free) (hq : s.seq.state.between) : (readmit s).Phased := by
  have ht : (s.modSeq fun q =>
      { q with kind := if q.advanceOwed then .retamp else .readmission, resumeAction := none }).Free :=
    h.of_same rfl rfl rfl rfl
  unfold readmit
  dsimp only
  split
  · exact ht.admits hq
  · exact ht.indexes

/-- A stop of the drive is judged in INDEXING, where the part is free. -/
theorem takeHalted_phased (h : s.Phased) (hc : s.cycleLaw) : (takeHalted s).Phased := by
  cases hd : s.chainage.move.demandActive with
  | false => rwa [takeHalted_of_noDemand hd]
  | true =>
    have hq : s.seq.state = .indexing := hc.2.1 hd
    have hfree : s.Free := h.free (by simp [SeqState.between, hq]) (by simp [hq])
    cases hw : s.chainage.withinTolerance with
    | true =>
      rw [takeHalted_within hd hw]
      exact State.Free.positioned (hfree.of_same rfl rfl rfl rfl) (by simp [SeqState.between, State.modMove, hq])
    | false =>
      cases hm : s.chainage.move.state with
      | firstMove =>
        rw [takeHalted_first_beyond hm hw]
        exact h.of_same rfl rfl rfl rfl rfl rfl rfl
      | correctionMove =>
        rw [takeHalted_correction_beyond hm hw]
        exact State.Free.phased (hfree.of_same rfl rfl rfl rfl) (by simp [SeqState.between, State.positionFault])
      | _ => simp [IndexMove.demandActive, hm] at hd

theorem expireIndexTimer_phased (h : s.Phased) (hc : s.cycleLaw) : (expireIndexTimer s).Phased := by
  unfold expireIndexTimer
  split
  · next hd =>
    have hq : s.seq.state = .indexing := hc.2.1 hd.1
    have hfree : s.Free := h.free (by simp [SeqState.between, hq]) (by simp [hq])
    exact State.Free.held (hfree.of_sameRun (t := s.modChainage _) ⟨rfl, rfl, rfl, rfl, rfl, rfl, rfl⟩) _
  · exact h

end Operations

end Sys2Proof.Machine
end

section
/-! PROOFS. What the heads and the unit do by the state of the sequencer, kept at the close of a window, on the approach,
at the clamps, at stops and at the end of an event (06 R102 to R105, R116 to R118, 08 R140 to R152). -/

namespace Sys2Proof.Machine

section Unit

variable {s t : State}

/-! ## Changes of one block -/

/-- A change of the unit that leaves its state and its marks, and at most stops the clamp timer. -/
theorem State.Phased.setUnit {u : LiningUnit} (h : s.Phased) (hs : u.state = s.lining.state)
    (hr : u.releaseAfterHeads = s.lining.releaseAfterHeads) (hp : u.clampPending = s.lining.clampPending)
    (ht : u.clampTimer = s.lining.clampTimer ∨ u.clampTimer = none) (ha : u.awaited = s.lining.awaited) :
    (s.setLining u).Phased where
  heads := h.heads
  unit := by
    obtain ⟨htamp, hwindow, hmark⟩ := h.unit
    refine ⟨fun hq => hs.trans (htamp hq), fun w hm => ?_, fun hl => ?_⟩
    · simp only [State.setLining_lining, State.setLining_seq, hs, hr]
      exact hwindow w hm
    · obtain ⟨hc, hta, hrel, hidle, hpend, htimer⟩ := hmark (hr ▸ hl)
      simp only [State.setLining_lining, State.setLining_seq, hs, hp]
      exact ⟨hc, hta, hrel, hidle, hpend, fun hu => ht.elim (fun he => he.trans (htimer hu)) id⟩
  guard i hk := by
    rw [guard_congr (t := s.setLining u) hs rfl rfl]
    exact h.guard i hk
  first := h.first.of_same rfl rfl ha

/-- Measuring without a window. -/
theorem State.Phased.setMeasuring {m : Measuring} (h : s.Phased) (hm : ∀ w, m = .window w →
    ∃ v, s.measuring = .window v ∧ v.kind = w.kind) : (s.setMeasuring m).Phased where
  heads := h.heads
  unit := by
    obtain ⟨htamp, hwindow, hmark⟩ := h.unit
    refine ⟨htamp, fun w hw => ?_, hmark⟩
    obtain ⟨v, hv, hk⟩ := hm w hw
    rw [← hk]
    exact hwindow v hv
  guard := h.guard
  first := h.first.of_same rfl rfl rfl

/-! ## The close of a window (04 R69 to R71, 06 R102, R105) -/

/-- The PRE window closes into CORRECTING, with the heads as they are. -/
theorem closePre_phased (w : Window) {c : Context} (h : s.Phased) (hc : s.seq.context = some c)
    (hq : s.seq.state = .measuring) (hr : s.lining.releaseAfterHeads = false) : (closePre w c s).Phased := by
  have hmask : (closePre w c s).mask = s.mask := by rw [State.mask, State.mask, closePre_seq, hc]; rfl
  have hstate : (closePre w c s).seq.state = .correcting := by rw [closePre_seq]
  have hheads : (closePre w c s).headPhaseLaw := (headPhaseLaw_iff _).mpr fun i => by
    have hfits := (headPhaseLaw_iff s).mp h.heads i
    rw [(closePre_keeps s w c).2.2.2.1, show (closePre w c s).heads = s.heads by simp]
    refine hfits.mono (fun hi => ?_) fun hp => ⟨.inr hstate, (engages_congr hmask).mpr hp.2⟩
    have hno := hi.1
    simp [hq] at hno
  refine phased_of_state hheads (unitPhaseLaw_of_unmarked (by simp [hstate]) (fun v hv => ?_) ?_) (by simp [hstate])
    (h.first.of_same (by simp) (by simp) (by rw [closePre_lining]; rfl))
  · rw [closePre_measuring] at hv; cases hv
  · rw [closePre_lining]; exact hr

theorem closeWindow_phased {v : Window} (w : Window) (h : s.Phased) (hv : s.measuring = .window v)
    (hk : w.kind = v.kind) : (closeWindow w s).Phased := by
  obtain ⟨hmark, hpre, hfinal⟩ := h.unit.2.1 v hv
  cases hc : s.seq.context with
  | none =>
    rw [closeWindow, hc]
    exact h.setMeasuring nofun
  | some c =>
    cases hkind : w.kind with
    | pre =>
      rw [closeWindow_pre hc hkind]
      exact closePre_phased w h hc (hpre (hk ▸ hkind)).1 hmark
    | final =>
      have hq := (hfinal (hk ▸ hkind)).1
      have hfree : (s.setMeasuring .noWindow).Free :=
        ⟨headsRest_of_state h.heads (by simp [hq]) (by simp [hq]) (by simp [hq]), nofun,
          fun hl => absurd hl (by simp [hmark]), h.first.of_same rfl rfl rfl⟩
      rw [closeWindow_final hc hkind]
      exact State.Free.goesOn (hfree.of_same (by simp) (by simp) (by simp) (by simp)) _

theorem expireSilence_phased (h : s.Phased) : (expireSilence s).Phased := by
  unfold expireSilence
  split
  · exact h
  · next w hw => exact closeWindow_phased w h hw rfl
  · exact h

/-! ## The approach (08 R143 to R147) -/

/-- APPROACHING is left for HOLDING (08 R145). -/
theorem enterHolding_phased (last : Channels (Option Int)) (h : s.Phased) (hu : s.lining.state = .approaching)
    (hw : s.NoWindow) : (enterHolding last s).Phased := by
  have hmask : (enterHolding last s).mask = s.mask := by
    cases hc : s.seq.context with
    | none => simp [State.mask, enterHolding, State.modContext, State.modLining, hc]
    | some c => rw [enterHolding_eq hc, State.mask, State.mask, hc]; rfl
  have hstate : (enterHolding last s).seq.state = s.seq.state := by simp [enterHolding, State.modContext]
  have hunit : ∃ a, (enterHolding last s).lining = { s.lining with
      state := .holding, correctionTimer := none, approach := a } :=
    ⟨_, by simp [enterHolding, State.modContext, State.modLining]; rfl⟩
  obtain ⟨a, hlining⟩ := hunit
  have ht : s.seq.state ≠ .tamping := fun hq => by
    have hholds := h.unit.1 hq
    simp [hu] at hholds
  refine phased_of_state (headPhaseLaw_of_same h.heads (by simp) (by simp) hstate hmask) ?_ (hstate ▸ ht)
    (h.first.of_same (by simp) (by simp) (by rw [hlining]))
  refine ⟨fun hq => absurd (hstate ▸ hq) ht, fun w hm => absurd (by simpa using hm) (hw w), fun hl => ?_⟩
  rw [hlining] at hl ⊢
  obtain ⟨hc, hta, hrel, -⟩ := h.unit.2.2 hl
  rw [hstate]
  exact ⟨hc, hta, hrel, fun hx => (hx.elim nofun nofun), nofun, nofun⟩

theorem stepAxes_keeps (u : LiningUnit) (awaits : Bool) (lost : Channels Bool) (live : Channels (Option Int))
    (sensed : Track Int) :
    (u.sentFrom awaits ((u.loseChannels lost sensed).stepAxes live sensed)).state = u.state
      ∧ (u.sentFrom awaits ((u.loseChannels lost sensed).stepAxes live sensed)).releaseAfterHeads = u.releaseAfterHeads
      ∧ (u.sentFrom awaits ((u.loseChannels lost sensed).stepAxes live sensed)).clampPending = u.clampPending
      ∧ (u.sentFrom awaits ((u.loseChannels lost sensed).stepAxes live sensed)).clampTimer = u.clampTimer := by
  cases awaits <;> exact ⟨rfl, rfl, rfl, rfl⟩

theorem takeMeasuringFrame_phased (samples : Channels (Option Int)) (h : s.Phased) :
    (takeMeasuringFrame samples s).Phased := by
  unfold takeMeasuringFrame
  split
  · exact h
  · next w hw =>
    split
    · exact closeWindow_phased _ h hw rfl
    · exact h.setMeasuring fun v hv => ⟨w, hw, by cases hv; rfl⟩
  · next l hl =>
    have hlive : ∀ l' : Live, (s.setMeasuring (.live l')).Phased := fun l' => h.setMeasuring nofun
    unfold takeLive
    dsimp only
    split
    · next ha =>
      have hstepped : ∀ (l' : Live) (lost : Channels Bool) (held : Track Int), ((s.setMeasuring (.live l')).setLining
          (s.lining.sentFrom s.awaitFrame ((s.lining.loseChannels lost held).stepAxes samples held))).Phased :=
        fun l' lost held => by
          obtain ⟨hstate, hmark, hpending, htimer⟩ := stepAxes_keeps s.lining s.awaitFrame lost samples held
          exact (hlive l').setUnit hstate hmark hpending (.inl htimer) (stepAxes_awaited ..)
      split
      · exact hstepped _ _ _
      · exact enterHolding_phased _ (hstepped _ _ _) ((stepAxes_keeps ..).1.trans (of_decide_eq_true ha)) nofun
    · exact hlive _

theorem expireCorrection_phased (h : s.Phased) : (expireCorrection s).Phased := by
  unfold expireCorrection
  split
  · next hu =>
    exact enterHolding_phased _ (h.setUnit (u := s.lining.expireApproach s.trackSensed) rfl rfl rfl (.inl rfl) rfl) hu.1
      (noWindow_of_unit (s := s) h.unit (by simp [hu.1]) (by simp [hu.1]))
  · exact h

/-! ## The sensors of the clamps (08 R141, R149) -/

/-- A clamp closed in CLAMPING, with its timer running: no release after heads stands (08 R151). -/
theorem closes_phased (h : s.Phased) (hc : s.lining.closes s.inputs = true) :
    (reportClamped (s.modLining fun u => { u with state := .clamped, clampTimer := none })).Phased := by
  obtain ⟨⟨⟨hu, htimer⟩, -⟩, -⟩ := by simpa [LiningUnit.closes] using hc
  have hr : s.lining.releaseAfterHeads = false := Bool.eq_false_iff.mpr fun hr => by
    simp [(h.unit.2.2 hr).2.2.2.2.2 hu] at htimer
  have hw : s.NoWindow := noWindow_of_unit h.unit (by simp [hu]) (by simp [hu])
  have ht : s.seq.state ≠ .tamping := fun hq => by
    have hholds := h.unit.1 hq
    simp [hu] at hholds
  refine phased_of_state (headPhaseLaw_of_seq h.heads (by simp) (by simp) (by simp)) ?_ (by simpa)
    (h.first.of_same (by simp) (by simp) (by simp))
  unfold reportClamped
  split
  · next hq => exact openWindow_unit hw hr ht (fun _ => ⟨hq, rfl⟩) nofun
  · exact unitPhaseLaw_of_unmarked ht hw hr

/-- A release that STOP_RUN left to the heads stands when the unit opens in IDLE (08 R149, R151). -/
theorem opens_phased (h : s.Phased) (hu : s.lining.state = .releasing) :
    (reportOpen (s.modLining LiningUnit.enterOpen)).Phased := by
  have hw : s.NoWindow := noWindow_of_unit h.unit (by simp [hu]) (by simp [hu])
  have ht : s.seq.state ≠ .tamping := fun hq => by
    have hholds := h.unit.1 hq
    simp [hu] at hholds
  have hfirst : (s.modLining LiningUnit.enterOpen).Each fun w p _ => w = true → p.Unmoved := h.first.of_same rfl rfl rfl
  cases hr : s.lining.releaseAfterHeads with
  | false => exact reportOpen_phased (s := s.modLining _) h.heads hfirst hw hr ht rfl
  | true =>
    obtain ⟨-, -, -, hidle, hpending, -⟩ := h.unit.2.2 hr
    have hq : s.seq.state = .idle := hidle (.inr hu)
    rw [reportOpen_rests (s := s.modLining LiningUnit.enterOpen) (hpending hu) (by simp [hq])]
    refine phased_of_state h.heads ⟨fun hs => absurd hs ht, fun w hm => absurd hm (hw w), fun _ => ?_⟩ ht hfirst
    simp [State.modLining, LiningUnit.enterOpen, hq]

theorem takeClampLevels_phased (h : s.Phased) : (takeClampLevels s).Phased := by
  unfold takeClampLevels
  split
  · next hc => exact closes_phased h hc
  · split
    · next ho =>
      obtain ⟨⟨hu, -⟩, -⟩ := by simpa [LiningUnit.opens] using ho
      exact opens_phased h hu
    · exact h

/-! ## Failures of the clamps, and the orders that end a sleeper early (06 R105, R114 to R117) -/

/-- After an abort order a release waits only where it was left to the heads (08 R151). -/
theorem abort_later (u : LiningUnit) (held : Track Int) (waiting : Quad Bool)
    (h : u.releaseAfterHeads = true → u.state ≠ .isOpen ∧ u.state ≠ .releasing)
    (hr : (u.abort held waiting).releaseAfterHeads = true) : (u.abort held waiting).state ≠ .isOpen
      ∧ (u.abort held waiting).state ≠ .releasing
      ∧ ((u.abort held waiting).state = .clamping → (u.abort held waiting).clampTimer = none) := by
  cases hu : u.state <;> simp_all [LiningUnit.abort, LiningUnit.abandon, LiningUnit.releaseLater, LiningUnit.haltAll]

theorem headsGoOut_rest (s : State) : s.headsGoOut.HeadsRest := fun i => by
  rw [State.headsGoOut_get]
  exact HeadRecord.goOut_resting _ _

/-- The sleeper in flight ended early: the heads go out, the window is discarded, the unit has its abort order. -/
theorem State.Phased.aborted (h : s.Phased) (hi : s.seq.state ≠ .idle) : (abortUnit (endMeasuring s).headsGoOut).Free where
  rest := (headsGoOut_rest (endMeasuring s)).of_heads rfl
  noWindow w hw := by simp [abortUnit, State.modLining, endMeasuring] at hw
  later := by
    refine abort_later _ _ _ fun hr => ?_
    rw [headsGoOut_lining] at hr ⊢
    obtain ⟨ho, hrel, -⟩ := later_of_state h.unit hi hr
    exact ⟨ho, hrel⟩
  first := abortUnit_each unmoved_headLaw (headsGoOut_each unmoved_headLaw (h.first.of_same rfl rfl rfl))

theorem State.Free.modSeq (h : s.Free) (f : Sequencer → Sequencer) : (s.modSeq f).Free := h.of_same rfl rfl rfl rfl

theorem clampFailure_phased (h : s.Phased) : (clampFailure s).Phased := by
  unfold clampFailure
  split
  · next hq => exact (((h.aborted (by simp [hq])).recorded .aborted).modSeq _).held _
  · exact h

theorem releaseFailure_phased (h : s.Phased) (hu : s.lining.state = .releasing) : (releaseFailure s).Phased := by
  unfold releaseFailure
  split
  · exact clampFailure_phased h
  · split
    · next hq =>
      have hfree : s.Free :=
        ⟨headsRest_of_state h.heads (by simp [hq]) (by simp [hq]) (by simp [hq]),
          noWindow_of_unit h.unit (by simp [hu]) (by simp [hu]),
          fun hr => absurd hr (by simp [unmarked_of_state h.unit (.inr (.inr hq))]), h.first⟩
      split
      · exact ((hfree.of_same (by simp) (by simp) (by simp) (by simp)).modSeq _).held _
      · exact (hfree.modSeq _).held _
    · exact h

theorem expireClampTimer_phased (h : s.Phased) : (expireClampTimer s).Phased := by
  have ht : (s.modLining fun u => { u with clampTimer := none }).Phased := h.setUnit rfl rfl rfl (.inr rfl) rfl
  unfold expireClampTimer
  split
  · dsimp only
    split
    · exact clampFailure_phased ht
    · next hu => exact releaseFailure_phased ht hu
    all_goals exact ht
  · exact h

/-- STOP_RUN leaves no clamp pending, and no clamp timer in CLAMPING (06 R116, 08 R151). -/
theorem stopRun_marks (u : LiningUnit) (held : Track Int) (waiting : Quad Bool) :
    (u.stopRun held waiting).clampPending = false
      ∧ ((u.stopRun held waiting).state = .clamping → (u.stopRun held waiting).clampTimer = none) := by
  have habort : (u.abort held waiting).clampPending = false
      ∧ ((u.abort held waiting).state = .clamping → (u.abort held waiting).clampTimer = none) := by
    cases hu : u.state <;> simp [LiningUnit.abort, LiningUnit.abandon, LiningUnit.releaseLater, LiningUnit.haltAll, hu]
  unfold LiningUnit.stopRun
  dsimp only
  split <;> exact habort

/-- STOP_RUN in every state: IDLE, with the heads out (06 R116). -/
theorem endRunNow_phased (hf : (endRunNow s).Each fun w p _ => w = true → p.Unmoved) : (endRunNow s).Phased := by
  have hrest : (endRunNow s).HeadsRest := (headsGoOut_rest s).of_heads (by simp [endRunNow])
  have hstate : (endRunNow s).seq.state = .idle := rfl
  have hunit : ∃ held waiting, (endRunNow s).lining = s.headsGoOut.lining.stopRun held waiting :=
    ⟨_, _, by simp [endRunNow]; rfl⟩
  obtain ⟨held, waiting, hlining⟩ := hunit
  obtain ⟨hpending, htimer⟩ := stopRun_marks s.headsGoOut.lining held waiting
  refine phased_of_state hrest.headPhaseLaw ⟨?_, fun w hw => ?_, fun _ => ?_⟩ (by simp [hstate]) hf
  · simp [hstate]
  · rw [endRunNow_measuring] at hw; cases hw
  · rw [hlining, hstate]
    exact ⟨nofun, nofun, nofun, fun _ => rfl, fun _ => hpending, htimer⟩

/-- FAULT_STOP in every state (06 R118). -/
theorem enterFaultStop_phased (hf : s.Each fun w p _ => w = true → p.Unmoved) : (enterFaultStop s).Phased := by
  have hfree : (enterFaultStop s).Free :=
    ⟨(headsGoOut_rest (s.modChainage ChainageUnit.cancelTravel)).of_heads (by simp [enterFaultStop]),
      fun w hw => by simp [enterFaultStop, endMeasuring] at hw,
      fun hr => by simp [enterFaultStop, State.modLining, LiningUnit.freeze] at hr,
      enterFaultStop_each unmoved_headLaw hf⟩
  exact hfree.phased (by simp [enterFaultStop, enterState, State.modSeq, SeqState.between])

theorem raiseStop_phased (cause : StopCause) (h : s.Phased) : (raiseStop cause s).Phased := by
  unfold raiseStop
  dsimp only
  split
  · split
    · exact enterFaultStop_phased (h.first.of_same rfl rfl rfl)
    · exact h.of_same rfl rfl rfl rfl rfl rfl rfl
  · exact h.of_same rfl rfl rfl rfl rfl rfl rfl

/-! ## The end of an event (06 R99, R103, R104) -/

/-- A head that passed its preparing has no order pending, and starts its insertion only with its guard (06 R103). -/
theorem HeadRecord.tampStart_fits {I R : Prop} {e : HeadEnv} {h : HeadRecord} (hd : h.doneWithPreparing = true)
    (hi : I) (ho : e.order.isSome = true) (hp : h.preparePending = false) :
    (h.tampStart e).1.phase.Fits I R e.awaits ∧ ((h.tampStart e).1.working = true → e.guard = true) := by
  obtain ⟨o, ho⟩ := Option.isSome_iff_exists.mp ho
  have hparked : ∀ k : HeadRecord, k.phase.pending = false → (k.park e).1.phase.Fits I R e.awaits
      ∧ ((k.park e).1.working = true → e.guard = true) := fun k hk => by
    have hphase : (k.park e).1.phase = { k.phase with state := .parked, vibration := false } := by
      rw [(k.park_phase e).1, HeadPhase.parked, if_neg (by simp [hk])]
    have hstate : (k.park e).1.state = .parked := congrArg HeadPhase.state hphase
    rw [hphase]
    exact ⟨⟨by simp [HeadPhase.inserting], by simp, fun hq => absurd hq (by simp [hk])⟩,
      fun hw => by simp [HeadRecord.working, hstate] at hw⟩
  unfold HeadRecord.tampStart
  rw [ho]
  rcases (doneWithPreparing_iff h).mp hd with hs | ⟨hs, -⟩
  · rw [if_pos hs]
    dsimp only
    split
    · next hg =>
      exact ⟨⟨fun _ => hi, by simp [HeadRecord.phase, HeadRecord.beginInsertion],
        fun hq => absurd hq (by simp [HeadRecord.phase, HeadRecord.beginInsertion, hp])⟩, fun _ => hg⟩
    · exact hparked { h with outcome := some .tiltFault } hp
  · rw [if_neg (by simp [hs])]
    exact ⟨⟨by simp [HeadPhase.inserting, HeadRecord.phase, hs], by simp [HeadRecord.phase, hs],
      fun hq => absurd hq (by simp [HeadRecord.phase, hp])⟩, fun hw => by simp [HeadRecord.working, hs] at hw⟩

end Unit

end Sys2Proof.Machine
end

section
/-! PROOFS. The penetration guard, with what the heads and the unit do by the state of the sequencer, kept at the end of
an event, by every event and request, and so by every step (06 R103, R104, 07 R127, R128, R132, R137). -/

namespace Sys2Proof.Machine

section Events

variable {s t : State}

/-! ## The end of an event (06 R99, R103, R104) -/

@[simp] theorem State.stepHeads_headEnv (s : State) (f : HeadEnv → HeadRecord → HeadStep) (i : Fin 4) :
    (s.stepHeads f).headEnv i = s.headEnv i := by
  simp [State.stepHeads]

/-- A head that is done with preparing holds no order pending: neither READY nor with a preparing fault before the first
axis frame (log entry 11). -/
theorem State.Phased.notPending (h : s.Phased) {i : Fin 4} (hd : (s.heads.get i).doneWithPreparing = true) :
    (s.heads.get i).preparePending = false := by
  refine Bool.eq_false_iff.mpr fun hp => ?_
  obtain ⟨-, hawait, -, hready⟩ := ((headPhaseLaw_iff s).mp h.heads i).order hp
  rcases (doneWithPreparing_iff _).mp hd with hs | ⟨hs, ho⟩
  · exact hready hs
  · have hunmoved := h.first i (hawait hs)
    exact ho.elim hunmoved.noTraverseFault hunmoved.noTiltFault

/-- The tamp start begins the insertions of the engaged heads, each with its guard; the other heads rest. -/
theorem State.Phased.tampStarts {c : Context} (h : s.Phased) (hc : s.seq.context = some c)
    (hall : c.engagedAll s.heads HeadRecord.doneWithPreparing = true) (i : Fin 4) :
    (((enterState .tamping s).headsTampStart.heads.get i).phase.Fits ((enterState .tamping s).headsTampStart.mayInsert i)
        ((enterState .tamping s).headsTampStart.mayPrepare i) s.awaitFrame)
      ∧ (((enterState .tamping s).headsTampStart.heads.get i).working = true →
          ((enterState .tamping s).headEnv i).guard = true) := by
  rw [State.headsTampStart, State.stepHeads_get]
  have hcontext : (enterState .tamping s).seq.context = some c := hc
  by_cases he : c.engaged i = true
  · have hdone := Context.engagedAll_iff.mp hall i he
    have horder : ((enterState .tamping s).headEnv i).order.isSome = true := by simp [State.headEnv, hcontext]
    exact HeadRecord.tampStart_fits (h := s.heads.get i) hdone
      ⟨by simp [enterState, State.modSeq], c, by simpa using hcontext, he⟩ horder (h.notPending hdone)
  · have hnot : ¬s.engages i := fun ⟨d, hd, hen⟩ => he (by rw [hc] at hd; cases hd; exact hen)
    have hrest : (s.heads.get i).phase.Resting :=
      ((headPhaseLaw_iff s).mp h.heads i).resting (fun hi => hnot hi.2) fun hp => hnot hp.2
    have hkept : (s.heads.get i).tampStart ((enterState .tamping s).headEnv i) = (s.heads.get i, false) :=
      if_neg fun hs => hrest.preparation (.inr hs)
    rw [show (enterState .tamping s).heads = s.heads from rfl, hkept]
    exact ⟨hrest.fits, fun hw => (hrest.insertion (.inl ((HeadRecord.working_iff _).mp hw))).elim⟩

theorem beginTamping_phased (h : s.Phased) : (beginTamping s).Phased := by
  unfold beginTamping
  split
  · exact h
  · next c hc =>
    split
    · next hcond =>
      obtain ⟨hq, hu, hall⟩ := hcond
      have hunit : (enterState .tamping s).unitPhaseLaw :=
        ⟨fun _ => hu, fun w hm => absurd hm (noWindow_of_state h.unit (by simp [hq]) (by simp [hq]) w),
          fun hr => nomatch hr.symm.trans (unmarked_of_state (s := s) h.unit (.inl hq))⟩
      refine ⟨(headPhaseLaw_iff _).mpr fun i => ?_, stepHeads_unit hunit _, fun i hw => ?_,
        headsTampStart_each unmoved_headLaw (h.first.of_same rfl rfl rfl)⟩
      · simpa using (h.tampStarts hc hall i).1
      · rw [State.headsTampStart, State.stepHeads_headEnv]
        exact (h.tampStarts hc hall i).2 hw
    · exact h

/-- TAMPING is left with every engaged head PARKED, so that the heads rest. -/
theorem endTamping_phased (h : s.Phased) : (endTamping s).Phased := by
  unfold endTamping
  split
  · exact h
  · next c hc =>
    split
    · next hcond =>
      obtain ⟨hq, hall⟩ := hcond
      have hrest : s.HeadsRest := fun i => by
        have hfits := (headPhaseLaw_iff s).mp h.heads i
        refine ⟨fun hi => ?_, fun hp => ?_, fun ho => ?_⟩
        · obtain ⟨-, d, hd, he⟩ := hfits.insertion hi
          rw [hc] at hd
          cases hd
          have hparked := ((finishedParked_iff _).mp (Context.engagedAll_iff.mp hall i he)).1
          simp [HeadPhase.inserting, HeadRecord.phase, hparked] at hi
        · have hstate := (hfits.preparation hp).1
          simp [hq] at hstate
        · have hstate := (hfits.order ho).1.1
          simp [hq] at hstate
      have hwindow : s.NoWindow := noWindow_of_state h.unit (by simp [hq]) (by simp [hq])
      have hheads : (enterState .releasing s).HeadsRest := hrest.of_heads rfl
      exact releaseUnit_phased hheads.headPhaseLaw (h.first.of_same rfl rfl rfl) hwindow (by simp [enterState, State.modSeq])
    · exact h

theorem releaseAfterHeads_phased (h : s.Phased) : (releaseAfterHeads s).Phased := by
  unfold releaseAfterHeads
  split
  · next hr =>
    exact releaseUnit_phased h.heads h.first (fun w hw => by simp [unmarked_of_window h.unit hw] at hr)
      (h.unit.2.2 hr.1).2.1
  · exact h

theorem releaseFrozen_phased (h : s.Phased) : (releaseFrozen s).Phased := by
  unfold releaseFrozen
  split
  · next hr =>
    exact releaseUnit_phased h.heads h.first (noWindow_of_state h.unit (by simp [hr.1]) (by simp [hr.1])) (by simp [hr.1])
  · exact h

theorem startIndexMove_sameRun (s : State) : s.SameRun (startIndexMove s) := by
  unfold startIndexMove
  split
  · exact .refl s
  · split
    · exact ⟨rfl, rfl, rfl, rfl, rfl, rfl, rfl⟩
    · exact .refl s

theorem settle_phased (h : s.Phased) : (settle s).Phased :=
  (releaseFrozen_phased (releaseAfterHeads_phased (endTamping_phased (beginTamping_phased h)))).of_sameRun
    (startIndexMove_sameRun _)

/-! ## The events of the heads (07 R126 to R137) -/

section Meets

variable {e : HeadEnv} {p q : HeadPhase} {b : Bool}

theorem HeadPhase.parked_state (e : HeadEnv) (p : HeadPhase) :
    (p.parked e).state = .parked ∨ (p.parked e).state = .preparing := by
  unfold HeadPhase.parked
  split
  · exact .inr rfl
  · exact .inl rfl

/-- Only a reentry brings a head into the ballast, and it asks for the guard (07 R132). -/
theorem HeadPhase.Meets.guarded (h : p.Meets e q b)
    (hp : p.state = .penetrating ∨ p.state = .squeezing → e.guard = true)
    (hq : q.state = .penetrating ∨ q.state = .squeezing) : e.guard = true := by
  have hparked : ∀ r : HeadPhase, ¬((r.parked e).state = .penetrating ∨ (r.parked e).state = .squeezing) := fun r => by
    rcases HeadPhase.parked_state e r with hr | hr <;> simp [hr]
  cases h with
  | stays => exact hp hq
  | squeezes hs => exact hp (.inl hs)
  | reenters _ hg => exact hg
  | sensedIn _ => exact (hparked _ hq).elim
  | parks _ => exact (hparked _ hq).elim
  | faults _ _ => exact (hparked _ hq).elim
  | _ => simp at hq

end Meets

/-- A head takes an event of its own, the others as they are. -/
theorem stepHead_phased {f : HeadEnv → HeadRecord → HeadStep} (i : Fin 4) (hh : s.headPhaseLaw) (hu : s.unitPhaseLaw)
    (hf : s.Each fun w p _ => w = true → p.Unmoved)
    (hm : (s.heads.get i).phase.Meets (s.headEnv i) (f (s.headEnv i) (s.heads.get i)).1.phase
      (f (s.headEnv i) (s.heads.get i)).2)
    (hg : (f (s.headEnv i) (s.heads.get i)).1.working = true → (s.headEnv i).guard = true)
    (ho : ∀ j : Fin 4, j ≠ i → (s.heads.get j).working = true → (s.headEnv j).guard = true) :
    (s.stepHead f i).Phased := by
  obtain ⟨a, ha⟩ := s.stepHead_lining f i
  have hmay : ∀ j, (s.stepHead f i).mayInsert j = s.mayInsert j ∧ (s.stepHead f i).mayPrepare j = s.mayPrepare j :=
    fun j => by simp [State.mayInsert, State.mayPrepare, State.engages]
  refine ⟨(headPhaseLaw_iff _).mpr fun j => ?_, unitPhaseLaw_of_awaited hu (by simp) (by simp) ha, fun j hw => ?_,
    stepHead_each unmoved_headLaw i (.meets hm) hf⟩
  · have hfits := (headPhaseLaw_iff s).mp hh j
    rw [State.stepHead_get, (hmay j).1, (hmay j).2, (s.stepHead_keeps f i).2.2.2.1]
    split
    · next hj =>
      subst hj
      exact hm.fits hfits order_of_mayPrepare
    · exact hfits
  · rw [State.stepHead_get] at hw
    rw [State.stepHead_headEnv]
    by_cases hj : j = i
    · subst hj
      exact hg (by simpa using hw)
    · exact ho j hj (by simpa [hj] using hw)

theorem State.Phased.stepHead {f : HeadEnv → HeadRecord → HeadStep} (h : s.Phased) (i : Fin 4)
    (hm : (s.heads.get i).phase.Meets (s.headEnv i) (f (s.headEnv i) (s.heads.get i)).1.phase
      (f (s.headEnv i) (s.heads.get i)).2) : (s.stepHead f i).Phased :=
  stepHead_phased i h.heads h.unit h.first hm
    (fun hw => hm.guarded (fun hp => h.guard i ((HeadRecord.working_iff _).mpr hp)) ((HeadRecord.working_iff _).mp hw))
    fun j _ => h.guard j

theorem State.Phased.setHead {k : HeadRecord} {i : Fin 4} (h : s.Phased)
    (hm : (s.heads.get i).phase.Meets (s.headEnv i) k.phase false) : (s.setHead i k).Phased :=
  h.stepHead (f := fun _ _ => (k, false)) i hm

theorem State.Phased.stepHeads {f : HeadEnv → HeadRecord → HeadStep} (h : s.Phased)
    (hm : ∀ (e : HeadEnv) (k : HeadRecord), k.phase.Meets e (f e k).1.phase (f e k).2) : (s.stepHeads f).Phased := by
  have step : ∀ i x, State.Phased x → (x.stepHead f i).Phased := fun i x hx => hx.stepHead i (hm _ _)
  exact step 3 _ (step 2 _ (step 1 _ (step 0 s h)))

/-- A tilt report that breaks the guard takes the head out of the ballast (07 R128). -/
theorem HeadRecord.tilted_guarded {e : HeadEnv} {h : HeadRecord}
    (hw : ((h.testGuard e).testPrepared e).working = true) : e.guard = true := by
  have hkept : ∀ k : HeadRecord, (k.testPrepared e).working = true → k.working = true := fun k hk => by
    rw [HeadRecord.working_iff] at hk ⊢
    unfold HeadRecord.testPrepared at hk
    split at hk
    · split at hk
      · unfold HeadRecord.sendSet at hk
        split at hk <;> simp at hk
      · exact hk
    · exact hk
  have hw' := hkept _ hw
  unfold HeadRecord.testGuard at hw'
  split at hw'
  · rw [HeadRecord.working_iff] at hw'
    dsimp only [HeadRecord.leaveBallast] at hw'
    split at hw' <;> simp at hw'
  · next hn => simpa [hw'] using hn

theorem takeTilt_phased (i arm : Fin 4) (r : TiltReport) (h : s.Phased) :
    (takeTilt i (s.setInputs (tiltLevel i arm r s.inputs))).Phased := by
  refine settle_phased (stepHead_phased i h.heads h.unit (h.first.of_same rfl rfl rfl)
    (HeadRecord.tilted_meets ..) HeadRecord.tilted_guarded fun j hj hw => ?_)
  refine Eq.trans (guard_congr (s := s) rfl rfl ?_) (h.guard j hw)
  simp [tiltLevel, Quad.get_set_of_ne _ _ hj]

theorem takeRaised_phased (i : Fin 4) (h : s.Phased) : (takeRaised i s).Phased := by
  have ht : (s.stepHead (fun e k => k.onRaised e) i).Phased := h.stepHead i (HeadRecord.onRaised_meets ..)
  unfold takeRaised
  refine settle_phased ?_
  split
  · exact ht.of_sameRun (cancelUnparked_sameRun _)
  · exact ht

/-- The first axis frame finds no insertion begun, and brings no head into the ballast (07 R137). -/
theorem firstFrame_phased (h : s.Phased) (hw : s.awaitFrame = true) :
    ((s.setAwaitFrame false).stepHeads fun e k => k.firstFrame e).Phased := by
  have hmay : ∀ j, ((s.setAwaitFrame false).stepHeads fun e k => k.firstFrame e).mayInsert j = s.mayInsert j
      ∧ ((s.setAwaitFrame false).stepHeads fun e k => k.firstFrame e).mayPrepare j = s.mayPrepare j :=
    fun j => by simp [State.mayInsert, State.mayPrepare, State.engages]
  refine ⟨(headPhaseLaw_iff _).mpr fun i => ?_, stepHeads_unit (s := s.setAwaitFrame false) h.unit _, fun i hk => ?_,
    firstFrame_each unmoved_headLaw hw h.first⟩
  · have hfits := (headPhaseLaw_iff s).mp h.heads i
    rw [hw] at hfits
    rw [State.stepHeads_get, (hmay i).1, (hmay i).2, (State.stepHeads_keeps _ _).2.2.2.1]
    exact HeadRecord.firstFrame_fits hfits (h.first i hw).begun order_of_mayPrepare rfl
  · rw [State.stepHeads_get, HeadRecord.working_iff] at hk
    have hstate := HeadRecord.firstFrame_phase ((s.setAwaitFrame false).headEnv i) ((s.setAwaitFrame false).heads.get i)
    change (HeadRecord.phase _).state = _ ∨ (HeadRecord.phase _).state = _ at hk
    rcases hstate with ⟨hp, -⟩ | ⟨hp, -⟩ | ⟨hp, -⟩ <;> rw [hp] at hk
    · simp at hk
    · simp at hk
    · rcases HeadPhase.parked_state _ _ with hr | hr <;> rw [hr] at hk <;> simp at hk

theorem takeAxisFrame_phased (f : AxisFrame) (h : s.Phased) : (takeAxisFrame f s).Phased := by
  have hsensed : (s.senseFrame f).Phased := h.of_sameRun (senseFrame_sameRun f s)
  unfold takeAxisFrame
  dsimp only
  split
  · next hw =>
    have hfirst := firstFrame_phased hsensed hw
    refine settle_phased (State.Phased.of_sameRun ?_ (cancelUnparked_sameRun _))
    exact hfirst.setUnit rfl rfl rfl (.inl rfl) rfl
  · exact settle_phased (State.Phased.stepHeads
      (supervise_induction f (fun hx he => he.of_sameRun hx) (fun c => raiseStop_phased c) hsensed)
      fun e k => k.onFrame_meets e)

/-! ## Resets (07 R137, 08 R139, 11 R185, R186) -/

theorem warmReset_resting (raised : Bool) (h : HeadRecord) : (h.warmReset raised).phase.Resting := by
  cases raised <;>
    exact ⟨by simp [HeadPhase.inserting, HeadRecord.phase, HeadRecord.warmReset, HeadRecord.commandTilt],
      by simp [HeadRecord.phase, HeadRecord.warmReset, HeadRecord.commandTilt],
      by simp [HeadRecord.phase, HeadRecord.warmReset, HeadRecord.commandTilt]⟩

theorem atPowerOn_resting (raised : Bool) : (HeadRecord.atPowerOn raised).phase.Resting := by
  cases raised <;>
    exact ⟨by simp [HeadPhase.inserting, HeadRecord.phase, HeadRecord.atPowerOn],
      by simp [HeadRecord.phase, HeadRecord.atPowerOn], by simp [HeadRecord.phase, HeadRecord.atPowerOn]⟩

theorem warmRestart_phased (hf : (warmRestart s).Each fun w p _ => w = true → p.Unmoved) : (warmRestart s).Phased := by
  have hfree : (warmRestart s).Free := by
    refine ⟨fun i => ?_, fun w hw => ?_, fun hr => ?_, hf⟩
    · rw [show (warmRestart s).heads.get i = (s.heads.get i).warmReset (s.inputs.raised.get i) from Quad.get_ofFn ..]
      exact warmReset_resting _ _
    · cases hw
    · cases hr
  exact hfree.phased (by simp [warmRestart, SeqState.between, Sequencer.atReset])

theorem powerOn_phased (hf : (powerOn s).Each fun w p _ => w = true → p.Unmoved) : (powerOn s).Phased := by
  have hfree : (powerOn s).Free := by
    refine ⟨fun i => ?_, fun w hw => ?_, fun hr => ?_, hf⟩
    · simpa [powerOn, Inputs.headsAtPowerOn] using atPowerOn_resting _
    · cases hw
    · cases hr
  exact hfree.phased (by simp [powerOn, State.reset, SeqState.between, Sequencer.atReset])

/-! ## Every event and request -/

/-- START_RUN is taken with every head PARKED, so that no release waits (06 R97, 08 R151). -/
theorem beginRun_phased (pos : Pos) (h : s.Phased) (ha : s.awaitLaw) (hq : s.seq.state = .idle ∨ s.seq.state = .ended)
    (hp : s.allParked = true) : (beginRun pos s).Phased := by
  have hmark := ha.not_releaseAfterHeads (s.allParked_iff.mp hp)
  have hfree : s.Free :=
    ⟨headsRest_of_state h.heads (by rcases hq with hq | hq <;> simp [hq]) (by rcases hq with hq | hq <;> simp [hq])
        (by rcases hq with hq | hq <;> simp [hq]),
      noWindow_of_state h.unit (by rcases hq with hq | hq <;> simp [hq]) (by rcases hq with hq | hq <;> simp [hq]),
      fun hr => absurd hr (by simp [hmark]), h.first⟩
  exact State.Free.phased (hfree.of_same (by simp) (by simp) (by simp) (by simp))
    (by simp [beginRun, SeqState.between])

theorem State.Does.phased (hd : s.Does t) (h : s.Phased) (hc : s.cycleLaw) (ha : s.awaitLaw) : t.Phased := by
  have hstopped : ∀ {x : State}, s.seq.state = .paused ∨ s.seq.state = .hold → s.SameRun x →
      x.Free ∧ x.seq.state.between := fun hq hs => by
    obtain ⟨hb, hi⟩ := between_of_stopped hq
    exact ⟨(h.free hb hi).of_sameRun hs, hs.state ▸ hb⟩
  have hfirst := hd.each unmoved_headLaw h.first
  cases hd with
  | quiet hs => exact h.of_sameRun hs
  | stopRaised cause hs => exact raiseStop_phased cause (h.of_sameRun hs)
  | axisFrame f => exact takeAxisFrame_phased f h
  | measuringFrame samples => exact settle_phased (takeMeasuringFrame_phased samples h)
  | silence => exact settle_phased (expireSilence_phased h)
  | halted => exact settle_phased (takeHalted_phased h hc)
  | indexTimer => exact expireIndexTimer_phased h hc
  | clampLevels hs => exact settle_phased (takeClampLevels_phased (h.of_sameRun hs))
  | clampTimer => exact settle_phased (expireClampTimer_phased h)
  | correctionTimer => exact settle_phased (expireCorrection_phased h)
  | tilt i arm r => exact takeTilt_phased i arm r h
  | raised i hs => exact takeRaised_phased i (h.of_sameRun hs)
  | traverseTimer i =>
    unfold expireTraverse
    split
    · next hs => exact settle_phased (h.stepHead i (HeadRecord.preparingFault_meets _ _ _ hs.1))
    · exact h
  | tiltTimer i =>
    unfold expireTilt
    split
    · next hs => exact settle_phased (h.stepHead i (HeadRecord.preparingFault_meets _ _ _ hs.1))
    · exact h
  | penetrationTimer i =>
    unfold expirePenetration
    split
    · next hs => exact (h.setHead (HeadRecord.strike_meets _ _ hs.1)).of_sameRun ⟨rfl, rfl, rfl, rfl, rfl, rfl, rfl⟩
    · exact h
  | squeezeTimer i =>
    unfold expireSqueeze
    split
    · next hs => exact h.setHead (HeadRecord.endSqueeze_meets _ _ _ hs.1)
    · exact h
  | warmRestart => exact warmRestart_phased hfirst
  | begins pos hq hu hp => exact settle_phased (beginRun_phased pos h ha hq hp)
  | advances hq hs => exact settle_phased (((hstopped hq hs).1.modSeq _).advances)
  | readmits hq hs => exact settle_phased ((hstopped hq hs).1.readmits (hstopped hq hs).2)
  | retries hq hs =>
    obtain ⟨hfree, -⟩ := hstopped hq hs
    have hreleasing := (hfree.modSeq fun q => { q with resumeAction := none }).modSeq
      fun q => { q with state := .releasing, hold := none }
    exact settle_phased (releaseUnit_phased hreleasing.rest.headPhaseLaw hreleasing.first hreleasing.noWindow nofun)
  | confirms hq hc => exact settle_phased ((hstopped (.inr hq) (.refl s)).1.measures _)
  | skips hq => exact settle_phased ((hstopped (.inr hq) (.refl s)).1.goesOn _)
  | aborts hq =>
    exact settle_phased (((h.aborted (by rcases hq with hq | hq | hq <;> simp [hq])).recorded _).held _)
  | admits hq hs => exact settle_phased ((hstopped hq hs).1.admits (hstopped hq hs).2)
  | ends => exact settle_phased (endRunNow_phased (endRunNow_each unmoved_headLaw h.first))
  | clears hq hs =>
    exact ((h.free (by simp [SeqState.between, hq]) (by simp [hq])).of_sameRun hs).held _
  | crosses w hq hs =>
    obtain ⟨hfree, hb⟩ := hstopped (.inr hq) hs
    refine settle_phased ?_
    unfold retryCrossing
    split
    · exact State.Free.indexes (hfree.of_same rfl rfl rfl rfl)
    · exact State.Free.phased (hfree.of_same rfl rfl rfl rfl) hb

/-! ## Every step -/

theorem guardLaw_of_low (hr : s.resetLow = true) : s.guardLaw := fun h => by
  rw [hr] at h; cases h

/-- Out of reset the laws are those of a state that is phased. -/
theorem State.Phased.laws (h : s.Phased) : s.headPhaseLaw ∧ s.unitPhaseLaw ∧ s.firstFrameLaw ∧ s.guardLaw :=
  ⟨h.heads, h.unit, (firstFrameLaw_iff s).mpr h.first, fun _ => h.guard⟩

/-- While the reset line is held low the heads, the unit and the sequencer stand (log entry 5). -/
theorem laws_of_low {x : State} (ht : x.SameWork t) (hr : x.resetLow = true) (hh : x.headPhaseLaw) (hu : x.unitPhaseLaw)
    (hf : x.firstFrameLaw) : t.headPhaseLaw ∧ t.unitPhaseLaw ∧ t.firstFrameLaw ∧ t.guardLaw := by
  have hrun := ht.sameRun
  refine ⟨headPhaseLaw_of_same hh hrun.heads hrun.awaitFrame hrun.state hrun.mask,
    unitPhaseLaw_of_same hu hrun.measuring hrun.lining hrun.state, ?_, guardLaw_of_low (ht.resetLow.trans hr)⟩
  exact (firstFrameLaw_iff t).mpr (((firstFrameLaw_iff x).mp hf).of_sameRun hrun)

theorem State.Steps.laws (hstep : s.Steps t) (hc : s.cycleLaw) (ha : s.awaitLaw) (hh : s.headPhaseLaw)
    (hu : s.unitPhaseLaw) (hf : s.firstFrameLaw) (hg : s.guardLaw) :
    t.headPhaseLaw ∧ t.unitPhaseLaw ∧ t.firstFrameLaw ∧ t.guardLaw := by
  have hfirst := (firstFrameLaw_iff s).mp hf
  have hphased : s.resetLow = false → s.Phased := fun hr => ⟨hh, hu, hg hr, hfirst⟩
  cases hstep with
  | rests ht =>
    cases hr : s.resetLow with
    | false => exact ((hphased hr).of_sameRun ht.sameRun).laws
    | true => exact laws_of_low ht hr hh hu hf
  | does hr hx hd hv =>
    have hcycle := hx.keeps (Law := State.cycleLaw) fun _ _ _ _ _ => hc
    have hawait := hx.keeps (Law := State.awaitLaw) fun _ _ _ _ _ => ha
    exact ((hd.phased ((hphased hr).of_sameRun hx.sameRun) hcycle hawait).of_sameRun hv.sameRun).laws
  | lowered ht => exact laws_of_low ht rfl hh hu hf
  | follows hr i ht => exact laws_of_low ht hr hh hu hf
  | @powered u ht =>
    rw [ht]
    exact (powerOn_phased (State.Steps.each unmoved_headLaw (.powered rfl) hfirst)).laws

end Events

/-- Settles O59: what the heads and the unit do by the state of the sequencer is kept by every event and request, so that
a head comes into the ballast in TAMPING alone, with its guard, and leaves it in the event that breaks the guard. -/
theorem stepKeepsGuardLaw : Obligations.StepKeepsGuardLaw := by
  intro s t h hcycle hawait hheads hunit hfirst hguard
  exact (step_steps h).laws hcycle hawait hheads hunit hfirst hguard

end Sys2Proof.Machine
end

section
/-! PROOFS. The strokes of a head at an axis frame, and the tamp start at one head (07 R122, R125 to R136). -/

namespace Sys2Proof.Machine

section Strokes

variable {e : HeadEnv} {h : HeadRecord} {o : HeadOrder}

/-! ## The end of preparing (07 R126) -/

theorem armsConfirmed_iff (arms : Quad Bool) (tilt : Quad TiltReport) :
    armsConfirmed arms tilt = true ↔ ∀ k : Fin 4, tilt.get k = (if arms.get k then .tiltIn else .tiltOut) := by
  simp only [armsConfirmed, Quad.allTrue_iff, Quad.get_ofFn, tiltsFor, Quad.get_map]
  refine forall_congr' fun k => ?_
  cases arms.get k <;> simp [confirmed]

/-- A head in PREPARING is READY at its target with its arms confirmed; before the first axis frame its setpoint stands. -/
theorem HeadRecord.testPrepared_preparing (hs : h.state = .preparing) (ho : e.order = some o) :
    h.testPrepared e =
      if |e.lateral - o.target| ≤ e.tolTraverse
          ∧ ∀ k : Fin 4, e.tilt.get k = (if o.arms.get k then .tiltIn else .tiltOut)
      then { h with
        state := .ready, traverseTimer := none, tiltTimer := none
        traverseSet := if e.awaits then h.traverseSet else o.target }
      else h := by
  unfold HeadRecord.testPrepared
  rw [hs, ho]
  dsimp only
  rw [absInt_eq_abs]
  refine if_congr (and_congr_right' (armsConfirmed_iff _ _)) ?_ rfl
  cases ha : e.awaits <;> simp [HeadRecord.sendSet, ha]

theorem HeadRecord.testPrepared_of_state (hs : h.state ≠ .preparing) : h.testPrepared e = h := by
  unfold HeadRecord.testPrepared
  split
  · next hp _ => exact absurd hp hs
  · rfl

/-! ## The entry to PARKED (07 R134) -/

/-- A head that enters PARKED with no order to take. -/
theorem HeadRecord.park_rests (hp : h.preparePending = false ∨ e.order = none) : h.park e = ({ h with
    state := .parked, vibration := false
    verticalSet := if e.awaits then h.verticalSet else 0
    squeezeSet := if e.awaits then h.squeezeSet else 0
    traverseSet := if e.awaits then h.traverseSet else e.lateral
    traverseTimer := none, tiltTimer := none, penetrationTimer := none, squeezeTimer := none
    tiltDue := .all4 .tiltOut
    tilt := if e.raised then .all4 (some .tiltOut) else h.tilt }, true) := by
  rw [← settle_eq]
  rcases h.park_cases e with hk | ⟨o, hpend, ho, -⟩
  · exact hk
  · rcases hp with hp | hp
    · rw [hp] at hpend; cases hpend
    · rw [hp] at ho; cases ho

/-- A raised head that enters PARKED with an order pending takes it in the same event (07 R125). -/
theorem HeadRecord.park_prepares (hp : h.preparePending = true) (ho : e.order = some o) (ha : e.awaits = false)
    (hr : e.raised = true) : h.park e = ({ h with
    state := .preparing, vibration := false, verticalSet := 0, squeezeSet := 0, traverseSet := e.lateral
    traverseTimer := some o.traverseTime, tiltTimer := some o.tiltTime, penetrationTimer := none, squeezeTimer := none
    preparePending := false
    tiltDue := tiltsFor o.arms, tilt := (tiltsFor o.arms).map some }, true) := by
  simp [HeadRecord.park, settle_eq, HeadRecord.takePrepare, HeadRecord.commandTilt, hp, ho, ha, hr]

theorem HeadRecord.testRaised_ends (hs : h.state = .rising .full) (hv : h.verticalSet = 0) (hr : e.raised = true) :
    h.testRaised e = h.park e := if_pos ⟨hs, hv, hr⟩

theorem HeadRecord.testRaised_waits (hs : h.state ≠ .rising .full ∨ h.verticalSet ≠ 0 ∨ e.raised = false) :
    h.testRaised e = (h, false) := if_neg fun ⟨hf, hv, hr⟩ => by simp [hf, hv, hr] at hs

/-! ## Frames in each state (07 R122) -/

theorem HeadRecord.onFrame_rests (hs : h.state = .parked ∨ h.state = .ready) : h.onFrame e = (h, false) := by
  unfold HeadRecord.onFrame
  rcases hs with hs | hs <;> rw [hs]

theorem HeadRecord.onFrame_opening (hs : h.state = .opening) : h.onFrame e = (h.open e, false) := by
  unfold HeadRecord.onFrame
  rw [hs]

theorem HeadRecord.onFrame_risingFull (hs : h.state = .rising .full) : h.onFrame e = h.riseFull e := by
  unfold HeadRecord.onFrame
  rw [hs]

theorem HeadRecord.onFrame_preparing (hs : h.state = .preparing) (ho : e.order = some o) : h.onFrame e
    = (HeadRecord.testPrepared e { h with traverseSet := traverseStroke e o.target h.traverseSet }, false) := by
  unfold HeadRecord.onFrame
  rw [hs, ho]

theorem HeadRecord.onFrame_penetrating (hs : h.state = .penetrating) (ho : e.order = some o) :
    h.onFrame e = (h.penetrate e o, false) := by
  unfold HeadRecord.onFrame
  rw [hs, ho]

theorem HeadRecord.onFrame_squeezing (hs : h.state = .squeezing) (ho : e.order = some o) :
    h.onFrame e = (h.squeeze e o, false) := by
  unfold HeadRecord.onFrame
  rw [hs, ho]

theorem HeadRecord.onFrame_risingPartway (hs : h.state = .rising .partway) (ho : e.order = some o) :
    h.onFrame e = (h.riseToReentry e o, false) := by
  unfold HeadRecord.onFrame
  rw [hs, ho]

/-! ## The traverse (07 R122, R125) -/

/-- A frame in PREPARING, by where its traverse stroke leads. -/
theorem HeadRecord.onFrame_traverse {sp : Int} (hs : h.state = .preparing) (ho : e.order = some o) (ha : e.awaits = false)
    (hsp : traverseStroke e o.target h.traverseSet = sp) : h.onFrame e =
      (if |e.lateral - o.target| ≤ e.tolTraverse
          ∧ ∀ k : Fin 4, e.tilt.get k = (if o.arms.get k then .tiltIn else .tiltOut)
        then { h with state := .ready, traverseTimer := none, tiltTimer := none, traverseSet := o.target }
        else { h with traverseSet := sp }, false) := by
  rw [HeadRecord.onFrame_preparing hs ho, HeadRecord.testPrepared_preparing (by exact hs) ho, hsp]
  simp only [ha]
  rfl

/-- A setpoint with both neighbours clear of it stands. -/
theorem clearOf_of_clear {below above : Option Int} {sp : Int} (hb : ∀ l, below = some l → l + 260 ≤ sp)
    (ha : ∀ u, above = some u → sp ≤ u - 260) (before : Int) : clearOf below above before sp = sp := by
  have hb' : ∀ l, below = some l → l + headClearance ≤ sp := hb
  have ha' : ∀ u, above = some u → sp ≤ u - headClearance := ha
  unfold clearOf
  split
  · rfl
  · exact max_eq_right (hb' _ rfl)
  · exact min_eq_right (ha' _ rfl)
  · rw [if_pos ((hb' _ rfl).trans (ha' _ rfl)), clampTo_eq_max_min ((hb' _ rfl).trans (ha' _ rfl)),
      min_eq_right (ha' _ rfl), max_eq_right (hb' _ rfl)]

/-- A head itself clear of its neighbours waits 260 mm short of one in its way. -/
theorem clearOf_of_lateral {below above : Option Int} {x sp : Int} (hb : ∀ l, below = some l → l + 260 ≤ x)
    (ha : ∀ u, above = some u → x ≤ u - 260) (before : Int) : clearOf below above before sp =
      (match (generalizing := false) below with
        | some l => max (match (generalizing := false) above with
          | some u => min sp (u - 260)
          | none => sp) (l + 260)
        | none => match (generalizing := false) above with
          | some u => min sp (u - 260)
          | none => sp) := by
  unfold clearOf
  split
  · rfl
  · exact max_comm _ _
  · exact min_comm _ _
  · next l u =>
    have hroom : l + headClearance ≤ u - headClearance := (hb l rfl).trans (ha u rfl)
    rw [if_pos hroom, clampTo_eq_max_min hroom, max_comm, min_comm]
    rfl

/-! ## The end of each stroke (07 R129 to R132) -/

theorem HeadRecord.penetrate_above (hd : e.lowering < o.depth) : h.penetrate e o = { h with
    depth := max h.depth e.lowering
    verticalSet := min (o.depth + e.tolHead / 2) (e.lowering + e.tolHead / 2) } := if_neg (not_le.mpr hd)

theorem HeadRecord.penetrate_at (hd : o.depth ≤ e.lowering) : h.penetrate e o = { h with
    state := .squeezing, depth := max h.depth e.lowering, penetrationTimer := none
    verticalSet := o.depth, squeezeTimer := some o.squeezeTime } := if_pos hd

theorem HeadRecord.squeeze_below (hp : (e.pressure : Int) < o.pressure) : h.squeeze e o = { h with
    depth := max h.depth e.lowering, peak := max h.peak e.pressure
    squeezeSet := min 200 (e.closing + e.tolSqueeze / 2) } := if_neg (not_le.mpr hp)

theorem HeadRecord.squeeze_at (hp : o.pressure ≤ (e.pressure : Int)) : h.squeeze e o = HeadRecord.endSqueeze .complete
    { h with
      depth := max h.depth e.lowering, peak := max h.peak e.pressure
      squeezeSet := min 200 (e.closing + e.tolSqueeze / 2) } := if_pos hp

theorem squeezedOutcome_append (results : List SqueezeResult) (r : SqueezeResult) :
    squeezedOutcome (results ++ [r])
      = if .timeLimited ∈ results ∨ r = .timeLimited then .timeLimited else .complete := by
  unfold squeezedOutcome
  refine if_congr ?_ rfl rfl
  simp

/-- The outcome is fixed by the last planned squeeze (07 R133). -/
theorem HeadRecord.endSqueeze_outcome (r : SqueezeResult) : (h.endSqueeze r).outcome =
    if h.planned ≤ h.results.length + 1 then
      some (if .timeLimited ∈ h.results ∨ r = .timeLimited then .timeLimited else .complete)
    else h.outcome := by
  simp only [HeadRecord.endSqueeze, squeezedOutcome_append, List.length_append, List.length_singleton]

/-! ## The tamp start (07 R127, R129) -/

theorem HeadRecord.tampStart_of_state (hs : h.state ≠ .ready) : h.tampStart e = (h, false) := if_neg hs

theorem HeadRecord.tampStart_begins (hs : h.state = .ready) (ho : e.order = some o) (hg : e.guard = true) :
    h.tampStart e = (h.beginInsertion o, false) := by
  simp [HeadRecord.tampStart, hs, ho, hg]

theorem HeadRecord.tampStart_parks (hs : h.state = .ready) (ho : e.order = some o) (hg : e.guard = false) :
    h.tampStart e = HeadRecord.park e { h with outcome := some .tiltFault } := by
  simp [HeadRecord.tampStart, hs, ho, hg]

/-! ## The strokes with no sleeper in flight (07 R132, R134) -/

theorem HeadRecord.open_ends (hend : stepToward 2 0 h.squeezeSet = 0 ∧ |e.closing| ≤ e.tolSqueeze) : h.open e = { h with
    squeezeSet := stepToward 2 0 h.squeezeSet, state := .rising h.riseForm } :=
  if_pos (by rw [absInt_eq_abs]; exact hend)

theorem HeadRecord.open_steps (hend : ¬(stepToward 2 0 h.squeezeSet = 0 ∧ |e.closing| ≤ e.tolSqueeze)) : h.open e = { h with
    squeezeSet := stepToward 2 0 h.squeezeSet } :=
  if_neg (by rw [absInt_eq_abs]; exact hend)

theorem HeadRecord.riseFull_steps (hv : stepToward 3 0 h.verticalSet ≠ 0 ∨ e.raised = false) :
    h.riseFull e = ({ h with verticalSet := stepToward 3 0 h.verticalSet }, false) :=
  HeadRecord.testRaised_waits (.inr hv)

theorem HeadRecord.riseFull_ends (hs : h.state = .rising .full) (hv : stepToward 3 0 h.verticalSet = 0)
    (hr : e.raised = true) : h.riseFull e = HeadRecord.park e { h with verticalSet := stepToward 3 0 h.verticalSet } :=
  HeadRecord.testRaised_ends hs hv hr

/-! ## The partial rise and the reentry (07 R132) -/

/-- A head is back where it can reenter. -/
def HeadRecord.back (e : HeadEnv) (o : HeadOrder) (h : HeadRecord) : Prop :=
  stepToward 3 (o.depth - 150) h.verticalSet = o.depth - 150 ∧ |e.lowering - (o.depth - 150)| ≤ e.tolHead

theorem HeadRecord.riseToReentry_steps (hb : ¬h.back e o) : h.riseToReentry e o = { h with
    verticalSet := stepToward 3 (o.depth - 150) h.verticalSet } :=
  if_neg (by rw [absInt_eq_abs]; exact hb)

theorem HeadRecord.riseToReentry_reenters (hb : h.back e o) (hg : e.guard = true) : h.riseToReentry e o =
    HeadRecord.beginInsertion o { h with verticalSet := stepToward 3 (o.depth - 150) h.verticalSet } :=
  (if_pos (by rw [absInt_eq_abs]; exact hb)).trans (if_pos hg)

theorem HeadRecord.riseToReentry_turnsBack (hb : h.back e o) (hg : e.guard = false) : h.riseToReentry e o = { h with
    verticalSet := stepToward 3 (o.depth - 150) h.verticalSet, state := .rising .full, outcome := some .tiltFault } :=
  (if_pos (by rw [absInt_eq_abs]; exact hb)).trans (if_neg (by simp [hg]))

end Strokes

/-! ## Strokes and the tamp start, state by state -/

/-- The tamp start reaches each head by itself, and what its guard asks. -/
theorem headsTampStart_get (s : State) (i : Fin 4) :
    s.headsTampStart.heads.get i = ((s.heads.get i).tampStart (s.headEnv i)).1 := State.stepHeads_get ..

/-- Settles O51, state by state of the head. -/
theorem headStrokesAtFrame : Obligations.HeadStrokesAtFrame := by
  refine ⟨fun s i => ⟨headsTampStart_get s i, guard_iff s i⟩, fun e h ha => ?_, fun e h o ho ha => ?_⟩
  · refine ⟨fun hs => h.onFrame_rests hs, fun hs => ?_, fun hs hv => ?_, fun hs hv hr hp => ?_, fun o hs hv hr hp ho => ?_⟩
    · rw [HeadRecord.onFrame_opening hs]
      by_cases hend : stepToward 2 0 h.squeezeSet = 0 ∧ |e.closing| ≤ e.tolSqueeze
      · rw [HeadRecord.open_ends hend]
        exact ⟨_, rfl, rfl, rfl, fun _ => rfl, fun hn => absurd hend hn⟩
      · rw [HeadRecord.open_steps hend]
        exact ⟨_, rfl, rfl, rfl, fun hn => absurd hn hend, fun _ => hs⟩
    · rw [HeadRecord.onFrame_risingFull hs, HeadRecord.riseFull_steps hv]
      rfl
    · rw [HeadRecord.onFrame_risingFull hs, HeadRecord.riseFull_ends hs hv hr, HeadRecord.park_rests (by exact hp)]
      simp [ha, hr]
    · rw [HeadRecord.onFrame_risingFull hs, HeadRecord.riseFull_ends hs hv hr,
        HeadRecord.park_prepares (by exact hp) ho ha hr]
  · refine ⟨HeadRecord.tampStart_of_state, fun hs hg => HeadRecord.tampStart_begins hs ho hg, fun hs hg hp => ?_,
      fun hs hb hu => ?_, fun hs hb hu => ?_, fun hs hd => ?_, fun hs hd => ?_, fun hs hp => ?_,
      fun hs hp => ?_, fun hs => ?_⟩
    · rw [HeadRecord.tampStart_parks hs ho hg, HeadRecord.park_rests (.inl (by exact hp))]
      simp [ha]
    · exact HeadRecord.onFrame_traverse hs ho ha (clearOf_of_clear hb hu _)
    · exact HeadRecord.onFrame_traverse hs ho ha (clearOf_of_lateral hb hu _)
    · rw [HeadRecord.onFrame_penetrating hs ho, HeadRecord.penetrate_above hd]
    · rw [HeadRecord.onFrame_penetrating hs ho, HeadRecord.penetrate_at hd]
    · rw [HeadRecord.onFrame_squeezing hs ho, HeadRecord.squeeze_below hp]
    · rw [HeadRecord.onFrame_squeezing hs ho, HeadRecord.squeeze_at hp]
      refine ⟨_, rfl, rfl, rfl, rfl, rfl, rfl, rfl, fun hl => ?_, fun hl => ?_⟩
      · simp [HeadRecord.endSqueeze_outcome, hl]
      · simp [HeadRecord.endSqueeze_outcome, not_le.mpr hl]
    · rw [HeadRecord.onFrame_risingPartway hs ho]
      by_cases hb : h.back e o
      · cases hg : e.guard with
        | true =>
          rw [HeadRecord.riseToReentry_reenters hb hg]
          exact ⟨_, rfl, rfl, fun hn => absurd hb hn, fun _ _ => ⟨rfl, rfl, rfl, rfl⟩, fun _ hf => nomatch hf⟩
        | false =>
          rw [HeadRecord.riseToReentry_turnsBack hb hg]
          exact ⟨_, rfl, rfl, fun hn => absurd hb hn, fun _ hf => (nomatch hf), fun _ _ => ⟨rfl, rfl⟩⟩
      · rw [HeadRecord.riseToReentry_steps hb]
        exact ⟨_, rfl, rfl, fun _ => rfl, fun hn => absurd hn hb, fun hn => absurd hn hb⟩

end Sys2Proof.Machine
end

section
/-! PROOFS. The sensors and timers of one head: what each report or expiry does to its record, and the end of its event
(07 R123, R126, R128, R130, R131, R134, R137). -/

namespace Sys2Proof.Machine

/-! ## One head in the state -/

theorem Quad.set_get_self {α : Type} (q : Quad α) (i : Fin 4) : q.set i (q.get i) = q :=
  Quad.ext_get fun j => by
    by_cases hj : j = i
    · subst hj; simp
    · simp [Quad.get_set_of_ne _ _ hj]

section Head

variable {s : State} {i : Fin 4} {f : HeadEnv → HeadRecord → HeadStep} {k : HeadRecord}

theorem stepHead_stays (hf : f (s.headEnv i) (s.heads.get i) = (k, false)) :
    s.stepHead f i = s.setHeads (s.heads.set i k) := by
  rw [State.stepHead, hf]
  rfl

/-- A head that reports PARKED is no longer awaited (08 R151). -/
theorem stepHead_parks (hf : f (s.headEnv i) (s.heads.get i) = (k, true)) :
    s.stepHead f i = (s.setHeads (s.heads.set i k)).setLining
      { s.lining with awaited := s.lining.awaited.set i false } := by
  rw [State.stepHead, hf]
  rfl

theorem stepHead_same (hf : f (s.headEnv i) (s.heads.get i) = (s.heads.get i, false)) : s.stepHead f i = s := by
  rw [stepHead_stays hf, Quad.set_get_self]
  rfl

theorem stepHead_tests {p : Prop} [Decidable p]
    (hf : f (s.headEnv i) (s.heads.get i) = (if p then k else s.heads.get i, false)) :
    s.stepHead f i = if p then s.setHeads (s.heads.set i k) else s := by
  split
  · next hp => exact stepHead_stays (hf.trans (by rw [if_pos hp]))
  · next hp => exact stepHead_same (hf.trans (by rw [if_neg hp]))

/-- A travel demand is cancelled where a head is out of PARKED (03 R47, log entry 11). -/
theorem cancelUnparked_eq (s : State) : cancelUnparked s =
    if s.chainage.move.demandActive = true ∧ ∃ j : Fin 4, (s.heads.get j).state ≠ .parked then
      s.setChainage { s.chainage with
        move := { s.chainage.move with state := .cancelled, timer := none }, line := some .cancel }
    else s := by
  have hparked : s.allParked = false ↔ ∃ j : Fin 4, (s.heads.get j).state ≠ .parked := by
    rw [← Bool.not_eq_true, s.allParked_iff]
    simp
  by_cases hd : s.chainage.move.demandActive = true ∧ ∃ j : Fin 4, (s.heads.get j).state ≠ .parked
  · rw [cancelUnparked, if_pos ⟨hd.1, hparked.mpr hd.2⟩, if_pos hd]
    simp [State.modChainage, ChainageUnit.cancelTravel, hd.1]
  · rw [cancelUnparked, if_neg (mt (And.imp_right hparked.mp) hd), if_neg hd]

end Head

/-! ## The events of one head -/

/-- What a command leads to: the end of the event at `x`, the attention timer following, and the event's reports. -/
def State.Follows (s : State) (c : Instr) (x : State) : Prop :=
  ∃ t, exec c s = .next t ∧ t.reportOf (followAttention s (settle x))

section Events

variable {s x : State} {i : Fin 4} {k : HeadRecord}

theorem State.Follows.of_eq {c : Instr} {y : State} (h : s.Follows c y) (hy : y = x) : s.Follows c x := hy ▸ h

theorem tiltReport_follows (arm : Fin 4) (r : TiltReport) (hlow : s.resetLow = false) :
    s.Follows (.tiltSensorReport i arm r) ((s.setInputs (tiltLevel i arm r s.inputs)).stepHead
      (quiet fun e h => (h.testGuard e).testPrepared e) i) :=
  ⟨_, congrArg Host.Outcome.next (levelEvent_eq hlow), event_reportOf (f := fun t =>
    takeTilt i (t.setInputs (tiltLevel i arm r t.inputs))) hlow⟩

theorem raisedReport_follows (raised : Bool) (hlow : s.resetLow = false) (ha : s.awaitFrame = false) :
    s.Follows (.headRaisedSensorReport i raised) ((s.setInputs (raisedLevel i raised s.inputs)).stepHead
      (fun e h => h.onRaised e) i) := by
  have htake : takeRaised i (s.setInputs (raisedLevel i raised s.inputs))
      = settle ((s.setInputs (raisedLevel i raised s.inputs)).stepHead (fun e h => h.onRaised e) i) := by
    simp [takeRaised, ha]
  rw [State.Follows, ← htake]
  exact ⟨_, congrArg Host.Outcome.next (levelEvent_eq hlow), event_reportOf (f := fun t =>
    takeRaised i (t.setInputs (raisedLevel i raised t.inputs))) hlow⟩

/-- Before the first axis frame a head out of PARKED ends a travel demand in the same event (log entry 11). -/
theorem raisedReport_follows_awaiting (raised : Bool) (hlow : s.resetLow = false) (ha : s.awaitFrame = true) :
    s.Follows (.headRaisedSensorReport i raised) (cancelUnparked
      ((s.setInputs (raisedLevel i raised s.inputs)).stepHead (fun e h => h.onRaised e) i)) := by
  have htake : takeRaised i (s.setInputs (raisedLevel i raised s.inputs)) = settle (cancelUnparked
      ((s.setInputs (raisedLevel i raised s.inputs)).stepHead (fun e h => h.onRaised e) i)) := by
    simp [takeRaised, ha]
  rw [State.Follows, ← htake]
  exact ⟨_, congrArg Host.Outcome.next (levelEvent_eq hlow), event_reportOf (f := fun t =>
    takeRaised i (t.setInputs (raisedLevel i raised t.inputs))) hlow⟩

theorem traverseExpiry_follows (hlow : s.resetLow = false) (hs : (s.heads.get i).state = .preparing)
    (ht : (s.heads.get i).traverseTimer.isSome = true) :
    s.Follows (.traverseTimerExpiry i) (s.stepHead (fun e h => h.preparingFault e .traverseFault) i) := by
  have htake : expireTraverse i s = settle (s.stepHead (fun e h => h.preparingFault e .traverseFault) i) :=
    if_pos ⟨hs, ht⟩
  rw [State.Follows, ← htake]
  exact ⟨_, rfl, event_reportOf hlow⟩

theorem tiltExpiry_follows (hlow : s.resetLow = false) (hs : (s.heads.get i).state = .preparing)
    (ht : (s.heads.get i).tiltTimer.isSome = true) :
    s.Follows (.tiltTimerExpiry i) (s.stepHead (fun e h => h.preparingFault e .tiltFault) i) := by
  have htake : expireTilt i s = settle (s.stepHead (fun e h => h.preparingFault e .tiltFault) i) :=
    if_pos ⟨hs, ht⟩
  rw [State.Follows, ← htake]
  exact ⟨_, rfl, event_reportOf hlow⟩

end Events

/-! ## What a report or an expiry does to the record -/

section Records

variable {e : HeadEnv} {h : HeadRecord}

/-- A report that breaks the guard takes the head out of the ballast (07 R128). -/
theorem HeadRecord.tilted_breaks (hw : h.working = true) (hg : e.guard = false) :
    (h.testGuard e).testPrepared e = { h with
      state := if h.state = .penetrating then .rising .full else .opening
      outcome := some .tiltFault, vibration := false, penetrationTimer := none, squeezeTimer := none } := by
  rw [HeadRecord.testGuard, if_pos ⟨hw, hg⟩, HeadRecord.testPrepared_of_state]
  · rfl
  · dsimp only [HeadRecord.leaveBallast]
    split <;> simp

theorem HeadRecord.tilted_keeps (hg : h.working = true → e.guard = true) (hs : h.state ≠ .preparing) :
    (h.testGuard e).testPrepared e = h := by
  have hkept : h.testGuard e = h := if_neg fun ⟨hw, hf⟩ => by simp [hg hw] at hf
  rw [hkept, HeadRecord.testPrepared_of_state hs]

theorem HeadRecord.tilted_preparing (hs : h.state = .preparing) :
    (h.testGuard e).testPrepared e = h.testPrepared e := by
  have hkept : h.testGuard e = h := if_neg fun ⟨hw, _⟩ => by simp [HeadRecord.working, hs] at hw
  rw [hkept]

/-- A raised report gives the tilt commands that wait (07 R123). -/
def HeadRecord.given (raised : Bool) (h : HeadRecord) : HeadRecord :=
  if raised then { h with tilt := h.tiltDue.map some } else h

theorem HeadRecord.given_keeps (raised : Bool) (h : HeadRecord) : (h.given raised).state = h.state
    ∧ (h.given raised).verticalSet = h.verticalSet ∧ (h.given raised).preparePending = h.preparePending := by
  cases raised <;> exact ⟨rfl, rfl, rfl⟩

theorem HeadRecord.onRaised_eq {raised : Bool} (hr : e.raised = raised) : h.onRaised e =
    if e.awaits then (h.given raised).followRaised e else (h.given raised).testRaised e := by
  subst hr
  unfold HeadRecord.onRaised
  cases e.raised <;> rfl

/-- A report that does not end a full rise. -/
theorem HeadRecord.onRaised_stays {raised : Bool} (ha : e.awaits = false) (hr : e.raised = raised)
    (hn : h.state ≠ .rising .full ∨ h.verticalSet ≠ 0 ∨ raised = false) : h.onRaised e = (h.given raised, false) := by
  obtain ⟨hs, hv, -⟩ := h.given_keeps raised
  rw [HeadRecord.onRaised_eq hr, if_neg (by simp [ha]), HeadRecord.testRaised_waits (by rwa [hs, hv, hr])]

/-- The raised report that ends a full rise (07 R134). -/
theorem HeadRecord.onRaised_ends (ha : e.awaits = false) (hr : e.raised = true) (hs : h.state = .rising .full)
    (hv : h.verticalSet = 0) : h.onRaised e = (h.given true).park e := by
  obtain ⟨hstate, hvertical, -⟩ := h.given_keeps true
  rw [HeadRecord.onRaised_eq hr, if_neg (by simp [ha]),
    HeadRecord.testRaised_ends (hstate.trans hs) (hvertical.trans hv) hr]

theorem HeadRecord.onRaised_parks (ha : e.awaits = false) (hr : e.raised = true) (hs : h.state = .rising .full)
    (hv : h.verticalSet = 0) (hp : h.preparePending = false ∨ e.order = none) : h.onRaised e = ({ h.given true with
      state := .parked, vibration := false, verticalSet := 0, squeezeSet := 0, traverseSet := e.lateral
      traverseTimer := none, tiltTimer := none, penetrationTimer := none, squeezeTimer := none
      tiltDue := .all4 .tiltOut, tilt := .all4 (some .tiltOut) }, true) := by
  rw [HeadRecord.onRaised_ends ha hr hs hv, HeadRecord.park_rests (by rwa [(h.given_keeps true).2.2])]
  simp [ha, hr]

theorem HeadRecord.onRaised_prepares {o : HeadOrder} (ha : e.awaits = false) (hr : e.raised = true)
    (hs : h.state = .rising .full) (hv : h.verticalSet = 0) (hp : h.preparePending = true) (ho : e.order = some o) :
    h.onRaised e = ({ h.given true with
      state := .preparing, vibration := false, verticalSet := 0, squeezeSet := 0, traverseSet := e.lateral
      traverseTimer := some o.traverseTime, tiltTimer := some o.tiltTime
      penetrationTimer := none, squeezeTimer := none, preparePending := false
      tiltDue := tiltsFor o.arms, tilt := (tiltsFor o.arms).map some }, true) := by
  rw [HeadRecord.onRaised_ends ha hr hs hv, HeadRecord.park_prepares (by rwa [(h.given_keeps true).2.2]) ho ha hr]

/-! Before the first axis frame after a reset the state follows the sensor (07 R137). -/

theorem HeadRecord.onRaised_sensedOut (ha : e.awaits = true) (hr : e.raised = false) :
    h.onRaised e = (h.atRest (.rising .full), false) := by
  rw [HeadRecord.onRaised_eq hr, if_pos ha]
  exact if_pos hr

theorem HeadRecord.onRaised_staysParked (ha : e.awaits = true) (hr : e.raised = true) (hs : h.state = .parked) :
    h.onRaised e = (h.given true, false) := by
  rw [HeadRecord.onRaised_eq hr, if_pos ha]
  exact (if_neg (by simp [hr])).trans (if_pos hs)

theorem HeadRecord.onRaised_sensedIn (ha : e.awaits = true) (hr : e.raised = true) (hs : h.state ≠ .parked) :
    h.onRaised e = ({ h.given true with
      state := .parked, vibration := false
      traverseTimer := none, tiltTimer := none, penetrationTimer := none, squeezeTimer := none
      tiltDue := .all4 .tiltOut, tilt := .all4 (some .tiltOut) }, true) := by
  have hpark : h.onRaised e = (h.given true).park e := by
    rw [HeadRecord.onRaised_eq hr, if_pos ha]
    exact (if_neg (by simp [hr])).trans (if_neg hs)
  rw [hpark, HeadRecord.park_of_awaits ha, settle_eq]
  simp [ha, hr]

theorem HeadRecord.strike_eq (hs : h.state = .penetrating) : h.strike = { h with
    state := .rising .full, outcome := some .struck, vibration := false
    penetrationTimer := none, squeezeTimer := none } := by
  simp [HeadRecord.strike, HeadRecord.leaveBallast, hs]

theorem HeadRecord.endSqueeze_timeLimited : h.endSqueeze .timeLimited = { h with
    state := .opening, vibration := false, squeezeTimer := none
    results := h.results ++ [.timeLimited]
    outcome := if h.planned ≤ h.results.length + 1 then some .timeLimited else h.outcome } := by
  have houtcome := h.endSqueeze_outcome .timeLimited
  simp only [or_true, if_true] at houtcome
  rw [← houtcome]
  rfl

end Records

/-- A head in the ballast is not PREPARING. -/
theorem HeadRecord.working_ne {h : HeadRecord} (hw : h.working = true) : h.state ≠ .preparing := fun hs => by
  simp [HeadRecord.working, hs] at hw

/-- Settles O50, event by event of one head: the tilt reports, the raised reports after and before the first axis frame,
and the four timers. -/
theorem headSensorsAndTimers : Obligations.HeadSensorsAndTimers := by
  intro s i arm report raised hlow h put parked follows x lifted given
  have htilt := tiltReport_follows (i := i) arm report hlow
  have hraised : (lifted.headEnv i).raised = raised := Quad.get_set_self ..
  have hnone : s.seq.context = none → (lifted.headEnv i).order = none := fun hc => by simp [State.headEnv, lifted, hc]
  refine ⟨⟨fun hw hg => ?_, fun hw hg => ?_, fun hw hs => ?_, fun o hs ho => ?_⟩,
    fun ha => ⟨fun hs hv hr hp => ?_, fun o ho hs hv hr hp => ?_, fun hn => ?_⟩,
    fun ha => ⟨fun hr => ?_, fun hr hs => ?_, fun hr hs => ?_⟩, fun hs hp => ⟨fun ht => ?_, fun ht => ?_⟩,
    fun hs => ⟨?_, ?_⟩, fun hs ht => ?_, fun hs => ?_, fun hs ht => ?_, fun hs => ?_⟩
  · exact htilt.of_eq (stepHead_stays (congrArg (·, false) (HeadRecord.tilted_breaks hw hg)))
  · exact htilt.of_eq (stepHead_same
      (congrArg (·, false) (HeadRecord.tilted_keeps (fun _ => hg) (HeadRecord.working_ne hw))))
  · exact htilt.of_eq (stepHead_same
      (congrArg (·, false) (HeadRecord.tilted_keeps (fun hf => nomatch hw.symm.trans hf) hs)))
  · exact htilt.of_eq (stepHead_tests (congrArg (·, false)
      ((HeadRecord.tilted_preparing hs).trans (HeadRecord.testPrepared_preparing hs ho))))
  · subst hr
    exact (raisedReport_follows true hlow ha).of_eq (stepHead_parks (HeadRecord.onRaised_parks ha hraised hs hv
      (hp.imp_right hnone)))
  · subst hr
    exact (raisedReport_follows true hlow ha).of_eq
      (stepHead_parks (HeadRecord.onRaised_prepares ha hraised hs hv hp ho))
  · exact (raisedReport_follows raised hlow ha).of_eq (stepHead_stays (HeadRecord.onRaised_stays ha hraised hn))
  · subst hr
    have hstep := stepHead_stays (s := lifted) (i := i) (f := fun e k => k.onRaised e)
      (HeadRecord.onRaised_sensedOut ha hraised)
    exact (raisedReport_follows_awaiting false hlow ha).of_eq
      ((congrArg cancelUnparked hstep).trans (cancelUnparked_eq _))
  · subst hr
    have hstep := stepHead_stays (s := lifted) (i := i) (f := fun e k => k.onRaised e)
      (HeadRecord.onRaised_staysParked ha hraised hs)
    exact (raisedReport_follows_awaiting true hlow ha).of_eq
      ((congrArg cancelUnparked hstep).trans (cancelUnparked_eq _))
  · subst hr
    have hstep := stepHead_parks (s := lifted) (i := i) (f := fun e k => k.onRaised e)
      (HeadRecord.onRaised_sensedIn ha hraised hs)
    exact (raisedReport_follows_awaiting true hlow ha).of_eq
      ((congrArg cancelUnparked hstep).trans (cancelUnparked_eq _))
  · exact (traverseExpiry_follows hlow hs ht).of_eq (stepHead_parks
      (HeadRecord.park_rests (h := { h with outcome := some .traverseFault }) (.inl hp)))
  · exact (tiltExpiry_follows hlow hs ht).of_eq (stepHead_parks
      (HeadRecord.park_rests (h := { h with outcome := some .tiltFault }) (.inl hp)))
  · exact congrArg Host.Outcome.next (event_same (if_neg fun hc => hs hc.1))
  · exact congrArg Host.Outcome.next (event_same (if_neg fun hc => hs hc.1))
  · refine congrArg Host.Outcome.next (event_eq_of_quiet hlow ((if_pos ⟨hs, ht⟩).trans ?_) rfl rfl rfl)
    rw [HeadRecord.strike_eq hs]
    rfl
  · exact congrArg Host.Outcome.next (event_same (if_neg fun hc => hs hc.1))
  · refine congrArg Host.Outcome.next (event_eq_of_quiet hlow ((if_pos ⟨hs, ht⟩).trans ?_) rfl rfl rfl)
    rw [HeadRecord.endSqueeze_timeLimited]
    rfl
  · exact congrArg Host.Outcome.next (event_same (if_neg fun hc => hs hc.1))

end Sys2Proof.Machine
end

section
/-! PROOFS. The reports of the clamp sensors (08 R140, R141, R149, R151, R152): the two reports that move the unit, what
each goes on to, and the end of their events. -/

namespace Sys2Proof.Machine

/-! ## The two reports that move the unit (08 R141, R149) -/

section Levels

variable {s t : State} {c : Context}

theorem LiningUnit.closes_iff (u : LiningUnit) (i : Inputs) : u.closes i = true ↔ u.state = .clamping
    ∧ u.clampTimer.isSome = true ∧ u.frozen = false ∧ i.clampsClosed u.hookConcerned = true := by
  simp [LiningUnit.closes, and_assoc]

theorem LiningUnit.opens_iff (u : LiningUnit) (i : Inputs) :
    u.opens i = true ↔ u.state = .releasing ∧ u.frozen = false ∧ i.clampsOpen = true := by
  simp [LiningUnit.opens, and_assoc]

/-- The unit OPEN, its clamp timer stopped (08 R149). -/
def State.unitOpened (s : State) : State := s.setLining { s.lining with state := .isOpen, clampTimer := none }

theorem takeClampLevels_same (hc : ¬s.lining.closes s.inputs = true) (ho : ¬s.lining.opens s.inputs = true) :
    takeClampLevels s = s :=
  (if_neg hc).trans (if_neg ho)

theorem takeClampLevels_closes (h : s.lining.closes s.inputs = true) (hq : s.seq.state = .measuring)
    (hc : s.seq.context = some c) : takeClampLevels s = { s with
      lining := { s.lining with state := .clamped, clampTimer := none }
      measuring := .window (.fresh .pre c) } := by
  have hreport : takeClampLevels s
      = reportClamped (s.setLining { s.lining with state := .clamped, clampTimer := none }) := if_pos h
  rw [hreport, reportClamped, if_pos (by exact hq), openWindow, State.setLining_seq, hc]
  rfl

/-- A unit RELEASING is not in CLAMPING, so the report that opens its last clamp is the report of OPEN. -/
theorem takeClampLevels_opens (h : s.lining.opens s.inputs = true) : takeClampLevels s = reportOpen s.unitOpened := by
  have hc : ¬s.lining.closes s.inputs = true := fun hc => by
    obtain ⟨hclamping, -⟩ := (LiningUnit.closes_iff ..).mp hc
    obtain ⟨hreleasing, -⟩ := (LiningUnit.opens_iff ..).mp h
    exact nomatch hclamping.symm.trans hreleasing
  exact (if_neg hc).trans (if_pos h)

/-! ## The end of an event at a unit that is not frozen -/

/-- A release after heads is not due where none is marked or a head is still awaited (08 R151). -/
theorem releaseAfterHeads_not_due
    (h : s.lining.releaseAfterHeads = false ∨ ∃ i : Fin 4, s.lining.awaited.get i = true) : releaseAfterHeads s = s :=
  h.elim releaseAfterHeads_same fun ⟨_, hi⟩ => releaseAfterHeads_of_awaited hi

theorem startIndexMove_of_unit (h : s.lining.state ≠ .isOpen) : startIndexMove s = s := by
  unfold startIndexMove
  split
  · rfl
  · exact if_neg fun ⟨_, _, ho, _⟩ => h ho

/-- Neither OPEN nor HOLDING, and not frozen, the unit lets nothing of the cycle come about outside TAMPING. -/
theorem settle_of_unit (ho : s.lining.state ≠ .isOpen) (hh : s.lining.state ≠ .holding) (hf : s.lining.frozen = false)
    (ht : s.seq.state ≠ .tamping) (hr : releaseAfterHeads s = s) : settle s = s := by
  rw [settle, beginTamping_of_unit hh, endTamping_same ht, hr, releaseFrozen_of_running hf, startIndexMove_of_unit ho]

/-- The unit follows its reports: it is not frozen, and no release after heads is due. -/
def State.unitFollows (s : State) : Prop := s.lining.frozen = false
  ∧ (s.lining.releaseAfterHeads = false ∨ ∃ i : Fin 4, s.lining.awaited.get i = true)

/-- A change of such a unit that leaves its marks, and does not leave it OPEN or HOLDING, is the whole event. -/
theorem State.unitFollows.settles (h : s.unitFollows) (hf : t.lining.frozen = s.lining.frozen)
    (hr : t.lining.releaseAfterHeads = s.lining.releaseAfterHeads) (ha : t.lining.awaited = s.lining.awaited)
    (ho : t.lining.state ≠ .isOpen) (hh : t.lining.state ≠ .holding) (ht : t.seq.state ≠ .tamping) : settle t = t :=
  settle_of_unit ho hh (hf.trans h.1) ht (releaseAfterHeads_not_due (by rw [hr, ha]; exact h.2))

/-! ## The last clamp closed (06 R102, 08 R141) -/

theorem settle_clamped (h : s.unitFollows) (hu : s.lining.state = .clamping) (ht : s.lining.clampTimer.isSome = true)
    (hclosed : s.inputs.clampsClosed s.lining.hookConcerned = true) (hq : s.seq.state = .measuring)
    (hc : s.seq.context = some c) : settle (takeClampLevels s) = { s with
      lining := { s.lining with state := .clamped, clampTimer := none }
      measuring := .window (.fresh .pre c) } := by
  rw [takeClampLevels_closes ((LiningUnit.closes_iff ..).mpr ⟨hu, ht, h.1, hclosed⟩) hq hc]
  exact h.settles rfl rfl rfl nofun nofun (by simp [hq])

/-! ## The last clamp opened (06 R99, R105, 08 R140, R149) -/

section Opens

variable (h : s.unitFollows) (hu : s.lining.state = .releasing) (ho : s.inputs.clampsOpen = true)

include h hu ho

theorem takeClampLevels_reports : takeClampLevels s = reportOpen s.unitOpened :=
  takeClampLevels_opens ((LiningUnit.opens_iff ..).mpr ⟨hu, h.1, ho⟩)

/-- A clamp pending is taken: the unit clamps at once. -/
theorem settle_clamps_pending (hp : s.lining.clampPending = true) (hq : s.seq.state ≠ .tamping) :
    settle (takeClampLevels s) = s.setLining { s.lining with
      state := .clamping, command := ⟨true, true, s.lining.hookConcerned⟩
      clampTimer := some s.lining.settings.clampTime, clampPending := false } := by
  rw [takeClampLevels_reports h hu ho, reportOpen_pending (s := s.unitOpened) hp,
    clampUnit_of_open (s := s.unitOpened) ((clampsOpen_iff _).mp ho)]
  exact h.settles rfl rfl rfl nofun nofun hq

/-- The release at the end of TAMPING opens the FINAL window. -/
theorem settle_opens_final (hp : s.lining.clampPending = false) (hq : s.seq.state = .releasing)
    (hc : s.seq.context = some c) :
    settle (takeClampLevels s) = s.unitOpened.setMeasuring (.window (.fresh .final c)) := by
  rw [takeClampLevels_reports h hu ho, reportOpen_window (s := s.unitOpened) hp hq hc]
  exact settle_of_quiet (by simp [State.unitOpened, hq]) (by simp [State.unitOpened, hq])
    (by simp [State.unitOpened, hq]) (releaseAfterHeads_not_due h.2)

/-- A release retry goes on with the steps that follow a recording, the advance owed since then. -/
theorem takeClampLevels_retried (hp : s.lining.clampPending = false) (hq : s.seq.state = .releasing)
    (hc : s.seq.context = none) (howed : s.seq.advanceOwed = true) :
    takeClampLevels s = afterRecording s.unitOpened := by
  have hsame : s.seq = { s.seq with advanceOwed := true } := by rw [← howed]
  rw [takeClampLevels_reports h hu ho, reportOpen_retry (s := s.unitOpened) hp hq hc]
  exact congrArg (fun q => continueRun (s.unitOpened.setSeq q)) hsame

/-- In a state that rests the unit is only OPEN. -/
theorem settle_opens_resting (hp : s.lining.clampPending = false) (hq : s.seq.state.rests) :
    settle (takeClampLevels s) = s.unitOpened := by
  obtain ⟨hindexing, hcorrecting, htamping, hreleasing⟩ := hq.ne
  rw [takeClampLevels_reports h hu ho, reportOpen_rests (s := s.unitOpened) hp hreleasing]
  exact settle_of_quiet hindexing hcorrecting htamping (releaseAfterHeads_not_due h.2)

/-- In INDEXING the unit is only OPEN, and the index move that waits for it starts. -/
theorem settle_opens_indexing (hp : s.lining.clampPending = false) (hq : s.seq.state = .indexing) :
    settle (takeClampLevels s) = startIndexMove s.unitOpened := by
  rw [takeClampLevels_reports h hu ho, reportOpen_rests (s := s.unitOpened) hp (by simp [State.unitOpened, hq]),
    settle_indexing (s := s.unitOpened) hq, releaseAfterHeads_not_due (s := s.unitOpened) h.2,
    releaseFrozen_of_running (s := s.unitOpened) h.1]

end Opens

/-! ## Every other report (log entries 24, 32) -/

theorem settle_clamping_stays (h : s.unitFollows) (hq : s.seq.state ≠ .tamping) (hu : s.lining.state = .clamping)
    (hn : s.lining.clampTimer = none ∨ s.inputs.clampsClosed s.lining.hookConcerned = false) :
    settle (takeClampLevels s) = s := by
  have hc : ¬s.lining.closes s.inputs = true := fun hc => by
    obtain ⟨-, ht, -, hclosed⟩ := (LiningUnit.closes_iff ..).mp hc
    rcases hn with hn | hn
    · simp [hn] at ht
    · simp [hn] at hclosed
  have ho : ¬s.lining.opens s.inputs = true := fun ho =>
    nomatch hu.symm.trans ((LiningUnit.opens_iff ..).mp ho).1
  rw [takeClampLevels_same hc ho]
  exact h.settles rfl rfl rfl (by simp [hu]) (by simp [hu]) hq

theorem settle_releasing_stays (h : s.unitFollows) (hq : s.seq.state ≠ .tamping) (hu : s.lining.state = .releasing)
    (hn : s.inputs.clampsOpen = false) : settle (takeClampLevels s) = s := by
  have hc : ¬s.lining.closes s.inputs = true := fun hc =>
    nomatch hu.symm.trans ((LiningUnit.closes_iff ..).mp hc).1
  have ho : ¬s.lining.opens s.inputs = true := fun ho => by
    obtain ⟨-, -, hopen⟩ := (LiningUnit.opens_iff ..).mp ho
    exact nomatch hn.symm.trans hopen
  rw [takeClampLevels_same hc ho]
  exact h.settles rfl rfl rfl (by simp [hu]) (by simp [hu]) hq

/-- A unit that is frozen, or neither CLAMPING nor RELEASING, has no report to make of its clamps. -/
theorem takeClampLevels_unmoved
    (h : s.lining.frozen = true ∨ (s.lining.state ≠ .clamping ∧ s.lining.state ≠ .releasing)) :
    takeClampLevels s = s := by
  refine takeClampLevels_same (fun hc => ?_) fun ho => ?_
  · obtain ⟨hu, -, hf, -⟩ := (LiningUnit.closes_iff ..).mp hc
    simp [hu, hf] at h
  · obtain ⟨hu, hf, -⟩ := (LiningUnit.opens_iff ..).mp ho
    simp [hu, hf] at h

end Levels

section Reports

variable {s t : State} (clamp : Clamp) (closed : Bool)

theorem exec_clampSensorReport_eq (h : s.resetLow = false) : exec (.clampSensorReport clamp closed) s = .next
    (event (fun x => settle (takeClampLevels (x.setInputs (clampLevel clamp closed x.inputs)))) s) :=
  congrArg Host.Outcome.next (levelEvent_eq h)

/-- A report that keeps the sequencer and raises no latch ends as the end of its event leaves it. -/
theorem exec_clampSensorReport_of_quiet (h : s.resetLow = false)
    (ht : settle (takeClampLevels (s.setInputs (clampLevel clamp closed s.inputs))) = t) (hseq : t.seq = s.seq)
    (hlat : t.latches = s.latches) (hparams : t.params = s.params) :
    exec (.clampSensorReport clamp closed) s = .next t :=
  (exec_clampSensorReport_eq clamp closed h).trans (congrArg Host.Outcome.next
    (event_eq_of_quiet (f := fun x => settle (takeClampLevels (x.setInputs (clampLevel clamp closed x.inputs)))) h ht
      (by rw [hseq]) hlat (by rw [hparams])))

end Reports

/-- Settles O45: each report by what the unit does with it and the end of its event; only a release retry moves the
sequencer. -/
theorem clampReportsMoveTheUnit : Obligations.ClampReportsMoveTheUnit := by
  intro s clamp closed hlow i e live opened
  let x := s.setInputs i
  have hquiet : ∀ {t : State}, settle (takeClampLevels x) = t → t.seq = s.seq → t.latches = s.latches →
      t.params = s.params → e = .next t := exec_clampSensorReport_of_quiet clamp closed hlow
  refine ⟨fun c h hc hq hu ht hclosed => ?_, fun h hq hu hn => ?_, fun h hq hu hp ho => ?_,
    fun c h hc hq hu hp ho => ?_, fun h hc howed hq hu hp ho => ⟨_, exec_clampSensorReport_eq clamp closed hlow, ?_⟩,
    fun h hq hu hp ho => ?_, fun h hq hu hp ho => ?_, fun h hq hu hn => ?_, fun hu hs => ?_⟩
  · exact hquiet (settle_clamped (s := x) h hu ht hclosed hq hc) rfl rfl rfl
  · exact hquiet (settle_clamping_stays (s := x) h hq hu hn) rfl rfl rfl
  · exact hquiet (settle_clamps_pending (s := x) h hu ho hp (by simp [x, hq])) rfl rfl rfl
  · exact hquiet (settle_opens_final (s := x) h hu ho hp hq hc) rfl rfl rfl
  · have hgoes : takeClampLevels x = afterRecording opened :=
      takeClampLevels_retried (s := x) h hu ho hp hq hc howed
    rw [← hgoes]
    exact event_reportOf hlow
  · exact hquiet (settle_opens_resting (s := x) h hu ho hp (hq.imp_right .inr)) rfl rfl rfl
  · exact hquiet (settle_opens_indexing (s := x) h hu ho hp hq) (by simp [opened]) (by simp [opened])
      (by simp [opened])
  · exact hquiet (settle_releasing_stays (s := x) h hq hu hn) rfl rfl rfl
  · have hmoved : x.lining.frozen = true ∨ (x.lining.state ≠ .clamping ∧ x.lining.state ≠ .releasing) := by
      rcases hu with hu | hu | hu | hu | hu
      · exact .inl hu
      all_goals exact .inr (by simp [x, hu])
    exact hquiet ((congrArg settle (takeClampLevels_unmoved hmoved)).trans hs) rfl rfl rfl

end Sys2Proof.Machine
end

section
/-! PROOFS. The expiry of the clamp timer (06 R105, R117, 08 R141, R150): the clamp failure, the release failure by why
the release was made, and the end of each event in HOLD. -/

namespace Sys2Proof.Machine

/-! ## The expiry by the state of the unit -/

section Expiry

variable {s t : State} {c : Context}

/-- The unit once its clamp timer has expired. -/
def State.timedOut (s : State) : State := s.setLining { s.lining with clampTimer := none }

theorem expireClampTimer_stopped (h : s.lining.clampTimer = none) : expireClampTimer s = s := by
  simp [expireClampTimer, h]

theorem expireClampTimer_clamping (ht : s.lining.clampTimer.isSome = true) (hu : s.lining.state = .clamping) :
    expireClampTimer s = clampFailure s.timedOut := by
  rw [expireClampTimer, if_pos ht, hu]
  rfl

theorem expireClampTimer_releasing (ht : s.lining.clampTimer.isSome = true) (hu : s.lining.state = .releasing) :
    expireClampTimer s = releaseFailure s.timedOut := by
  rw [expireClampTimer, if_pos ht, hu]
  rfl

theorem releaseFailure_pending (h : s.lining.clampPending = true) : releaseFailure s = clampFailure s := if_pos h

theorem releaseFailure_idle (hp : s.lining.clampPending = false) (h : s.seq.state ≠ .releasing) :
    releaseFailure s = s :=
  (if_neg (by simp [hp])).trans (if_neg h)

theorem exec_clampTimerExpiry_of_quiet (h : s.resetLow = false) (ht : settle (expireClampTimer s) = t)
    (hseq : t.seq = s.seq) (hlat : t.latches = s.latches) (hparams : t.params = s.params) :
    exec .clampTimerExpiry s = .next t :=
  congrArg Host.Outcome.next (event_eq_of_quiet (f := fun x => settle (expireClampTimer x)) h ht (by rw [hseq]) hlat
    (by rw [hparams]))

/-- An expiry that ends in HOLD from a state that gives attention, up to its reports. -/
theorem exec_clampTimerExpiry_holds (h : s.resetLow = false) (ht : settle (expireClampTimer s) = t)
    (hs : s.seq.state.attentive = true) (hq : t.seq.state = .hold) :
    ∃ x, exec .clampTimerExpiry s = .next x ∧ x.reportOf t := by
  refine ⟨_, rfl, ?_⟩
  rw [← ht]
  exact event_reportOf_same (f := fun x => settle (expireClampTimer x)) h (by rw [ht, hq, hs]; rfl)

/-- The reports of an event change no store. -/
theorem State.reportOf.keepsStores {x : State} (h : t.reportOf x) (hx : x.keepsStores s) : t.keepsStores s := by
  obtain ⟨hpending, hreset, hinputs, hawait, hparams, -, hrules, -, -, -, -, -, -, -, hsupervisor, -⟩ :=
    State.reportOf_keeps h
  obtain ⟨-, hrx, hrequests, hrestart, -⟩ := h
  simp only [State.keepsStores, hpending, hreset, hinputs, hawait, hparams, hrules, hsupervisor, hrx, hrequests,
    hrestart]
  exact hx

end Expiry

/-! ## The clamp failure (06 R117) -/

section ClampFailure

variable {s : State} {c : Context}

/-- The flight aborted for a clamp failure: as by ABORT_SLEEPER, with the reason CLAMP_FAULT and READMIT to come. -/
def State.clampFailed (s : State) : State :=
  (abortFlight s).setSeq { (abortFlight s).seq with hold := some .clampFault, resumeAction := some .readmit }

theorem clampFailure_eq (h : s.seq.state = .measuring) : clampFailure s = s.clampFailed := if_pos h

theorem clampFailed_rests (s : State) : s.clampFailed.seq.state.rests := .inr (.inr (.inl rfl))

theorem clampFailed_pending (s : State) : s.clampFailed.lining.clampPending = false := by
  have hlining : s.clampFailed.lining = (abortFlight s).lining := rfl
  rw [hlining, abortFlight_lining, abortOrder_clampPending]

/-- At rest the end of an event moves the unit alike, whatever else the sequencer holds. -/
theorem settle_lining_of_rests {q : Sequencer} (hs : s.seq.state.rests) (hq : q.state.rests)
    (hp : s.lining.clampPending = false) : (settle (s.setSeq q)).lining = (settle s).lining := by
  cases hr : s.lining.releaseAfterHeads with
  | false => rw [settle_rests hs hr, settle_rests (s := s.setSeq q) hq hr]; rfl
  | true => rw [settle_left_lining hs hr hp, settle_left_lining (s := s.setSeq q) hq hr hp]; rfl

theorem settle_clampFailed_lining (s : State) : (settle s.clampFailed).lining = (settle (abortFlight s)).lining :=
  settle_lining_of_rests (.inr (.inr (.inl (abortFlight_rests s)))) (clampFailed_rests s) (clampFailed_pending s)

theorem settle_clampFailed (hc : s.seq.context = some c) :
    (settle s.clampFailed).seq = { s.seq with
        state := .hold, hold := some .clampFault, context := none, reservation := 0
        retained := some c.record, resumeAction := some .readmit }
      ∧ (settle s.clampFailed).heads = (abortFlight s).heads
      ∧ (settle s.clampFailed).results = s.results ++ [formResult c (abortFlight s).heads .aborted]
      ∧ (settle s.clampFailed).measuring = .noWindow ∧ (settle s.clampFailed).computer = s.computer
      ∧ (settle s.clampFailed).plan = s.plan ∧ (settle s.clampFailed).chainage = s.chainage := by
  obtain ⟨hindexing, hcorrecting, htamping, hreleasing⟩ := (clampFailed_rests s).ne
  obtain ⟨hplan, hchainage, hseq, hheads, -, -, hmeasuring⟩ :=
    settle_resting_keeps hcorrecting htamping hindexing hreleasing (clampFailed_pending s)
  obtain ⟨hrecord, hresults, -⟩ := abortFlight_record hc
  refine ⟨hseq.trans ?_, hheads, ?_, hmeasuring (abortFlight_measuring s), ?_, hplan.trans ?_, hchainage.trans ?_⟩
  · simp [State.clampFailed, hrecord]
  · simpa [State.clampFailed] using hresults
  · simp [State.clampFailed, abortFlight_computer]
  · simp [State.clampFailed]
  · simp [State.clampFailed]

end ClampFailure

/-! ## The release failure at the end of TAMPING (06 R105) -/

section ReleaseFailure

variable {s : State} {c : Context}

/-- The sleeper of `c` recorded with RELEASE_FAULT and its own outcome, the advance owed. -/
def State.releaseRecorded (s : State) (c : Context) : State :=
  (recordSleeper (tampOutcome c s.heads) (s.raiseFlags CorrectionFlag.releaseFault.mask)).modSeq
    fun q => { q with advanceOwed := true }

theorem releaseFailure_tamped (hp : s.lining.clampPending = false) (h : s.seq.state = .releasing)
    (hc : s.seq.context = some c) : releaseFailure s = holdForRetry (s.releaseRecorded c) := by
  rw [releaseFailure, if_neg (by simp [hp]), if_pos h, hc]
  rfl

theorem releaseFailure_retry (hp : s.lining.clampPending = false) (h : s.seq.state = .releasing)
    (hc : s.seq.context = none) : releaseFailure s = holdForRetry s := by
  rw [releaseFailure, if_neg (by simp [hp]), if_pos h, hc]

@[simp] theorem State.releaseRecorded_keeps (s : State) (c : Context) :
    (s.releaseRecorded c).pending = s.pending ∧ (s.releaseRecorded c).resetLow = s.resetLow
      ∧ (s.releaseRecorded c).inputs = s.inputs ∧ (s.releaseRecorded c).awaitFrame = s.awaitFrame
      ∧ (s.releaseRecorded c).link = s.link ∧ (s.releaseRecorded c).params = s.params
      ∧ (s.releaseRecorded c).plan = s.plan ∧ (s.releaseRecorded c).rules = s.rules
      ∧ (s.releaseRecorded c).manualMask = s.manualMask ∧ (s.releaseRecorded c).chainage = s.chainage
      ∧ (s.releaseRecorded c).measuring = s.measuring ∧ (s.releaseRecorded c).heads = s.heads
      ∧ (s.releaseRecorded c).lining = s.lining ∧ (s.releaseRecorded c).supervisor = s.supervisor
      ∧ (s.releaseRecorded c).stop = s.stop := by
  simp [State.releaseRecorded]

theorem releaseRecorded_of_context (hc : s.seq.context = some c) :
    (s.releaseRecorded c).seq = { s.seq with
        context := none, reservation := 0, retained := some c.record, advanceOwed := true }
      ∧ (s.releaseRecorded c).results
        = s.results ++ [formResult { c with flags := c.flags ||| 0x2000 } s.heads (tampOutcome c s.heads)]
      ∧ (s.releaseRecorded c).computer = s.computer.commit (tampOutcome c s.heads) c.correction := by
  have hctx : (s.raiseFlags CorrectionFlag.releaseFault.mask).seq.context
      = some { c with flags := c.flags ||| 0x2000 } := by
    simp [State.raiseFlags, State.modContext, hc, CorrectionFlag.mask]
  obtain ⟨hseq, hresults, hcomputer⟩ := recordSleeper_of_context hctx (tampOutcome c s.heads)
  refine ⟨?_, ?_, ?_⟩
  · rw [State.releaseRecorded, State.modSeq_eq, State.setSeq_seq, hseq]; rfl
  · simpa [State.releaseRecorded] using hresults
  · simpa [State.releaseRecorded] using hcomputer

theorem settle_holdForRetry (h : s.lining.releaseAfterHeads = false) : settle (holdForRetry s) = holdForRetry s :=
  settle_rests (.inr (.inr (.inl rfl))) (by simpa using h)

theorem holdForRetry_eq (s : State) : holdForRetry s = { s with
    seq := { s.seq with state := .hold, hold := some .clampFault, resumeAction := some .retryRelease }
    latches := s.latches ||| 0x01 } := rfl

end ReleaseFailure

/-- Settles O46: the timer stopped, then the failure by the state of the unit and why the release was made. -/
theorem clampTimerFailures : Obligations.ClampTimerFailures := by
  intro s hlow
  refine ⟨fun ht hs => ?_, fun c ht hu hq hc => ?_, fun c ht hu hp hr hq hc => ?_, fun ht hu hp hr hq hc => ?_,
    fun ht hu hp hr hf hq hcorrecting htamping => ?_⟩
  · exact exec_clampTimerExpiry_of_quiet hlow ((congrArg settle (expireClampTimer_stopped ht)).trans hs) rfl rfl rfl
  · have hfails : expireClampTimer s = s.timedOut.clampFailed := by
      rw [← clampFailure_eq (s := s.timedOut) hq]
      rcases hu with hu | ⟨hu, hp, -⟩
      · exact expireClampTimer_clamping ht hu
      · exact (expireClampTimer_releasing ht hu).trans (releaseFailure_pending hp)
    obtain ⟨hseq, hheads, hresults, hmeasuring, hcomputer, hplan, hchainage⟩ := settle_clampFailed (s := s.timedOut) hc
    obtain ⟨t, hexec, hreport⟩ := exec_clampTimerExpiry_holds hlow (congrArg settle hfails)
      (by rw [hq]; rfl) (by rw [hseq])
    obtain ⟨-, -, -, -, -, htplan, -, htmask, htchainage, htmeasuring, htcomputer, htseq, htheads, htlining, -, htstop,
      -, htresults, -⟩ := State.reportOf_keeps hreport
    simp only [← hheads, ← htheads, settle_clampFailed_lining] at hresults htlining
    refine ⟨t, hexec, htseq.trans hseq, htresults.trans hresults, htmeasuring.trans hmeasuring, fun i => ?_,
      fun hclamping => ?_, fun hreleasing => ?_, htcomputer.trans hcomputer, htplan.trans hplan,
      htchainage.trans hchainage, htstop.trans ?_, htmask.trans ?_, hreport.keepsStores ?_⟩
    · rw [htheads, hheads, abortFlight_heads]
      exact goOut_goesOut ..
    · have hunit : s.timedOut.lining.state = .clamping := hclamping
      rw [htlining, abortFlight_settled_left (by simp [hunit]) (by simp [hunit]), htheads, hheads]
      rfl
    · obtain ⟨-, -, hr⟩ := hu.resolve_left (by simp [hreleasing])
      exact ⟨_, htlining.trans (abortFlight_settled_kept (s := s.timedOut) (.inr hreleasing) hr)⟩
    all_goals simp [State.keepsStores, State.clampFailed, State.timedOut]
  · have hfails : settle (expireClampTimer s) = holdForRetry (s.timedOut.releaseRecorded c) := by
      rw [expireClampTimer_releasing ht hu, releaseFailure_tamped (s := s.timedOut) hp hq hc]
      exact settle_holdForRetry (by simpa [State.timedOut] using hr)
    obtain ⟨hseq, hresults, hcomputer⟩ := releaseRecorded_of_context (s := s.timedOut) hc
    obtain ⟨t, hexec, hreport⟩ := exec_clampTimerExpiry_holds hlow hfails (by rw [hq]; rfl) rfl
    obtain ⟨-, -, -, -, -, htplan, -, htmask, htchainage, htmeasuring, htcomputer, htseq, htheads, htlining, -, htstop,
      -, htresults, -⟩ := State.reportOf_keeps hreport
    simp only [holdForRetry_keeps, State.releaseRecorded_keeps, hresults, hcomputer]
      at htplan htmask htchainage htmeasuring htcomputer htheads htlining htstop htresults
    refine ⟨t, hexec, ?_, htresults, htcomputer, htlining, htplan, htchainage, htheads, htmeasuring, htstop, htmask,
      hreport.keepsStores ?_⟩
    · rw [htseq, holdForRetry_eq, hseq]
      rfl
    · simp [State.keepsStores, State.timedOut]
  · have hfails : settle (expireClampTimer s) = holdForRetry s.timedOut := by
      rw [expireClampTimer_releasing ht hu, releaseFailure_retry (s := s.timedOut) hp hq hc]
      exact settle_holdForRetry hr
    exact exec_clampTimerExpiry_holds hlow hfails (by rw [hq]; rfl) rfl
  · refine exec_clampTimerExpiry_of_quiet hlow ?_ rfl rfl rfl
    rw [expireClampTimer_releasing ht hu, releaseFailure_idle (s := s.timedOut) hp hq]
    exact settle_of_unit (by simp [State.timedOut, hu]) (by simp [State.timedOut, hu]) hf htamping
      (releaseAfterHeads_same hr)

end Sys2Proof.Machine
end

section
/-! PROOFS. The attention timer DISARMED exactly where it does not run (09 R161): nothing in an event or a request arms
or disarms it but the two resets, and at the end it follows the sequencer. -/

namespace Sys2Proof.Machine

/-- The timer is DISARMED exactly where it does not run (09 R161). -/
def State.timerFollows (s : State) : Prop := s.attention.state = .disarmed ↔ s.seq.state.attentive = false

/-- `t` has its timer DISARMED exactly where `s` has. -/
def State.SameArming (s t : State) : Prop := t.attention.state = .disarmed ↔ s.attention.state = .disarmed

section Arming

variable {s t u : State}

theorem State.SameArming.of_eq (h : t.attention = s.attention) : s.SameArming t := by rw [State.SameArming, h]

theorem State.timerFollows.of_same (h : s.timerFollows) (ha : s.SameArming t) (hq : t.seq = s.seq) :
    t.timerFollows := by
  rw [State.timerFollows, hq]
  exact Iff.trans ha h

/-! ## The timer follows the sequencer -/

theorem loadAttention_follows (h : s.seq.state.attentive = true) : s.loadAttention.timerFollows :=
  ⟨nofun, fun hs => nomatch h.symm.trans hs⟩

/-- An event that neither arms nor disarms the timer leaves the rest to the end of the event. -/
theorem followAttention_follows (h : s.timerFollows) (ha : s.SameArming t) : (followAttention s t).timerFollows := by
  cases hb : s.seq.state.attentive with
  | false =>
    cases ht : t.seq.state.attentive with
    | false =>
      rw [followAttention_same (ht.trans hb.symm)]
      exact iff_of_true (ha.mpr (h.mpr hb)) ht
    | true => rw [followAttention_arms hb ht]; exact loadAttention_follows ht
  | true =>
    cases ht : t.seq.state.attentive with
    | false => rw [followAttention_disarms hb ht]; exact iff_of_true rfl ht
    | true =>
      rw [followAttention_same (ht.trans hb.symm)]
      exact iff_of_false (fun hd => nomatch hb.symm.trans (h.mp (ha.mp hd))) (by simp [ht])

/-- A timer that already stands by the sequencer's new state stays so at the end of the event. -/
theorem followAttention_of_follows (before : State) (h : s.timerFollows) :
    (followAttention before s).timerFollows := by
  unfold followAttention
  split
  · next hs =>
    split
    · exact h
    · exact loadAttention_follows hs
  · next hs =>
    split
    · exact iff_of_true rfl (by simpa using hs)
    · exact h

/-! ## Activity -/

theorem loadAttention_sameArming (h : s.attention.state ≠ .disarmed) : s.SameArming s.loadAttention :=
  iff_of_false nofun h

theorem activity_sameArming (s : State) : s.SameArming (activity s) := by
  rw [activity_eq_ite]
  split
  · exact .rfl
  · exact loadAttention_sameArming ‹_›

theorem activityFrom_sameArming (n : Nat) (s : State) : s.SameArming (activityFrom n s) := by
  rw [activityFrom_eq_ite]
  split
  · next h => exact loadAttention_sameArming h.1
  · exact .rfl

theorem requestActivity_sameArming (r : Request) (y : Reply) (s : State) :
    s.SameArming (requestActivity r y s) := by
  rw [requestActivity_eq_ite]
  split
  · next h => exact loadAttention_sameArming h.1
  · exact .rfl

/-! ## The requests -/

theorem resumeHold_attention {r : HoldReason} (h : resumeHold r s = some t) : t.attention = s.attention := by
  cases r with
  | planExhausted => cases h
  | resultFull => cases h
  | confirmWait => cases h
  | _ => cases h; simp

/-- What a RESUME does begins with activity, and changes the timer no further (log entry 14). -/
theorem resumed_attention (h : resumed s = some t) : t.attention = (activity s).attention := by
  unfold resumed at h
  split at h
  · cases h; simp
  · exact resumeHold_attention h
  · cases h

theorem resumeRun_sameArming (s : State) : s.SameArming (resumeRun s).1 := by
  unfold resumeRun
  split
  · next t ht =>
    have hsettled : (settle t).attention = (activity s).attention := by simp [resumed_attention ht]
    exact Iff.trans (State.SameArming.of_eq hsettled) (activity_sameArming s)
  · exact .rfl

theorem setParam_attention (id : Byte) (value : BitVec 32) (s : State) :
    (setParam id value s).1.attention = s.attention := by
  have hstore : ∀ p v, (storeParam p v s).attention = s.attention := fun p v => by
    unfold storeParam
    dsimp only
    split <;> simp
  unfold setParam setChord setClamped
  dsimp only
  split
  · rfl
  · split
    · split
      · rfl
      · split
        · rfl
        · exact hstore _ _
    · exact hstore _ _

theorem startRun_attention (page index : Byte) (s : State) : (startRun page index s).1.attention = s.attention := by
  unfold startRun
  repeat' split
  all_goals simp

theorem closePage_attention (page count endByte : Byte) (s : State) :
    (closePage page count endByte s).1.attention = s.attention := by
  unfold closePage
  dsimp only
  repeat' split
  all_goals simp

theorem releaseResultsRequest_attention (n : Byte) (s : State) :
    (releaseResultsRequest n s).1.attention = s.attention := by
  have hrelease : (releaseResults n s).1.attention = s.attention := by
    unfold releaseResults
    repeat' split
    all_goals rfl
  unfold releaseResultsRequest
  dsimp only
  split
  · simpa using hrelease
  · exact hrelease

theorem skipSleeper_attention (s : State) : (skipSleeper s).1.attention = s.attention := by
  unfold skipSleeper pendSkip
  repeat' split
  all_goals simp

/-- Of the owners of the requests only RESUME gives activity itself. -/
theorem runCall_sameArming (c : Call) (s : State) : s.SameArming (runCall c s).1 := by
  cases c with
  | resume => exact resumeRun_sameArming s
  | setParam id value => exact .of_eq (setParam_attention id value s)
  | closePage page count endByte => exact .of_eq (closePage_attention page count endByte s)
  | startRun page index => exact .of_eq (startRun_attention page index s)
  | skipSleeper => exact .of_eq (skipSleeper_attention s)
  | releaseResults n => exact .of_eq (releaseResultsRequest_attention n s)
  | _ =>
    refine .of_eq ?_
    simp only [runCall, planRequest, ruleRequest, setManualMaskRequest, setChainageTo, pauseRun, confirmSleeper,
      abortSleeper, retampSleeper, stopRun, clearStop, getCounters, clearEvents]
    repeat' split
    all_goals simp

/-! ## The link -/

theorem State.LinkTurned.attention (h : s.LinkTurned t) : t.attention = s.attention := by
  rw [State.LinkTurned] at h
  rw [h]
  rfl

theorem State.LinkTurned.seq (h : s.LinkTurned t) : t.seq = s.seq := by
  rw [State.LinkTurned] at h
  rw [h]
  rfl

theorem State.LinkTurned.timerFollows (h : s.LinkTurned t) (hs : s.timerFollows) : t.timerFollows :=
  hs.of_same (.of_eq h.attention) h.seq

theorem report_follows (before : State) (h : s.timerFollows) : (report before s).timerFollows := by
  obtain ⟨-, -, -, -, -, -, -, -, -, -, -, hq, -, -, -, -, ha, -⟩ := State.reportOf_keeps (report_reportOf before s)
  exact h.of_same (.of_eq ha) hq

theorem execute_follows (r : Request) (h : s.timerFollows) : (execute r s).timerFollows := by
  unfold execute
  dsimp only
  refine report_follows s (State.timerFollows.of_same ?_ (requestActivity_sameArming r _ _) (by simp))
  refine followAttention_follows h (Iff.trans ?_ (runCall_sameArming r.call s))
  exact .of_eq rfl

theorem executeOldest_follows (h : s.timerFollows) : (executeOldest s).timerFollows := by
  unfold executeOldest
  split
  · exact h
  · split
    · exact execute_follows _ h
    · exact h

theorem request_follows (r : Request) (h : s.timerFollows) : (request r s).timerFollows := by
  have ha := (acceptRequest_turned r s).timerFollows h
  unfold request
  split
  · exact h
  · split
    · exact executeOldest_follows h
    · split
      · exact executeOldest_follows ha
      · exact ha

/-! ## Events -/

theorem event_follows {f : State → State} (h : s.timerFollows) (hf : s.SameArming (f s)) :
    (event f s).timerFollows := by
  unfold event closeEvent
  split
  · exact h
  · exact report_follows s (followAttention_follows h hf)

theorem levelEvent_follows {g : Inputs → Inputs} {f : State → State} (h : s.timerFollows)
    (hf : s.SameArming (f s)) : (levelEvent g f s).timerFollows := by
  cases hr : s.resetLow with
  | true => rw [levelEvent, if_pos hr]; exact h
  | false => rw [levelEvent_eq hr]; exact event_follows h hf

/-- Bytes received one after the other (log entry 3). -/
theorem bytes_follow (bytes : List RxByte) (s : State) (h : s.timerFollows) :
    (bytes.foldl (fun t b => event (takeByte b) t) s).timerFollows := by
  induction bytes generalizing s with
  | nil => exact h
  | cons b rest ih => exact ih _ (event_follows h (.of_eq (takeByte_turned b s).attention))

/-- A frame sent arms nothing: at most it ends a restart, which leaves the run IDLE and the timer DISARMED (11 R185). -/
theorem frameSent_follows (h : s.timerFollows) : (event takeSent s).timerFollows := by
  have hsent : s.SameArming (takeSent s) ∨ (takeSent s).timerFollows := by
    unfold takeSent
    split
    · exact .inl .rfl
    · split
      · exact .inl .rfl
      · split
        · exact .inr (iff_of_true rfl rfl)
        · exact .inl .rfl
  rcases hsent with hsent | hsent
  · exact event_follows h hsent
  · unfold event closeEvent
    split
    · exact h
    · exact report_follows s (followAttention_of_follows s hsent)

theorem supervise_attention (f : AxisFrame) (s : State) : (supervise f s).attention = s.attention := by
  have hfold : ∀ (l : List Axis) (x : State), (l.foldl testAxis x).attention = x.attention := fun l => by
    induction l with
    | nil => exact fun _ => rfl
    | cons a l ih => exact fun x => (ih _).trans (by simp)
  exact hfold _ _

theorem takeAxisFrame_attention (f : AxisFrame) (s : State) : (takeAxisFrame f s).attention = s.attention := by
  unfold takeAxisFrame
  dsimp only
  split
  · simp [State.senseFrame]
  · simp [supervise_attention, State.senseFrame]

theorem takeRaised_attention (i : Fin 4) (s : State) : (takeRaised i s).attention = s.attention := by
  unfold takeRaised
  dsimp only
  split <;> simp

theorem takeChain_attention (closed : Bool) (s : State) : (takeChain closed s).attention = s.attention := by
  unfold takeChain
  dsimp only
  split <;> simp

theorem expireAxisLine_attention (s : State) : (expireAxisLine s).attention = s.attention := by
  unfold expireAxisLine
  split <;> simp

theorem takeDetection_attention (s : State) : (takeDetection s).attention = s.attention := by
  unfold takeDetection
  repeat' split
  all_goals rfl

theorem expireTraverse_attention (i : Fin 4) (s : State) : (expireTraverse i s).attention = s.attention := by
  unfold expireTraverse
  split <;> simp

theorem expireTilt_attention (i : Fin 4) (s : State) : (expireTilt i s).attention = s.attention := by
  unfold expireTilt
  split <;> simp

theorem expirePenetration_attention (i : Fin 4) (s : State) : (expirePenetration i s).attention = s.attention := by
  unfold expirePenetration
  split <;> rfl

theorem expireSqueeze_attention (i : Fin 4) (s : State) : (expireSqueeze i s).attention = s.attention := by
  unfold expireSqueeze
  split <;> rfl

/-- An expiry runs the timer on: RUNNING lapses once, and a second lapse raises its stop (09 R163, R164). -/
theorem expireAttention_sameArming (s : State) : s.SameArming (expireAttention s) := by
  unfold expireAttention
  split
  · exact .rfl
  · next h => exact iff_of_false nofun (by simp [h])
  · exact .of_eq (by simp)

end Arming

/-! ## Every command and every step -/

theorem exec_follows {c : Instr} {s t : State} (h : exec c s = .next t) (hl : s.timerFollows) : t.timerFollows := by
  cases c with
  | loadRecords tag page first records =>
    simp only [exec, execLoadRecords] at h
    split at h
    · cases h; exact request_follows _ hl
    · cases h
  | frameReceived bytes => cases h; exact bytes_follow bytes s hl
  | gapLimitExpiry => cases h; exact event_follows hl (.of_eq (expireGap_turned s).attention)
  | frameSent => cases h; exact frameSent_follows hl
  | powerOnReset => cases h; exact iff_of_true rfl rfl
  | measuringFrame bytes intact => cases h; exact event_follows hl (.of_eq (by simp))
  | silenceLimitExpiry => cases h; exact event_follows hl (.of_eq (by simp))
  | axisFrame frame => cases h; exact event_follows hl (.of_eq (takeAxisFrame_attention frame s))
  | axisLineSilenceExpiry => cases h; exact event_follows hl (.of_eq (expireAxisLine_attention s))
  | safetyChainChange closed => cases h; exact levelEvent_follows hl (.of_eq (takeChain_attention closed s))
  | operatorInputActive input => cases h; exact event_follows hl (activityFrom_sameArming _ s)
  | odometerCount forward => cases h; exact event_follows hl (.of_eq rfl)
  | detection => cases h; exact event_follows hl (.of_eq (takeDetection_attention s))
  | halted => cases h; exact event_follows hl (.of_eq (by simp))
  | indexTimerExpiry => cases h; exact event_follows hl (.of_eq (by simp))
  | clampSensorReport clamp closed => cases h; exact levelEvent_follows hl (.of_eq (by simp))
  | clampTimerExpiry => cases h; exact event_follows hl (.of_eq (by simp))
  | correctionTimerExpiry => cases h; exact event_follows hl (.of_eq (by simp))
  | tiltSensorReport head arm report => cases h; exact levelEvent_follows hl (.of_eq (by simp [takeTilt]))
  | headRaisedSensorReport head raised =>
    cases h; exact levelEvent_follows hl (.of_eq (takeRaised_attention head _))
  | traverseTimerExpiry head => cases h; exact event_follows hl (.of_eq (expireTraverse_attention head s))
  | tiltTimerExpiry head => cases h; exact event_follows hl (.of_eq (expireTilt_attention head s))
  | penetrationTimerExpiry head => cases h; exact event_follows hl (.of_eq (expirePenetration_attention head s))
  | squeezeTimerExpiry head => cases h; exact event_follows hl (.of_eq (expireSqueeze_attention head s))
  | attentionTimerExpiry => cases h; exact event_follows hl (expireAttention_sameArming s)
  | receivedByte byte => cases h; exact event_follows hl (.of_eq (takeByte_turned byte s).attention)
  | resetLineLow => cases h; exact hl
  | _ => cases h; exact request_follows _ hl

/-- Settles O55: a command that runs neither arms nor disarms the timer, the end of its event does where the sequencer
passes into or out of a state in which it runs, and both resets leave it DISARMED in IDLE. -/
theorem stepKeepsAttentionLaw : Obligations.StepKeepsAttentionLaw := by
  intro s t h hl
  unfold step at h
  split at h
  · cases h
    unfold idle
    split
    · exact hl
    · exact executeOldest_follows hl
  · exact exec_follows h hl

end Sys2Proof.Machine
end

section
/-! PROOFS. CLEAR_STOP (06 R119, 09 R160): refused while a cause stands, else the latch cleared and FAULT_STOP left. -/

namespace Sys2Proof.Machine

section ClearStop

variable {s : State} {r : Request}

/-- The stop latch, its further causes, the counts and the fault latches of the axes cleared (09 R160). -/
def State.stopCleared (s : State) : State := { s with
  stop := { s.stop with first := none, further := 0 }
  supervisor := { s.supervisor with count := .all16 0, latches := 0 } }

/-- FAULT_STOP left for HOLD(STOP_CLEARED) (06 R119). -/
def State.stopLeft (s : State) : State := { s.stopCleared with
  seq := { s.seq with state := .hold, hold := some .stopCleared }
  latches := s.latches ||| 0x01 }

/-- No cause of a stop stands: the safety chain is closed and the axis line not silent. -/
def State.noCauseStands (s : State) : Prop := s.inputs.chainClosed = true ∧ s.stop.silent = false

theorem clearStop_refused (h : s.inputs.chainClosed = false ∨ s.stop.silent = true) :
    clearStop s = (s, .plain .wrongState) := by
  unfold clearStop
  split
  · rfl
  · next hc => exact if_pos (h.resolve_left hc)

theorem clearStop_of_noCause (h : s.noCauseStands) : clearStop s =
    if s.stopLatched then
      (if s.seq.state = .faultStop then enterHold .stopCleared s.stopCleared else s.stopCleared, .plain .ok)
    else (s, .plain .ok) := by
  obtain ⟨hc, hs⟩ := h
  rw [clearStop, if_neg (by simp [hc]), if_neg (by simp [hs])]
  rfl

theorem clearStop_unlatched (h : s.noCauseStands) (hf : s.stop.first = none) : clearStop s = (s, .plain .ok) := by
  rw [clearStop_of_noCause h]
  exact if_neg (by simp [State.stopLatched, hf])

theorem clearStop_latched (h : s.noCauseStands) (hf : s.stop.first ≠ none) (hq : s.seq.state ≠ .faultStop) :
    clearStop s = (s.stopCleared, .plain .ok) := by
  have hl : s.stopLatched = true := Option.isSome_iff_ne_none.mpr hf
  rw [clearStop_of_noCause h, if_pos hl, if_neg hq]

theorem clearStop_leaves (h : s.noCauseStands) (hf : s.stop.first ≠ none) (hq : s.seq.state = .faultStop) :
    clearStop s = (s.stopLeft, .plain .ok) := by
  have hl : s.stopLatched = true := Option.isSome_iff_ne_none.mpr hf
  rw [clearStop_of_noCause h, if_pos hl, if_pos hq]
  rfl

/-- A request that takes the sequencer to a state with attention: the timer runs when the activity comes. -/
theorem moved_arms {g : State} {y : Reply} (hb : s.seq.state.attentive = false)
    (hg : g.seq.state.attentive = true) : s.moved r y g = g.loadAttention.answered r y := by
  rw [State.moved, followAttention_arms hb (by simpa [State.replied] using hg)]
  rfl

end ClearStop

/-- Settles O30: CLEAR_STOP by what stands and by the state of the sequencer; only leaving FAULT_STOP arms the timer. -/
theorem clearStopReleasesLatch : Obligations.ClearStopReleasesLatch := by
  intro s tag h r x
  refine ⟨fun hc => ?_, fun hc hs hf => ?_, fun hc hs hf hq => ?_, fun hc hs hf hq => ⟨_, rfl, ?_⟩⟩
  · exact congrArg _ (unchanged_request_answered (r := r) h nofun (clearStop_refused (s := s.queued r) hc))
  · exact congrArg _ (unchanged_request_answered (r := r) h nofun (clearStop_unlatched (s := s.queued r) ⟨hc, hs⟩ hf))
  · exact congrArg _ (request_answered (g := s.stopCleared) (r := r) h nofun
      (clearStop_latched (s := s.queued r) ⟨hc, hs⟩ hf hq) rfl rfl rfl rfl)
  · have hreport := request_reportOf (g := s.stopLeft) h (r := r) nofun
      (clearStop_leaves (s := s.queued r) ⟨hc, hs⟩ hf hq) rfl
    rw [moved_arms (by rw [hq]; rfl) rfl] at hreport
    exact hreport

end Sys2Proof.Machine
end

section
/-! PROOFS. A stop raised (06 R118, 09 R158): the first cause and a further one, and the entry to FAULT_STOP block by
block. -/

namespace Sys2Proof.Machine

section Raised

variable {s t : State} {c cause : StopCause}

/-! ## A stop by what is latched (09 R158) -/

/-- The latch set with its first cause, and its event latch (09 R158, 10 R171). -/
def State.firstStop (s : State) (cause : StopCause) : State := { s with
  stop := { s.stop with first := some cause, further := 0 }
  latches := s.latches ||| 0x02 }

theorem raiseStop_further (h : s.stop.first = some c) :
    raiseStop cause s = s.setStop { s.stop with further := s.stop.further ||| cause.mask } := by
  simp [raiseStop, h]

theorem raiseStop_first (h : s.stop.first = none) : raiseStop cause s =
    if s.seq.state.isRun then enterFaultStop (s.firstStop cause) else s.firstStop cause := by
  rw [raiseStop, h]
  rfl

/-! ## The entry to FAULT_STOP (06 R118) -/

/-- The heads gone out under a cancelled demand (03 R63, 07 R135). -/
def State.goneOut (s : State) : State := (s.modChainage ChainageUnit.cancelTravel).headsGoOut

theorem enterFaultStop_eq (s : State) : enterFaultStop s = enterState .faultStop
    ((endMeasuring ((recordSleeper .aborted s.goneOut).modLining LiningUnit.freeze)).modSeq
      fun q => { q with resumeAction := resumeAtStop s.seq }) := rfl

theorem goneOut_context (s : State) : s.goneOut.seq.context = s.seq.context := by simp [State.goneOut]

theorem enterFaultStop_heads (s : State) : (enterFaultStop s).heads = s.goneOut.heads := by simp [enterFaultStop_eq]

theorem enterFaultStop_seq (s : State) : (enterFaultStop s).seq = { s.seq with
    state := .faultStop, hold := none, context := none
    reservation := if s.seq.context.isSome then 0 else s.seq.reservation
    retained := (s.seq.context.map Context.record).or s.seq.retained
    resumeAction := resumeAtStop s.seq } := by
  have hseq : s.goneOut.seq = s.seq := by simp [State.goneOut]
  have hrecord : (recordSleeper .aborted s.goneOut).seq = { s.seq with
      context := none
      reservation := if s.seq.context.isSome then 0 else s.seq.reservation
      retained := (s.seq.context.map Context.record).or s.seq.retained } := by
    cases hc : s.seq.context with
    | none =>
      have hsame : s.seq = { s.seq with context := none } := by rw [← hc]
      rw [recordSleeper_none ((goneOut_context s).trans hc), hseq]
      exact hsame
    | some c => rw [(recordSleeper_of_context ((goneOut_context s).trans hc) .aborted).1, hseq]; rfl
  simp [enterFaultStop_eq, enterState, State.modSeq, hrecord]

theorem enterFaultStop_results (s : State) : (enterFaultStop s).results = s.results ++
    (s.seq.context.map fun c => formResult c (enterFaultStop s).heads .aborted).toList := by
  have hkeeps : s.goneOut.results = s.results := by simp [State.goneOut]
  rw [enterFaultStop_heads]
  cases hc : s.seq.context with
  | none => simp [enterFaultStop_eq, recordSleeper_none ((goneOut_context s).trans hc), hkeeps]
  | some c =>
    simp [enterFaultStop_eq, (recordSleeper_of_context ((goneOut_context s).trans hc) .aborted).2.1, hkeeps]

theorem enterFaultStop_chainage (s : State) : (enterFaultStop s).chainage = s.chainage.cancelTravel := by
  simp [enterFaultStop]

theorem enterFaultStop_computer (s : State) : (enterFaultStop s).computer = s.computer := by
  simp [enterFaultStop, recordSleeper_aborted_computer]

theorem enterFaultStop_measuring (s : State) : (enterFaultStop s).measuring = .noWindow := by
  simp [enterFaultStop, endMeasuring]

/-- The unit frozen where it stands; a head that parks in going out is no longer awaited (08 R152). -/
theorem enterFaultStop_lining (s : State) : ∃ a : Quad Bool, (enterFaultStop s).lining = { s.lining with
    frozen := true, clampTimer := none, correctionTimer := none, clampPending := false
    releaseAfterHeads := false, awaited := a } := by
  obtain ⟨a, ha⟩ := (s.modChainage ChainageUnit.cancelTravel).stepHeads_lining fun e h => h.goOut e
  refine ⟨a, ?_⟩
  have hout : s.goneOut.lining = { s.lining with awaited := a } := ha
  simp [enterFaultStop_eq, hout, LiningUnit.freeze]

theorem cancelTravel_eq (u : ChainageUnit) : u.cancelTravel = { u with
    move := { u.move with
      state := if u.move.state = .firstMove ∨ u.move.state = .correctionMove then .cancelled else u.move.state
      timer := none }
    line := some .cancel } := by
  simp [ChainageUnit.cancelTravel, IndexMove.demandActive]

theorem resumeAtStop_readmit {q : Sequencer} (h : q.state = .indexing ∨ q.state = .measuring ∨ q.state = .correcting
    ∨ q.state = .tamping ∨ (q.state = .releasing ∧ q.context ≠ none)
    ∨ (q.state = .hold ∧ ∃ r ∈ [HoldReason.resultFull, .attentionLapse, .detectionLost, .measureLost,
        .confirmWait, .aborted, .positionFault], q.hold = some r)) : resumeAtStop q = some .readmit := by
  rcases h with h | h | h | h | ⟨h, hc⟩ | ⟨h, r, hr, hq⟩
  · simp [resumeAtStop, h]
  · simp [resumeAtStop, h]
  · simp [resumeAtStop, h]
  · simp [resumeAtStop, h]
  · simp [resumeAtStop, h, Option.isSome_iff_ne_none, hc]
  · rw [resumeAtStop, h, hq]
    fin_cases hr <;> rfl

/-- The entry to FAULT_STOP, every block of it. -/
theorem enterFaultStop_entered (s : State) : FaultStopEntered s (enterFaultStop s) := by
  have hresults := enterFaultStop_results s
  have haction : (enterFaultStop s).seq.resumeAction = resumeAtStop s.seq := by rw [enterFaultStop_seq]
  refine ⟨?_, fun h => haction.trans (resumeAtStop_readmit h), fun h hc => ?_, fun h => ?_, fun h hr => ?_,
    fun hc => ?_, fun c hc => ?_, ?_, fun i => ?_, enterFaultStop_lining s, enterFaultStop_measuring s, by simp,
    enterFaultStop_computer s, by simp, by simp, by simp, by simp, by simp⟩
  · rw [haction, enterFaultStop_seq]
  · rw [haction, resumeAtStop, h, hc]; rfl
  · rw [haction]
    rcases h with h | ⟨h, hr⟩
    · rw [resumeAtStop, h]
    · rw [resumeAtStop, h, hr]
  · rw [haction]
    rcases hr with hr | hr <;> rw [resumeAtStop, h, hr]
  · simpa [hc] using hresults
  · simpa [hc] using hresults
  · rw [enterFaultStop_chainage, cancelTravel_eq]
  · rw [enterFaultStop_heads, State.goneOut, State.headsGoOut_get]
    exact goOut_goesOut ..

/-- The link, the timer, the latches and the counters are no part of it. -/
theorem faultStopEntered_of_sameWork {u : State} (h : FaultStopEntered s t) (hu : t.SameWork u) :
    FaultStopEntered s u :=
  hu.keeps (Law := FaultStopEntered s) fun _ _ _ _ _ => h

/-- Nor is what latched the stop. -/
theorem faultStopEntered_of_firstStop (h : FaultStopEntered (s.firstStop cause) t) : FaultStopEntered s t := h

/-- A latch that is set stays set at a recording. -/
theorem recordSleeper_latch (o : SleeperOutcome) {n : Nat} (h : s.latches.getLsbD n = true) :
    (recordSleeper o s).latches.getLsbD n = true := by
  cases hc : s.seq.context with
  | none => rwa [recordSleeper_none hc]
  | some c => rw [recordSleeper_latches hc, BitVec.getLsbD_or, BitVec.getLsbD_or, h]; rfl

theorem enterFaultStop_latch {n : Nat} (h : s.latches.getLsbD n = true) :
    (enterFaultStop s).latches.getLsbD n = true := by
  have hout : s.goneOut.latches.getLsbD n = true := by simpa [State.goneOut] using h
  simpa [enterFaultStop_eq] using recordSleeper_latch .aborted hout

theorem firstStop_latch (s : State) (cause : StopCause) : (s.firstStop cause).latches.getLsbD 1 = true := by
  have hbit : (0x02 : Byte).getLsbD 1 = true := by decide
  rw [State.firstStop, BitVec.getLsbD_or, hbit, Bool.or_true]

/-! ## The three events that raise a stop of their own (09 R156, R157, R164) -/

/-- `x` is `s` but for the watch of the axis line and the input lines. -/
def State.Watched (s x : State) : Prop :=
  x = { s with inputs := x.inputs, stop := { s.stop with silent := x.stop.silent } }

/-- The command `cmd` raises the stop of `cause` in the state `x` of its event. -/
def StopCommand (s x : State) (cmd : Instr) (cause : StopCause) : Prop :=
  ∃ f : State → State, exec cmd s = .next (event f s) ∧ f s = raiseStop cause x ∧ s.Watched x

theorem axisLine_raises (h : s.stop.silent = false) :
    StopCommand s (s.setStop { s.stop with silent := true }) .axisLineSilenceExpiry .axisLine :=
  ⟨expireAxisLine, rfl, if_neg (by simp [h]), rfl⟩

theorem chain_raises (hlow : s.resetLow = false) (h : s.inputs.chainClosed = true) :
    StopCommand s (s.setInputs { s.inputs with chainClosed := false }) (.safetyChainChange false) .safetyChain :=
  ⟨takeChain false, congrArg _ (levelEvent_eq hlow), if_pos ⟨h, rfl⟩, rfl⟩

theorem lapse_raises (h : s.attention.state = .lapsedOnce) : StopCommand s s .attentionTimerExpiry .attention :=
  ⟨expireAttention, rfl, by rw [expireAttention, h], rfl⟩

variable {x : State} {cmd : Instr}

theorem StopCommand.watched (h : StopCommand s x cmd cause) : s.Watched x :=
  let ⟨_, _, _, hx⟩ := h
  hx

/-- A further cause joins the mask. -/
theorem StopCommand.joins (h : StopCommand s x cmd cause) (hlow : s.resetLow = false) (hf : s.stop.first = some c) :
    exec cmd s = .next (x.setStop { x.stop with further := s.stop.further ||| cause.mask }) := by
  obtain ⟨f, hexec, hraise, hx⟩ := h
  rw [State.Watched] at hx
  have hfirst : x.stop.first = some c := by rw [hx, ← hf]
  have hfurther : x.stop.further = s.stop.further := by rw [hx]
  rw [raiseStop_further hfirst, hfurther] at hraise
  rw [hexec, event_eq_of_quiet hlow hraise (by rw [hx]; rfl) (by rw [hx]; rfl) (by rw [hx]; rfl)]

/-- A first stop outside a run is latched, and moves nothing. -/
theorem StopCommand.latches (h : StopCommand s x cmd cause) (hlow : s.resetLow = false) (hf : s.stop.first = none)
    (hq : s.seq.state.isRun = false) : ∃ t, exec cmd s = .next t ∧ t.reportOf (x.firstStop cause) := by
  obtain ⟨f, hexec, hraise, hx⟩ := h
  rw [State.Watched] at hx
  have hfirst : x.stop.first = none := by rw [hx, ← hf]
  have hseq : x.seq = s.seq := by rw [hx]
  rw [raiseStop_first hfirst, hseq, hq, if_neg Bool.false_ne_true] at hraise
  refine ⟨_, hexec, ?_⟩
  rw [← hraise]
  exact event_reportOf_same hlow (by rw [hraise, ← hseq]; rfl)

/-- A first stop in a run enters FAULT_STOP, up to the attention timer and the reports of the event. -/
theorem StopCommand.enters (h : StopCommand s x cmd cause) (hlow : s.resetLow = false) (hf : s.stop.first = none)
    (hq : s.seq.state.isRun = true) : ∃ t, exec cmd s = .next t
      ∧ t.reportOf (followAttention s (enterFaultStop (x.firstStop cause))) := by
  obtain ⟨f, hexec, hraise, hx⟩ := h
  rw [State.Watched] at hx
  have hfirst : x.stop.first = none := by rw [hx, ← hf]
  have hseq : x.seq = s.seq := by rw [hx]
  rw [raiseStop_first hfirst, hseq, hq, if_pos rfl] at hraise
  exact ⟨_, hexec, hraise ▸ event_reportOf hlow⟩

end Raised

/-- Settles O48: the three commands raise their stop alike; what the latch and the run make of it follows. -/
theorem stopEntersFaultStop : Obligations.StopEntersFaultStop := by
  intro s x cmd cause hlow hcmd
  have h : StopCommand s x cmd cause := by
    rcases hcmd with ⟨rfl, rfl, hs, rfl⟩ | ⟨rfl, rfl, hc, rfl⟩ | ⟨rfl, rfl, ha, rfl⟩
    · exact axisLine_raises hs
    · exact chain_raises hlow hc
    · exact lapse_raises ha
  have hx := h.watched
  rw [State.Watched] at hx
  refine ⟨fun c hf => ⟨_, h.joins hlow hf, rfl⟩, fun hf hq => ?_, fun hf hq => ?_⟩
  · obtain ⟨t, ht, hreport⟩ := h.latches hlow hf hq
    have hlatches : x.latches = s.latches := by rw [hx]
    exact ⟨t, ht, hlatches ▸ hreport⟩
  · obtain ⟨t, ht, hreport⟩ := h.enters hlow hf hq
    have hsame : (enterFaultStop (x.firstStop cause)).SameWork t :=
      (followAttention_sameWork s _).trans hreport.sameWork
    obtain ⟨-, -, -, -, -, -, -, -, -, -, -, -, -, -, hsupervisor, hstop, hattention, -, hlatches⟩ :=
      State.reportOf_keeps hreport
    refine ⟨t, ht, ?_, ?_, ?_, fun ha => ?_, ?_⟩
    · rw [hstop]
      simp [State.firstStop]
    · have hkept : (followAttention s (enterFaultStop (x.firstStop cause))).latches
          = (enterFaultStop (x.firstStop cause)).latches := by simp
      rw [hlatches, hkept]
      exact enterFaultStop_latch (firstStop_latch x cause)
    · exact faultStopEntered_of_sameWork (faultStopEntered_of_firstStop (enterFaultStop_entered _)) hsame
    · rw [hattention, followAttention_disarms ha (by rw [enterFaultStop_seq]; rfl)]
      rfl
    · rw [hsupervisor, hx]
      simp [State.firstStop]

end Sys2Proof.Machine
end

section
/-! PROOFS. The check of an axis frame (09 R153 to R155, R158): the axes that trip, in axis order, and what each does to
the latch, the counter and the stop. -/

namespace Sys2Proof.Machine

/-! ## The sixteen axes (09 R153) -/

theorem Axis.all_number (a : Axis) : Axis.all[a.number]? = some a := by
  cases a with
  | headV h => fin_cases h <;> rfl
  | sqz h => fin_cases h <;> rfl
  | trav h => fin_cases h <;> rfl
  | track t => cases t <;> rfl

theorem Axis.number_injective {a b : Axis} (h : a.number = b.number) : a = b :=
  Option.some.inj (by rw [← a.all_number, ← b.all_number, h])

theorem Axis.mem_all (a : Axis) : a ∈ Axis.all := List.mem_of_getElem? a.all_number

theorem Axis.number_lt (a : Axis) : a.number < 16 := (List.getElem?_eq_some_iff.mp a.all_number).1

theorem Axis.all_ascending : Axis.all.Pairwise fun a b => a.number < b.number := by decide

theorem Axis.all_nodup : Axis.all.Nodup := Axis.all_ascending.imp fun h hab => (hab ▸ h).false

theorem axesGet_axesOf {α : Type} (f : Axis → α) (a : Axis) : axesGet (axesOf f) a = f a := by
  cases a with
  | headV h => exact Quad.get_ofFn ..
  | sqz h => exact Quad.get_ofFn ..
  | trav h => exact Quad.get_ofFn ..
  | track t => cases t <;> rfl

theorem Axis.bit_eq (a : Axis) : a.bit = BitVec.twoPow 16 a.number := rfl

/-- The latch of one axis is its own bit. -/
theorem getLsbD_bit (a b : Axis) : a.bit.getLsbD b.number = true ↔ b = a := by
  rw [Axis.bit_eq, BitVec.getLsbD_twoPow, Bool.and_eq_true, decide_eq_true_iff, decide_eq_true_iff]
  exact ⟨fun h => Axis.number_injective h.2.symm, fun h => ⟨a.number_lt, by rw [h]⟩⟩

theorem and_bit_eq_zero (v : BitVec 16) (a : Axis) : v &&& a.bit = 0 ↔ v.getLsbD a.number = false := by
  constructor
  · intro h
    have hand := congrArg (BitVec.getLsbD · a.number) h
    simpa [(getLsbD_bit a a).mpr rfl] using hand
  · intro h
    rw [Axis.bit_eq, BitVec.and_twoPow, h]
    rfl

/-- Latches set one after the other. -/
theorem latched_bits (l : List Axis) (v : BitVec 16) (b : Axis) :
    (l.foldl (fun w a => w ||| a.bit) v).getLsbD b.number = true ↔ v.getLsbD b.number = true ∨ b ∈ l := by
  induction l generalizing v with
  | nil => simp
  | cons a l ih => rw [List.foldl_cons, ih, BitVec.getLsbD_or, Bool.or_eq_true, getLsbD_bit, List.mem_cons, or_assoc]

section Trips

variable {s t : State}

/-! ## The axes that trip (09 R155) -/

/-- The axis stands at FOLLOW_COUNT with its fault latch clear (09 R155). -/
def State.trips (s : State) (a : Axis) : Bool :=
  decide (s.params.followCount ≤ axesGet s.supervisor.count a ∧ s.supervisor.latches &&& a.bit = 0)

theorem State.trips_iff (s : State) (a : Axis) : s.trips a = true ↔
    s.params.followCount ≤ axesGet s.supervisor.count a ∧ s.supervisor.latches.getLsbD a.number = false := by
  rw [State.trips, decide_eq_true_iff, and_bit_eq_zero]

/-- The fault latch set and the following fault counted (09 R155). -/
def State.latchAxis (s : State) (a : Axis) : State :=
  (s.setSupervisor { s.supervisor with latches := s.supervisor.latches ||| a.bit }).bump .followingFaults

/-- An axis latched, counted and stopped (09 R155). -/
def tripAxis (s : State) (a : Axis) : State := raiseStop (.following a) (s.latchAxis a)

theorem testAxis_eq (s : State) (a : Axis) : testAxis s a = if s.trips a then tripAxis s a else s := by
  unfold testAxis State.trips
  simp only [decide_eq_true_iff]
  rfl

theorem tripAxis_supervisor (s : State) (a : Axis) :
    (tripAxis s a).supervisor = { s.supervisor with latches := s.supervisor.latches ||| a.bit } := by
  simp [tripAxis, State.latchAxis]

theorem tripAxis_keeps (s : State) (a : Axis) :
    (tripAxis s a).pending = s.pending ∧ (tripAxis s a).inputs = s.inputs ∧ (tripAxis s a).awaitFrame = s.awaitFrame
      ∧ (tripAxis s a).params = s.params ∧ (tripAxis s a).rules = s.rules := by
  simp [tripAxis, State.latchAxis]

/-- One axis that trips leaves the others as they were. -/
theorem tripAxis_trips {a b : Axis} (h : b ≠ a) : (tripAxis s a).trips b = s.trips b := by
  obtain ⟨-, -, -, hparams, -⟩ := tripAxis_keeps s a
  have hbit : (s.supervisor.latches ||| a.bit).getLsbD b.number = s.supervisor.latches.getLsbD b.number := by
    rw [BitVec.getLsbD_or, Bool.eq_false_iff.mpr (mt (getLsbD_bit a b).mp h), Bool.or_false]
  rw [Bool.eq_iff_iff, State.trips_iff, State.trips_iff, hparams, tripAxis_supervisor, hbit]

/-- The check of a list of axes is the trips of those of them that trip. -/
theorem foldl_testAxis {l : List Axis} (hl : l.Nodup) (s : State) :
    l.foldl testAxis s = (l.filter s.trips).foldl tripAxis s := by
  induction l generalizing s with
  | nil => rfl
  | cons a l ih =>
    obtain ⟨ha, hnodup⟩ := List.nodup_cons.mp hl
    rw [List.foldl_cons, testAxis_eq]
    cases ht : s.trips a with
    | false => rw [List.filter_cons_of_neg (by simp [ht]), if_neg Bool.false_ne_true, ih hnodup]
    | true =>
      have hothers : l.filter (tripAxis s a).trips = l.filter s.trips :=
        List.filter_congr fun b hb => tripAxis_trips fun hba => ha (hba ▸ hb)
      rw [List.filter_cons_of_pos ht, if_pos rfl, ih hnodup, hothers, List.foldl_cons]

/-- The axes that trip, in axis order. -/
def State.tripped (s : State) : List Axis := Axis.all.filter s.trips

theorem State.mem_tripped (s : State) (a : Axis) : a ∈ s.tripped ↔ s.trips a = true := by
  simp [State.tripped, Axis.mem_all]

theorem State.tripped_nodup (s : State) : s.tripped.Nodup :=
  Axis.all_nodup.sublist List.filter_sublist

theorem State.tripped_eq_nil (h : ∀ a, ¬s.trips a = true) : s.tripped = [] :=
  List.eq_nil_iff_forall_not_mem.mpr fun a ha => h a ((s.mem_tripped a).mp ha)

/-- The axis of lowest number that trips is the first of the list. -/
theorem State.tripped_first {a : Axis} (ha : s.trips a = true)
    (hfirst : ∀ b, b.number < a.number → ¬s.trips b = true) :
    ∃ rest, s.tripped = a :: rest ∧ ∀ b, b ∈ rest ↔ s.trips b = true ∧ b ≠ a := by
  have hmem := (s.mem_tripped a).mpr ha
  have hsorted : s.tripped.Pairwise fun a b => a.number < b.number := Axis.all_ascending.sublist List.filter_sublist
  have hnodup := s.tripped_nodup
  cases hl : s.tripped with
  | nil => rw [hl] at hmem; cases hmem
  | cons c rest =>
    rw [hl] at hmem hsorted hnodup
    have hca : a = c := by
      rcases List.mem_cons.mp hmem with hac | hac
      · exact hac
      · exact absurd ((s.mem_tripped c).mp (by rw [hl]; exact List.mem_cons_self))
          (hfirst c (List.rel_of_pairwise_cons hsorted hac))
    subst hca
    refine ⟨rest, rfl, fun b => ?_⟩
    rw [← s.mem_tripped, hl, List.mem_cons]
    have hout : a ∉ rest := (List.nodup_cons.mp hnodup).1
    exact ⟨fun hb => ⟨.inr hb, fun hba => hout (hba ▸ hb)⟩, fun ⟨hb, hba⟩ => hb.resolve_left hba⟩

/-! ## What the trips of a list of axes do -/

theorem trips_supervisor (l : List Axis) (s : State) : (l.foldl tripAxis s).supervisor =
    { s.supervisor with latches := l.foldl (fun w a => w ||| a.bit) s.supervisor.latches } := by
  induction l generalizing s with
  | nil => rfl
  | cons a l ih => rw [List.foldl_cons, ih, tripAxis_supervisor, List.foldl_cons]

theorem trips_keeps (l : List Axis) (s : State) :
    (l.foldl tripAxis s).pending = s.pending ∧ (l.foldl tripAxis s).inputs = s.inputs
      ∧ (l.foldl tripAxis s).awaitFrame = s.awaitFrame ∧ (l.foldl tripAxis s).params = s.params
      ∧ (l.foldl tripAxis s).rules = s.rules := by
  induction l generalizing s with
  | nil => exact ⟨rfl, rfl, rfl, rfl, rfl⟩
  | cons a l ih =>
    obtain ⟨hpending, hinputs, hawait, hparams, hrules⟩ := tripAxis_keeps s a
    obtain ⟨ihpending, ihinputs, ihawait, ihparams, ihrules⟩ := ih (tripAxis s a)
    exact ⟨ihpending.trans hpending, ihinputs.trans hinputs, ihawait.trans hawait, ihparams.trans hparams,
      ihrules.trans hrules⟩

/-- A stop leaves the carry and the watch of the axis line, and no following fault is counted at it. -/
theorem raiseStop_leaves (cause : StopCause) (s : State) :
    (raiseStop cause s).computer = s.computer ∧ (raiseStop cause s).stop.silent = s.stop.silent
      ∧ (raiseStop cause s).counters.get .followingFaults = s.counters.get .followingFaults := by
  have hcounter : ∀ x : State, (recordSleeper .aborted x).counters.get .followingFaults
      = x.counters.get .followingFaults := fun x => by
    cases hc : x.seq.context with
    | none => rw [recordSleeper_none hc]
    | some c => rw [recordSleeper_counter hc]; exact if_neg (by simp [SleeperOutcome.counter])
  cases hf : s.stop.first with
  | some c => rw [raiseStop_further hf]; exact ⟨rfl, rfl, rfl⟩
  | none =>
    rw [raiseStop_first hf]
    split
    · refine ⟨enterFaultStop_computer _, by simp [State.firstStop], ?_⟩
      have hentered : (enterFaultStop (s.firstStop cause)).counters
          = (recordSleeper .aborted (s.firstStop cause).goneOut).counters := by simp [enterFaultStop_eq]
      rw [hentered, hcounter]
      simp [State.goneOut, State.firstStop]
    · exact ⟨rfl, rfl, rfl⟩

theorem trips_leaves (l : List Axis) (s : State) :
    (l.foldl tripAxis s).computer = s.computer ∧ (l.foldl tripAxis s).stop.silent = s.stop.silent := by
  induction l generalizing s with
  | nil => exact ⟨rfl, rfl⟩
  | cons a l ih =>
    obtain ⟨hcomputer, hsilent, -⟩ := raiseStop_leaves (.following a) (s.latchAxis a)
    exact ⟨(ih _).1.trans hcomputer, (ih _).2.trans hsilent⟩

/-- Every axis that trips counts one following fault. -/
theorem trips_counted (l : List Axis) (s : State) (h : s.counters.get .followingFaults ≤ 65535) :
    (l.foldl tripAxis s).counters.get .followingFaults
      = min 65535 (s.counters.get .followingFaults + l.length) := by
  induction l generalizing s with
  | nil => exact (min_eq_right h).symm
  | cons a l ih =>
    obtain ⟨-, -, hcounter⟩ := raiseStop_leaves (.following a) (s.latchAxis a)
    have hbump : (s.latchAxis a).counters.get .followingFaults = min 65535 (s.counters.get .followingFaults + 1) :=
      Counters.get_bump_self s.counters .followingFaults
    have htrip : (tripAxis s a).counters.get .followingFaults = min 65535 (s.counters.get .followingFaults + 1) :=
      hcounter.trans hbump
    rw [List.foldl_cons, ih _ (by omega), htrip, List.length_cons]
    omega

/-! ## The stop latch and the run (06 R118, 09 R158) -/

/-- `t` differs from `s` at most in the fault latches, the counters, the stop latch and the event latches. -/
def State.SameBesidesStop (s t : State) : Prop := t = { s with
  supervisor := { s.supervisor with latches := t.supervisor.latches }
  counters := t.counters, stop := t.stop, latches := t.latches }

theorem State.SameBesidesStop.trans {u : State} (h : s.SameBesidesStop t) (g : t.SameBesidesStop u) :
    s.SameBesidesStop u := by
  rw [State.SameBesidesStop] at h g
  rw [h] at g
  exact g

/-- With a stop latched every axis that trips only joins the further causes. -/
theorem trips_join (l : List Axis) {s : State} {c : StopCause} (h : s.stop.first = some c) :
    s.SameBesidesStop (l.foldl tripAxis s) ∧ (l.foldl tripAxis s).latches = s.latches
      ∧ (l.foldl tripAxis s).stop = { s.stop with
          further := if l = [] then s.stop.further else s.stop.further ||| 1 } := by
  induction l generalizing s with
  | nil => exact ⟨rfl, rfl, rfl⟩
  | cons a l ih =>
    have hjoin : tripAxis s a = (s.latchAxis a).setStop { s.stop with further := s.stop.further ||| 1 } :=
      raiseStop_further (s := s.latchAxis a) h
    obtain ⟨hsame, hlatches, hstop⟩ := ih (s := tripAxis s a) (by rw [hjoin]; exact h)
    have hone : s.SameBesidesStop (tripAxis s a) := by rw [hjoin]; rfl
    refine ⟨hone.trans hsame, hlatches.trans (by rw [hjoin]; rfl), hstop.trans ?_⟩
    rw [hjoin, if_neg (List.cons_ne_nil a l)]
    simp only [State.setStop_stop, BitVec.or_assoc, BitVec.or_self, ite_self]

/-- The first axis that trips while no stop stands: the first cause, and in a run FAULT_STOP. -/
theorem tripAxis_first {a : Axis} (h : s.stop.first = none) : tripAxis s a =
    if s.seq.state.isRun then enterFaultStop ((s.latchAxis a).firstStop (.following a))
    else (s.latchAxis a).firstStop (.following a) :=
  raiseStop_first (s := s.latchAxis a) h

theorem tripAxis_first_stop {a : Axis} (h : s.stop.first = none) :
    (tripAxis s a).stop = { s.stop with first := some (.following a), further := 0 }
      ∧ (tripAxis s a).latches.getLsbD 1 = true := by
  have hlatch := firstStop_latch (s.latchAxis a) (.following a)
  rw [tripAxis_first h]
  split
  · exact ⟨by simp [State.firstStop, State.latchAxis], enterFaultStop_latch hlatch⟩
  · exact ⟨rfl, hlatch⟩

/-- No stop stands and an axis trips: its stop is the first cause, and any other axis joins it. -/
theorem trips_first {a : Axis} (l : List Axis) (h : s.stop.first = none) :
    (tripAxis s a).SameBesidesStop ((a :: l).foldl tripAxis s)
      ∧ ((a :: l).foldl tripAxis s).stop
        = { s.stop with first := some (.following a), further := if l = [] then 0 else 1 }
      ∧ ((a :: l).foldl tripAxis s).latches.getLsbD 1 = true := by
  obtain ⟨hstop, hlatch⟩ := tripAxis_first_stop (a := a) h
  obtain ⟨hsame, hlatches, hjoined⟩ := trips_join l (s := tripAxis s a) (by rw [hstop])
  refine ⟨hsame, hjoined.trans ?_, ?_⟩
  · simp [hstop]
  · rw [List.foldl_cons, hlatches]
    exact hlatch

/-- Outside a run, under a stop, or with no axis at its count, the trips move nothing. -/
theorem trips_stay (l : List Axis) (h : s.stop.first ≠ none ∨ s.seq.state.isRun = false ∨ l = []) :
    s.SameBesidesStop (l.foldl tripAxis s) := by
  cases l with
  | nil => exact rfl
  | cons a l =>
    cases hf : s.stop.first with
    | some c => exact (trips_join _ hf).1
    | none =>
      have hq : s.seq.state.isRun = false := (h.resolve_left (by simp [hf])).resolve_right nofun
      have hone : s.SameBesidesStop (tripAxis s a) := by
        rw [tripAxis_first hf, hq, if_neg Bool.false_ne_true]
        exact rfl
      exact hone.trans (trips_first l hf).1

theorem faultStopEntered_of_besides {u : State} (h : FaultStopEntered s t) (hu : t.SameBesidesStop u) :
    FaultStopEntered s u := by
  rw [State.SameBesidesStop] at hu
  rw [hu]
  exact h

/-- In a run the first trip enters FAULT_STOP, and the others leave the entry as it was. -/
theorem trips_enter {a : Axis} (l : List Axis) (h : s.stop.first = none) (hq : s.seq.state.isRun = true) :
    FaultStopEntered s ((a :: l).foldl tripAxis s) := by
  refine faultStopEntered_of_besides ?_ (trips_first l h).1
  rw [tripAxis_first h, if_pos hq]
  exact faultStopEntered_of_firstStop (s := s.latchAxis a) (enterFaultStop_entered _)

end Trips

end Sys2Proof.Machine
end

section
/-! PROOFS. An axis frame (09 R153 to R156, 07 R137, 08 R139): the first one after a reset, which gives every head its
state, and the check of every other. -/

namespace Sys2Proof.Machine

/-! ## The first frame at one head (07 R137) -/

section FirstFrame

variable {e : HeadEnv} {h : HeadRecord}

theorem firstFrame_parks (hc : e.closing ≤ e.tolSqueeze) (hr : e.raised = true) (hv : e.lowering ≤ e.tolHead) :
    h.firstFrame e = h.park e := by
  rw [HeadRecord.firstFrame, if_neg (by omega), if_neg (by simp [hr, hv])]

theorem firstFrame_atHead (ha : e.awaits = false) : FirstFrameAtHead e h (h.firstFrame e).1 := by
  refine ⟨fun hc => ?_, fun hc hv => ?_, fun hc hr hv hp => ?_, fun o hc hr hv hp ho => ?_⟩
  · rw [HeadRecord.firstFrame, if_pos hc]
    rfl
  · rw [HeadRecord.firstFrame, if_neg (by omega), if_pos hv]
    rfl
  · rw [firstFrame_parks hc hr hv]
    simp [HeadRecord.park_rests hp, ha, hr]
  · rw [firstFrame_parks hc hr hv, HeadRecord.park_prepares hp ho ha hr]
    exact ⟨rfl, rfl, rfl, rfl, rfl⟩

end FirstFrame

/-! ## The heads take the frame -/

/-- `t` differs from `s` at most in its heads and in which of them the unit awaits. -/
def State.HeadsMoved (s t : State) : Prop :=
  ∃ a : Quad Bool, t = { s with heads := t.heads, lining := { s.lining with awaited := a } }

section Heads

variable {s t u : State}

theorem State.HeadsMoved.trans (h : s.HeadsMoved t) (g : t.HeadsMoved u) : s.HeadsMoved u := by
  obtain ⟨a, ha⟩ := h
  obtain ⟨b, hb⟩ := g
  rw [ha] at hb
  exact ⟨b, hb⟩

theorem stepHead_moves (f : HeadEnv → HeadRecord → HeadStep) (i : Fin 4) (s : State) :
    s.HeadsMoved (s.stepHead f i) := by
  unfold State.stepHead State.reportParked
  split
  · exact ⟨_, rfl⟩
  · exact ⟨s.lining.awaited, rfl⟩

theorem stepHeads_move (f : HeadEnv → HeadRecord → HeadStep) (s : State) : s.HeadsMoved (s.stepHeads f) :=
  (((stepHead_moves f 0 _).trans (stepHead_moves f 1 _)).trans (stepHead_moves f 2 _)).trans (stepHead_moves f 3 _)

/-! ## The first frame after a reset -/

/-- The heads and the unit placed by the first frame after a reset (07 R137, 08 R139). -/
def State.firstSensed (f : AxisFrame) (s : State) : State :=
  (((s.senseFrame f).setAwaitFrame false).stepHeads fun e h => h.firstFrame e).modLining fun u =>
    { u with setpoint := f.sensed.track }

/-- The same once a demand is cancelled that a head out of PARKED does not allow (03 R47, log entry 11). -/
def State.firstFramed (f : AxisFrame) (s : State) : State := cancelUnparked (s.firstSensed f)

theorem takeAxisFrame_first (f : AxisFrame) (h : s.awaitFrame = true) :
    takeAxisFrame f s = settle (s.firstFramed f) := by
  rw [takeAxisFrame, if_pos h]
  rfl

theorem firstFramed_heads (f : AxisFrame) (s : State) : (s.firstFramed f).heads = (s.firstSensed f).heads := by
  simp [State.firstFramed]

theorem firstFramed_get (f : AxisFrame) (s : State) (i : Fin 4) : (s.firstFramed f).heads.get i =
    ((s.heads.get i).firstFrame (((s.senseFrame f).setAwaitFrame false).headEnv i)).1 := by
  rw [firstFramed_heads]
  exact State.stepHeads_get _ _ i

theorem firstFramed_chainage (f : AxisFrame) (s : State) : (s.firstFramed f).chainage =
    if s.chainage.move.demandActive = true ∧ ∃ i : Fin 4, ((s.firstFramed f).heads.get i).state ≠ .parked then
      { s.chainage with move := { s.chainage.move with state := .cancelled, timer := none }, line := some .cancel }
    else s.chainage := by
  have hsensed : (s.firstSensed f).chainage = s.chainage := by simp [State.firstSensed, State.senseFrame]
  rw [firstFramed_heads, State.firstFramed, cancelUnparked_eq, hsensed]
  split
  · rfl
  · exact hsensed

theorem firstFramed_eq (f : AxisFrame) (s : State) :
    ∃ a : Quad Bool, s.firstFramed f = { (s.senseFrame f).setAwaitFrame false with
      heads := (s.firstFramed f).heads, lining := { s.lining with setpoint := f.sensed.track, awaited := a }
      chainage := (s.firstFramed f).chainage } := by
  obtain ⟨a, ha⟩ := stepHeads_move (fun e h => h.firstFrame e) ((s.senseFrame f).setAwaitFrame false)
  refine ⟨a, ?_⟩
  unfold State.firstFramed
  rcases cancelUnparked_cases (s.firstSensed f) with h | ⟨-, -, h⟩
  · rw [h, State.firstSensed, ha]
    rfl
  · rw [h, State.firstSensed, ha]
    rfl

/-! ## The check of any other frame (09 R154, R155) -/

/-- The counts of a frame taken (09 R154). -/
def State.counted (f : AxisFrame) (s : State) : State :=
  s.setSupervisor { s.supervisor with count := s.countsAfter f }

theorem takeAxisFrame_next (f : AxisFrame) (h : s.awaitFrame = false) :
    takeAxisFrame f s = settle ((supervise f (s.senseFrame f)).stepHeads fun e k => k.onFrame e) := by
  rw [takeAxisFrame, if_neg (by simp [h])]

theorem countsAfter_get (s : State) (f : AxisFrame) (a : Axis) : axesGet (s.countsAfter f) a =
    if toleranceOf s.params a < |s.setpointOf a - axesGet f.sensed a| then min 20 (axesGet s.supervisor.count a + 1)
    else 0 := by
  rw [State.countsAfter, axesGet_axesOf, absInt_eq_abs, countAfter]
  simp only [decide_eq_true_iff]

theorem supervise_eq (f : AxisFrame) (s : State) :
    supervise f s = (s.counted f).tripped.foldl tripAxis (s.counted f) :=
  foldl_testAxis Axis.all_nodup _

theorem supervise_keeps (f : AxisFrame) (s : State) :
    (supervise f s).pending = s.pending ∧ (supervise f s).inputs = s.inputs
      ∧ (supervise f s).awaitFrame = s.awaitFrame ∧ (supervise f s).params = s.params
      ∧ (supervise f s).rules = s.rules ∧ (supervise f s).computer = s.computer
      ∧ (supervise f s).stop.silent = s.stop.silent := by
  obtain ⟨hpending, hinputs, hawait, hparams, hrules⟩ := trips_keeps (s.counted f).tripped (s.counted f)
  obtain ⟨hcomputer, hsilent⟩ := trips_leaves (s.counted f).tripped (s.counted f)
  rw [supervise_eq]
  exact ⟨hpending, hinputs, hawait, hparams, hrules, hcomputer, hsilent⟩

/-- The axes that trip latch, and no other latch changes (09 R155). -/
theorem supervise_supervisor (f : AxisFrame) (s : State) : (supervise f s).supervisor = { s.supervisor with
    count := s.countsAfter f
    latches := (s.counted f).tripped.foldl (fun w a => w ||| a.bit) s.supervisor.latches } := by
  rw [supervise_eq, trips_supervisor]
  rfl

/-- Every axis that trips counts one following fault (09 R155). -/
theorem supervise_counted (f : AxisFrame) {l : List Axis} (hl : l.Nodup)
    (hmem : ∀ a, a ∈ l ↔ (s.counted f).trips a = true) (h : s.counters.get .followingFaults ≤ 65535) :
    (supervise f s).counters.get .followingFaults = min 65535 (s.counters.get .followingFaults + l.length) := by
  have hperm : l.Perm (s.counted f).tripped :=
    (List.perm_ext_iff_of_nodup hl (State.tripped_nodup _)).mpr fun a => by rw [hmem, State.mem_tripped]
  rw [hperm.length_eq, supervise_eq]
  exact trips_counted _ (s.counted f) h

theorem supervise_none (f : AxisFrame) (h : ∀ a, ¬(s.counted f).trips a = true) : supervise f s = s.counted f := by
  rw [supervise_eq, State.tripped_eq_nil h]
  rfl

/-- Under a stop an axis that trips joins the further causes. -/
theorem supervise_joins (f : AxisFrame) {c : StopCause} (h : s.stop.first = some c) :
    (supervise f s).stop.first = some c
      ∧ ∀ a, (s.counted f).trips a = true → (supervise f s).stop.further = s.stop.further ||| 1 := by
  obtain ⟨-, -, hstop⟩ := trips_join (s.counted f).tripped (s := s.counted f) h
  rw [supervise_eq, hstop]
  exact ⟨h, fun a ha => if_neg (List.ne_nil_of_mem (((s.counted f).mem_tripped a).mpr ha))⟩

/-- With no stop latched the axis of lowest number that trips is the first cause, and the others join it. -/
theorem supervise_stops (f : AxisFrame) {a : Axis} (h : s.stop.first = none) (ha : (s.counted f).trips a = true)
    (hfirst : ∀ b, b.number < a.number → ¬(s.counted f).trips b = true) :
    (supervise f s).stop.first = some (.following a)
      ∧ ((∃ b, (s.counted f).trips b = true ∧ b ≠ a) → (supervise f s).stop.further = 1)
      ∧ ((∀ b, (s.counted f).trips b = true → b = a) → (supervise f s).stop.further = 0)
      ∧ (supervise f s).latches.getLsbD 1 = true := by
  obtain ⟨rest, hl, hrest⟩ := State.tripped_first ha hfirst
  obtain ⟨-, hstop, hlatch⟩ := trips_first (a := a) rest (s := s.counted f) h
  rw [supervise_eq, hl, hstop]
  refine ⟨rfl, fun ⟨b, hb⟩ => if_neg (List.ne_nil_of_mem ((hrest b).mpr hb)), fun hall => if_pos ?_, hlatch⟩
  refine List.eq_nil_iff_forall_not_mem.mpr fun b hb => ?_
  obtain ⟨hb, hne⟩ := (hrest b).mp hb
  exact hne (hall b hb)

/-- Under a stop, outside a run or with no axis that trips, the check moves nothing. -/
theorem supervise_stays (f : AxisFrame)
    (h : s.stop.first ≠ none ∨ s.seq.state.isRun = false ∨ ∀ a, ¬(s.counted f).trips a = true) :
    (s.counted f).SameBesidesStop (supervise f s) := by
  rw [supervise_eq]
  exact trips_stay _ (h.imp_right (.imp_right State.tripped_eq_nil))

theorem supervise_enters (f : AxisFrame) {a : Axis} (h : s.stop.first = none) (ha : (s.counted f).trips a = true)
    (hq : s.seq.state.isRun = true) : FaultStopEntered s (supervise f s) := by
  have hmem := ((s.counted f).mem_tripped a).mpr ha
  rw [supervise_eq]
  cases hl : (s.counted f).tripped with
  | nil => rw [hl] at hmem; cases hmem
  | cons b rest => exact trips_enter (s := s.counted f) rest h hq

/-! ## The end of the event -/

/-- What an axis frame leaves once its event has ended, up to its reports. -/
theorem axisFrame_ends {f : AxisFrame} {z : State} (hlow : s.resetLow = false) (hz : takeAxisFrame f s = settle z) :
    ∃ t, exec (.axisFrame f) s = .next t ∧ t.reportOf (followAttention s (settle z))
      ∧ t.inputs = z.inputs ∧ t.stop = z.stop ∧ t.supervisor = z.supervisor ∧ t.awaitFrame = z.awaitFrame
      ∧ t.params = z.params ∧ t.rules = z.rules ∧ t.pending = z.pending ∧ t.computer = z.computer := by
  have hreport := event_reportOf (f := takeAxisFrame f) hlow
  rw [hz] at hreport
  obtain ⟨hpending, -, hinputs, hawait, hparams, -, hrules, -, -, -, hcomputer, -, -, -, hsupervisor, hstop, -⟩ :=
    State.reportOf_keeps hreport
  refine ⟨_, rfl, hreport, ?_⟩
  simp [hpending, hinputs, hawait, hparams, hrules, hcomputer, hsupervisor, hstop]

end Heads

/-- Settles O47: the first frame after a reset head by head; any other by the axes that trip, in axis order, then the
heads. -/
theorem axisFrameSupervised : Obligations.AxisFrameSupervised := by
  intro s f hlow outside count faulted x
  cases hw : s.awaitFrame with
  | true =>
    obtain ⟨a, ha⟩ := firstFramed_eq f s
    rw [firstFramed_chainage] at ha
    obtain ⟨t, ht, hreport, hkeeps⟩ := axisFrame_ends hlow (takeAxisFrame_first f hw)
    rw [ha] at hkeeps
    obtain ⟨hinputs, hstop, hsupervisor, hawait, hparams, hrules, hpending, hcomputer⟩ := hkeeps
    refine ⟨x.setAwaitFrame false, s.firstFramed f, t, ht, hreport, hinputs, hstop, hsupervisor, hawait, hparams,
      hrules, hpending, hcomputer, fun _ => ⟨rfl, ⟨a, ha⟩, fun i => ?_⟩, nofun⟩
    rw [firstFramed_get]
    exact firstFrame_atHead rfl
  | false =>
    obtain ⟨t, ht, hreport, hkeeps⟩ := axisFrame_ends hlow (takeAxisFrame_next f hw)
    have hcount : ∀ a, axesGet (x.countsAfter f) a = count a := countsAfter_get x f
    have htrips : ∀ a, (x.counted f).trips a = true ↔ faulted a := fun a => by
      rw [State.trips_iff]
      exact and_congr_left fun _ => by rw [← hcount]; rfl
    obtain ⟨hypending, hyinputs, hyawait, hyparams, hyrules, hycomputer, hysilent⟩ := supervise_keeps f x
    simp only [State.stepHeads_keeps] at hkeeps
    obtain ⟨hinputs, hstop, hsupervisor, hawait, hparams, hrules, hpending, hcomputer⟩ := hkeeps
    have hcame : t.awaitFrame = false := (hawait.trans hyawait).trans hw
    refine ⟨supervise f x, (supervise f x).stepHeads fun e k => k.onFrame e, t, ht, hreport, hinputs.trans hyinputs,
      hstop, hsupervisor, hcame, hparams.trans hyparams, hrules.trans hyrules, hpending.trans hypending,
      hcomputer.trans hycomputer, nofun, fun _ => ⟨stepHeads_move _ _, State.stepHeads_get _ _, hyinputs, hysilent, ?_,
        fun b => ?_, fun b => ?_, fun l hl hmem hle => ?_, fun hnone => ?_, fun c hc => ?_, fun b hf hb hfirst => ?_,
        fun hstays => ?_, fun b hf hb hq => supervise_enters f hf ((htrips b).mpr hb) hq⟩⟩
    · rw [supervise_supervisor]
      rfl
    · rw [supervise_supervisor]
      exact hcount b
    · rw [supervise_supervisor, latched_bits, State.mem_tripped, htrips]
      rfl
    · exact supervise_counted (s := x) f hl (fun b => (hmem b).trans (htrips b).symm) hle
    · rw [supervise_none f fun b => mt (htrips b).mp (hnone b)]
      rfl
    · obtain ⟨hfirst, hfurther⟩ := supervise_joins (s := x) f hc
      exact ⟨hfirst, fun b hb => hfurther b ((htrips b).mpr hb)⟩
    · have hstops := supervise_stops (s := x) f hf ((htrips b).mpr hb) fun d hd => mt (htrips d).mp (hfirst d hd)
      simpa only [htrips] using hstops
    · have hsame := supervise_stays (s := x) f (hstays.imp_right (.imp_right fun hnone b => mt (htrips b).mp (hnone b)))
      rw [State.SameBesidesStop] at hsame
      rw [hsame]
      exact ⟨rfl, rfl, rfl, rfl, rfl, rfl, rfl⟩

end Sys2Proof.Machine
end

section
/-! PROOFS. The account of the result queue (06 R95, 10 R165): its records leave room for the sleeper in flight, which
alone holds a reservation. A recording spends the reservation on a record, and an admission takes a free slot. -/

namespace Sys2Proof.Machine

/-- A slot is reserved exactly while a sleeper is in flight, and records and reservation fit the queue. -/
structure State.Accounted (s : State) : Prop where
  flight : s.flightLaw
  fits : s.resultLaw

section Accounted

variable {s t : State}

/-! ## What the law reads -/

theorem State.Accounted.of_flight (h : s.Accounted) (hr : t.results.length ≤ s.results.length)
    (hx : t.seq.context.isSome = s.seq.context.isSome) (hv : t.seq.reservation = s.seq.reservation) :
    t.Accounted := by
  obtain ⟨hflight, hfits⟩ := h
  refine ⟨?_, ?_⟩
  · rw [State.flightLaw, hv, hx]
    exact hflight
  · rw [State.resultLaw, hv]
    exact (Nat.add_le_add_right hr _).trans hfits

/-- The queue as it was, and the flight as the sequencer has it. -/
theorem State.Accounted.of_same (h : s.Accounted) (hr : t.results = s.results)
    (hq : t.seq.context = s.seq.context ∧ t.seq.reservation = s.seq.reservation) : t.Accounted :=
  h.of_flight (by rw [hr]) (by rw [hq.1]) hq.2

theorem State.Accounted.of_blocks (h : s.Accounted) (hr : t.results = s.results) (hq : t.seq = s.seq) : t.Accounted :=
  h.of_same hr (by rw [hq]; exact ⟨rfl, rfl⟩)

theorem accounted_of_context (hx : s.seq.context.isSome = true) (hv : s.seq.reservation = 1)
    (hr : s.results.length < 32) : s.Accounted :=
  ⟨by rw [State.flightLaw, hv, if_pos hx], by rw [State.resultLaw, hv]; exact hr⟩

theorem accounted_of_landed (hx : s.seq.context = none) (hv : s.seq.reservation = 0) (hr : s.results.length ≤ 32) :
    s.Accounted :=
  ⟨by rw [State.flightLaw, hv, hx]; rfl, by rw [State.resultLaw, hv]; exact hr⟩

/-- A sleeper in flight has its slot among the 32. -/
theorem State.Accounted.room (h : s.Accounted) (hx : s.seq.context.isSome = true) : s.results.length < 32 := by
  obtain ⟨hflight, hfits⟩ := h
  rw [State.flightLaw, if_pos hx] at hflight
  rw [State.resultLaw, hflight] at hfits
  exact hfits

theorem State.Accounted.modSeq (h : s.Accounted) {f : Sequencer → Sequencer}
    (hf : (f s.seq).context = s.seq.context ∧ (f s.seq).reservation = s.seq.reservation) : (s.modSeq f).Accounted :=
  h.of_same rfl hf

theorem State.Accounted.modContext (h : s.Accounted) (f : Context → Context) : (s.modContext f).Accounted :=
  h.of_flight le_rfl (by simp) rfl

theorem enterHold_accounted (h : s.Accounted) (r : HoldReason) : (enterHold r s).Accounted :=
  h.of_same (by simp) ⟨rfl, rfl⟩

theorem enterState_accounted (h : s.Accounted) (st : SeqState) : (enterState st s).Accounted :=
  h.of_same (by simp) ⟨rfl, rfl⟩

/-! ## Operations that leave the flight as it is -/

@[simp] theorem reportOpen_flight (s : State) : (reportOpen s).seq.context = s.seq.context
    ∧ (reportOpen s).seq.reservation = s.seq.reservation := by
  unfold reportOpen
  split
  · simp
  · split
    · split
      · simp
      · obtain ⟨hcontext, hreservation, -⟩ := continueRun_flight s
        exact ⟨hcontext, hreservation⟩
    · exact ⟨rfl, rfl⟩

@[simp] theorem releaseUnit_flight (s : State) : (releaseUnit s).seq.context = s.seq.context
    ∧ (releaseUnit s).seq.reservation = s.seq.reservation := by
  unfold releaseUnit
  dsimp only
  split <;> simp

@[simp] theorem clampOrder_flight (c : Context) (s : State) : (clampOrder c s).seq.context = s.seq.context
    ∧ (clampOrder c s).seq.reservation = s.seq.reservation := by
  unfold clampOrder
  dsimp only
  split <;> simp

theorem enterMeasuring_accounted (c : Context) (h : s.Accounted) : (enterMeasuring c s).Accounted :=
  h.of_same (by simp) (by simp [enterMeasuring, enterState])

theorem afterRecording_accounted (h : s.Accounted) : (afterRecording s).Accounted :=
  h.of_same (by simp) (afterRecording_flight s)

theorem releaseUnit_accounted (h : s.Accounted) : (releaseUnit s).Accounted := h.of_same (by simp) (by simp)

theorem beginTamping_accounted (h : s.Accounted) : (beginTamping s).Accounted := by
  unfold beginTamping
  split
  · exact h
  · split
    · exact (enterState_accounted h .tamping).of_blocks (by simp) (by simp)
    · exact h

theorem endTamping_accounted (h : s.Accounted) : (endTamping s).Accounted := by
  unfold endTamping
  split
  · exact h
  · split
    · exact releaseUnit_accounted (enterState_accounted h _)
    · exact h

theorem releaseAfterHeads_accounted (h : s.Accounted) : (releaseAfterHeads s).Accounted := by
  unfold releaseAfterHeads
  split
  · exact releaseUnit_accounted h
  · exact h

theorem releaseFrozen_accounted (h : s.Accounted) : (releaseFrozen s).Accounted := by
  unfold releaseFrozen
  split
  · exact releaseUnit_accounted h
  · exact h

theorem settle_accounted (h : s.Accounted) : (settle s).Accounted :=
  (releaseFrozen_accounted (releaseAfterHeads_accounted (endTamping_accounted (beginTamping_accounted h)))).of_blocks
    (by simp [settle]) (by simp [settle])

/-! ## A recording and an admission -/

/-- The record takes the slot that was reserved for it (06 R106). -/
theorem recordSleeper_accounted (o : SleeperOutcome) (h : s.Accounted) : (recordSleeper o s).Accounted := by
  cases hc : s.seq.context with
  | none => rw [recordSleeper_none hc]; exact h
  | some c =>
    obtain ⟨hseq, hresults, -⟩ := recordSleeper_of_context hc o
    refine accounted_of_landed (by rw [hseq]; rfl) (by rw [hseq]; rfl) ?_
    rw [hresults, List.length_append]
    exact h.room (by rw [hc]; rfl)

theorem workContext_accounted (h : s.Accounted) : (workContext s).Accounted := by
  have hrec : ∀ o, (afterRecording (recordSleeper o s)).Accounted := fun o =>
    afterRecording_accounted (recordSleeper_accounted o h)
  unfold workContext
  split
  · exact h
  · split
    · exact hrec _
    · split
      · exact hrec _
      · split
        · exact enterHold_accounted h _
        · exact enterMeasuring_accounted _ h

/-- An admission reserves a slot where one is free, whatever was in flight before it (06 R100, R101). -/
theorem admitSleeper_accounted (h : s.Accounted) : (admitSleeper s).Accounted := by
  have hhold := enterHold_accounted h
  unfold admitSleeper
  split
  · exact hhold _
  · next hfree =>
    split
    · exact hhold _
    · split
      · exact hhold _
      · split
        · exact hhold _
        · split
          · have hroom : s.results.length < 32 := (Nat.le_add_right _ _).trans_lt (Nat.not_le.mp hfree)
            exact workContext_accounted (accounted_of_context (by rw [takeContext_seq]; rfl)
              (by rw [takeContext_seq]) (by simpa using hroom))
          · exact h

/-! ## Positioning -/

theorem positioned_accounted (h : s.Accounted) : (positioned s).Accounted := by
  unfold positioned
  dsimp only
  refine admitSleeper_accounted (State.Accounted.modSeq (s := State.modMove _ _) ?_ ⟨rfl, rfl⟩)
  split <;> exact h.of_blocks rfl rfl

theorem takeHalted_accounted (h : s.Accounted) : (takeHalted s).Accounted := by
  have ht : (s.modMove fun m => { m with timer := none }).Accounted := h.of_blocks rfl rfl
  unfold takeHalted
  dsimp only
  split
  · split
    · exact positioned_accounted ht
    · exact h.of_blocks rfl rfl
  · split
    · exact positioned_accounted ht
    · exact h.of_same (by simp) ⟨rfl, rfl⟩
  all_goals exact h

theorem expireIndexTimer_accounted (h : s.Accounted) : (expireIndexTimer s).Accounted := by
  unfold expireIndexTimer
  split
  · exact h.of_same (by simp) ⟨rfl, rfl⟩
  · exact h

theorem takeDetection_accounted (h : s.Accounted) : (takeDetection s).Accounted := by
  unfold takeDetection
  split
  · split
    · exact h
    · next r _ =>
      dsimp only
      split <;> exact h.of_blocks rfl rfl
  · exact h

/-! ## The windows and the approach -/

/-- The PRE window gives the context its correction, the FINAL window ends with the recording. -/
theorem closeWindow_accounted (w : Window) (h : s.Accounted) : (closeWindow w s).Accounted := by
  unfold closeWindow
  split
  · exact h.of_blocks rfl rfl
  · next c hc =>
    split
    · exact h.of_flight (by simp) (by rw [closePre_seq, hc]; rfl) (by rw [closePre_seq])
    · have hclosed : (s.setMeasuring .noWindow).Accounted := h.of_blocks rfl rfl
      exact afterRecording_accounted (recordSleeper_accounted _ (hclosed.modContext _))

theorem enterHolding_accounted (last : Channels (Option Int)) (h : s.Accounted) : (enterHolding last s).Accounted :=
  h.of_flight (by simp) (by simp [enterHolding]) (by simp [enterHolding])

theorem takeLive_accounted (l : Live) (samples : Channels (Option Int)) (h : s.Accounted) :
    (takeLive l samples s).Accounted := by
  unfold takeLive
  dsimp only
  split
  · split
    · exact h.of_blocks rfl rfl
    · exact enterHolding_accounted _ (h.of_blocks rfl rfl)
  · exact h.of_blocks rfl rfl

theorem takeMeasuringFrame_accounted (samples : Channels (Option Int)) (h : s.Accounted) :
    (takeMeasuringFrame samples s).Accounted := by
  unfold takeMeasuringFrame
  split
  · exact h
  · split
    · exact closeWindow_accounted _ h
    · exact h.of_blocks rfl rfl
  · exact takeLive_accounted _ _ h

theorem expireSilence_accounted (h : s.Accounted) : (expireSilence s).Accounted := by
  unfold expireSilence
  split
  · exact h
  · exact closeWindow_accounted _ h
  · exact h

theorem expireCorrection_accounted (h : s.Accounted) : (expireCorrection s).Accounted := by
  unfold expireCorrection
  split
  · exact enterHolding_accounted _ (h.of_blocks rfl rfl)
  · exact h

/-! ## The clamps -/

theorem clampFailure_accounted (h : s.Accounted) : (clampFailure s).Accounted := by
  have hout : (abortUnit (endMeasuring s).headsGoOut).Accounted := h.of_blocks (by simp) (by simp)
  unfold clampFailure
  split
  · exact enterHold_accounted ((recordSleeper_accounted _ hout).modSeq ⟨rfl, rfl⟩) _
  · exact h

theorem holdForRetry_accounted (h : s.Accounted) : (holdForRetry s).Accounted :=
  enterHold_accounted (h.modSeq ⟨rfl, rfl⟩) _

theorem releaseFailure_accounted (h : s.Accounted) : (releaseFailure s).Accounted := by
  unfold releaseFailure
  split
  · exact clampFailure_accounted h
  · split
    · split
      · exact holdForRetry_accounted ((recordSleeper_accounted _ (h.modContext _)).modSeq ⟨rfl, rfl⟩)
      · exact holdForRetry_accounted h
    · exact h

theorem expireClampTimer_accounted (h : s.Accounted) : (expireClampTimer s).Accounted := by
  have ht : (s.modLining fun u => { u with clampTimer := none }).Accounted := h.of_blocks rfl rfl
  unfold expireClampTimer
  split
  · dsimp only
    split
    · exact clampFailure_accounted ht
    · exact releaseFailure_accounted ht
    all_goals exact ht
  · exact h

theorem takeClampLevels_accounted (h : s.Accounted) : (takeClampLevels s).Accounted := by
  unfold takeClampLevels
  split
  · exact h.of_blocks (by simp) (by simp)
  · split
    · exact h.of_same (by simp) (by simp)
    · exact h

/-! ## The heads -/

theorem stepHead_accounted (f : HeadEnv → HeadRecord → HeadStep) (i : Fin 4) (h : s.Accounted) :
    (s.stepHead f i).Accounted := h.of_blocks (by simp) (by simp)

theorem takeRaised_accounted (i : Fin 4) (h : s.Accounted) : (takeRaised i s).Accounted := by
  unfold takeRaised
  dsimp only
  refine settle_accounted ?_
  split <;> exact h.of_blocks (by simp) (by simp)

theorem expireTraverse_accounted (i : Fin 4) (h : s.Accounted) : (expireTraverse i s).Accounted := by
  unfold expireTraverse
  split
  · exact settle_accounted (stepHead_accounted _ i h)
  · exact h

theorem expireTilt_accounted (i : Fin 4) (h : s.Accounted) : (expireTilt i s).Accounted := by
  unfold expireTilt
  split
  · exact settle_accounted (stepHead_accounted _ i h)
  · exact h

theorem expirePenetration_accounted (i : Fin 4) (h : s.Accounted) : (expirePenetration i s).Accounted := by
  unfold expirePenetration
  split
  · exact h.of_blocks rfl rfl
  · exact h

theorem expireSqueeze_accounted (i : Fin 4) (h : s.Accounted) : (expireSqueeze i s).Accounted := by
  unfold expireSqueeze
  split
  · exact h.of_blocks rfl rfl
  · exact h

/-! ## Stops and axis frames -/

/-- FAULT_STOP records the sleeper in flight ABORTED (06 R118). -/
theorem enterFaultStop_accounted (h : s.Accounted) : (enterFaultStop s).Accounted := by
  have hout : (s.modChainage ChainageUnit.cancelTravel).headsGoOut.Accounted := h.of_blocks (by simp) (by simp)
  exact (recordSleeper_accounted .aborted hout).of_same (by simp [enterFaultStop])
    (by simp [enterFaultStop, enterState])

theorem raiseStop_accounted (c : StopCause) (h : s.Accounted) : (raiseStop c s).Accounted := by
  have ht : ((s.setStop { s.stop with first := some c, further := 0 }).setLatch .faultStop).Accounted :=
    h.of_blocks rfl rfl
  unfold raiseStop
  split
  · dsimp only
    split
    · exact enterFaultStop_accounted ht
    · exact ht
  · exact h.of_blocks rfl rfl

theorem testAxis_accounted (a : Axis) (h : s.Accounted) : (testAxis s a).Accounted := by
  unfold testAxis
  split
  · exact raiseStop_accounted _ (h.of_blocks rfl rfl)
  · exact h

theorem testAxes_accounted (l : List Axis) (h : s.Accounted) : (l.foldl testAxis s).Accounted := by
  induction l generalizing s with
  | nil => exact h
  | cons a l ih => exact ih (testAxis_accounted a h)

theorem takeAxisFrame_accounted (f : AxisFrame) (h : s.Accounted) : (takeAxisFrame f s).Accounted := by
  have hlive : (s.senseFrame f).Accounted := h.of_blocks rfl rfl
  unfold takeAxisFrame
  dsimp only
  split
  · exact settle_accounted (hlive.of_blocks (by simp) (by simp))
  · have htested : (supervise f (s.senseFrame f)).Accounted := testAxes_accounted _ (hlive.of_blocks rfl rfl)
    exact settle_accounted (htested.of_blocks (by simp) (by simp))

theorem expireAxisLine_accounted (h : s.Accounted) : (expireAxisLine s).Accounted := by
  unfold expireAxisLine
  split
  · exact h
  · exact raiseStop_accounted _ (h.of_blocks rfl rfl)

theorem takeChain_accounted (closed : Bool) (h : s.Accounted) : (takeChain closed s).Accounted := by
  unfold takeChain
  dsimp only
  split
  · exact raiseStop_accounted _ (h.of_blocks rfl rfl)
  · exact h.of_blocks rfl rfl

theorem expireAttention_accounted (h : s.Accounted) : (expireAttention s).Accounted := by
  unfold expireAttention
  split
  · exact h
  · exact h.of_blocks rfl rfl
  · exact raiseStop_accounted _ h

end Accounted

end Sys2Proof.Machine
end

section
/-! PROOFS. The account of the result queue kept by the requests, by the link, by every command and so by every step
(06 R95, 10 R165). -/

namespace Sys2Proof.Machine

section AccountedRequests

variable {s t : State}

/-! ## The requests of the run -/

theorem startRun_accounted (page index : Byte) (h : s.Accounted) : (startRun page index s).1.Accounted := by
  have hbegun : ∀ w, (settle (beginRun w s)).Accounted := fun w => settle_accounted (h.of_same (by simp) ⟨rfl, rfl⟩)
  unfold startRun
  repeat' split
  case isFalse => exact hbegun _
  all_goals exact h

theorem pauseRun_accounted (h : s.Accounted) : (pauseRun s).1.Accounted := by
  have hpends : (s.modSeq fun q => { q with pausePending := true }).Accounted := h.modSeq ⟨rfl, rfl⟩
  unfold pauseRun
  split
  case h_1 => exact hpends
  case h_2 => exact hpends
  case h_3 => exact hpends
  case h_4 => exact hpends
  case h_5 => exact hpends
  all_goals exact h

theorem readmit_accounted (h : s.Accounted) : (readmit s).Accounted := by
  unfold readmit
  dsimp only
  split
  · exact admitSleeper_accounted (h.modSeq ⟨rfl, rfl⟩)
  · exact enterState_accounted (h.modSeq ⟨rfl, rfl⟩) _

theorem retryRelease_accounted (h : s.Accounted) : (retryRelease s).Accounted :=
  releaseUnit_accounted (enterState_accounted (h.modSeq ⟨rfl, rfl⟩) _)

theorem resumeAdvance_accounted (h : s.Accounted) : (resumeAdvance s).Accounted := by
  obtain ⟨hcontext, hreservation, -⟩ := advanceRun_flight (s.modSeq fun q => { q with resumeAction := none })
  exact h.of_same (by simp) ⟨hcontext, hreservation⟩

theorem takeAction_accounted (a : Option ResumeAction) (h : s.Accounted) : (takeAction a s).Accounted := by
  unfold takeAction
  split
  · exact readmit_accounted h
  · exact retryRelease_accounted h
  · exact resumeAdvance_accounted h
  · exact readmit_accounted h

theorem resumeHold_accounted {r : HoldReason} (h : s.Accounted) (ht : resumeHold r s = some t) : t.Accounted := by
  cases r with
  | planExhausted => cases ht
  | resultFull => cases ht
  | confirmWait => cases ht
  | attentionLapse => cases ht; exact readmit_accounted h
  | detectionLost => cases ht; exact readmit_accounted (h.modSeq ⟨rfl, rfl⟩)
  | measureLost => cases ht; exact readmit_accounted (h.modSeq ⟨rfl, rfl⟩)
  | aborted => cases ht; exact readmit_accounted h
  | positionFault => cases ht; exact readmit_accounted h
  | clampFault => cases ht; exact takeAction_accounted _ h
  | stopCleared => cases ht; exact takeAction_accounted _ h

theorem resumed_accounted (h : s.Accounted) (ht : resumed s = some t) : t.Accounted := by
  have hactive : (activity s).Accounted := h.of_blocks (by simp) (by simp)
  unfold resumed at ht
  split at ht
  · cases ht; exact resumeAdvance_accounted hactive
  · exact resumeHold_accounted hactive ht
  · cases ht

theorem resumeRun_accounted (h : s.Accounted) : (resumeRun s).1.Accounted := by
  unfold resumeRun
  split
  · next ht => exact settle_accounted (resumed_accounted h ht)
  · exact h

theorem confirmSleeper_accounted (h : s.Accounted) : (confirmSleeper s).1.Accounted := by
  unfold confirmSleeper
  split
  · exact settle_accounted (enterMeasuring_accounted _ h)
  · exact h

theorem skipSleeper_accounted (h : s.Accounted) : (skipSleeper s).1.Accounted := by
  have hpends : (pendSkip s).1.Accounted := h.of_same rfl ⟨rfl, rfl⟩
  unfold skipSleeper
  split
  case h_1 => exact hpends
  case h_2 => exact hpends
  case h_3 =>
    split
    · exact settle_accounted (afterRecording_accounted (recordSleeper_accounted _ h))
    · exact hpends
  all_goals exact h

theorem abortFlight_accounted (h : s.Accounted) : (abortFlight s).Accounted := by
  have hout : (abortUnit (endMeasuring s).headsGoOut).Accounted := h.of_blocks (by simp) (by simp)
  exact enterHold_accounted (recordSleeper_accounted _ hout) _

theorem abortSleeper_accounted (h : s.Accounted) : (abortSleeper s).1.Accounted := by
  unfold abortSleeper
  split
  case h_1 => exact settle_accounted (abortFlight_accounted h)
  case h_2 => exact settle_accounted (abortFlight_accounted h)
  case h_3 => exact settle_accounted (abortFlight_accounted h)
  all_goals exact h

theorem retampSleeper_accounted (h : s.Accounted) : (retampSleeper s).1.Accounted := by
  unfold retampSleeper
  split
  · exact settle_accounted (admitSleeper_accounted (h.modSeq ⟨rfl, rfl⟩))
  · exact h

/-- STOP_RUN records the sleeper in flight ABORTED (06 R116). -/
theorem endRunNow_accounted (h : s.Accounted) : (endRunNow s).Accounted := by
  have hout : s.headsGoOut.Accounted := h.of_blocks (by simp) (by simp)
  exact (recordSleeper_accounted .aborted hout).of_same (by simp [endRunNow]) (by simp [endRunNow, enterState])

theorem stopRun_accounted (h : s.Accounted) : (stopRun s).1.Accounted := by
  unfold stopRun
  split
  · exact h
  · exact settle_accounted (endRunNow_accounted h)

theorem clearStop_accounted (h : s.Accounted) : (clearStop s).1.Accounted := by
  unfold clearStop
  split
  · exact h
  · split
    · exact h
    · split
      · dsimp only
        split
        · exact h.of_same (by simp) ⟨rfl, rfl⟩
        · exact h.of_blocks rfl rfl
      · exact h

/-! ## The other requests -/

theorem retryCrossing_accounted (w : Pos) (h : s.Accounted) : (retryCrossing w s).Accounted := by
  unfold retryCrossing
  split
  · exact h.of_same (by simp) ⟨rfl, rfl⟩
  · exact h.of_blocks rfl rfl

theorem closePage_accounted (page count endByte : Byte) (h : s.Accounted) :
    (closePage page count endByte s).1.Accounted := by
  have ht : (s.setPlan (s.plan.closePage page count endByte).1).Accounted := h.of_blocks rfl rfl
  unfold closePage
  dsimp only
  split
  · dsimp only
    split
    · exact settle_accounted (retryCrossing_accounted _ ht)
    · exact ht
  · exact ht

/-- A release leaves the newest records, and changes nothing else. -/
theorem releaseResults_drops (n : Byte) (s : State) :
    ∃ k, (releaseResults n s).1 = s.setResults (s.results.drop k) := by
  unfold releaseResults
  split
  · exact ⟨0, rfl⟩
  · split
    · exact ⟨_, rfl⟩
    · exact ⟨s.results.length, by rw [List.drop_length]⟩

theorem releaseResultsRequest_accounted (n : Byte) (h : s.Accounted) : (releaseResultsRequest n s).1.Accounted := by
  have ht : (releaseResults n s).1.Accounted := by
    obtain ⟨k, hk⟩ := releaseResults_drops n s
    rw [hk]
    exact h.of_flight (by simp) rfl rfl
  unfold releaseResultsRequest
  dsimp only
  split
  · exact settle_accounted (admitSleeper_accounted ht)
  · exact ht

theorem setChainageTo_accounted (value : BitVec 32) (h : s.Accounted) : (setChainageTo value s).1.Accounted := by
  unfold setChainageTo
  split
  · exact h
  · split
    · exact h
    · exact h.of_blocks rfl rfl

theorem getCounters_accounted (clear : Byte) (h : s.Accounted) : (getCounters clear s).1.Accounted := by
  unfold getCounters
  split
  · exact h
  · dsimp only
    split
    · exact h.of_blocks rfl rfl
    · exact h

theorem storeParam_accounted (p : ParamId) (v : Int) (h : s.Accounted) : (storeParam p v s).Accounted := by
  unfold storeParam
  dsimp only
  split <;> exact h.of_blocks (by simp) (by simp)

theorem setParam_accounted (id : Byte) (value : BitVec 32) (h : s.Accounted) : (setParam id value s).1.Accounted := by
  unfold setParam setChord setClamped
  dsimp only
  split
  · exact h
  · split
    · split
      · exact h
      · split
        · exact h
        · exact storeParam_accounted _ _ h
    · exact storeParam_accounted _ _ h

/-- The owner of a request keeps the account. -/
theorem runCall_accounted (c : Call) (h : s.Accounted) : (runCall c s).1.Accounted := by
  cases c with
  | setParam id value => exact setParam_accounted id value h
  | closePage page count endByte => exact closePage_accounted page count endByte h
  | setChainage value => exact setChainageTo_accounted value h
  | startRun page index => exact startRun_accounted page index h
  | pause => exact pauseRun_accounted h
  | resume => exact resumeRun_accounted h
  | confirm => exact confirmSleeper_accounted h
  | skipSleeper => exact skipSleeper_accounted h
  | abortSleeper => exact abortSleeper_accounted h
  | retamp => exact retampSleeper_accounted h
  | stopRun => exact stopRun_accounted h
  | clearStop => exact clearStop_accounted h
  | releaseResults n => exact releaseResultsRequest_accounted n h
  | getCounters clear => exact getCounters_accounted clear h
  | _ => exact h.of_blocks rfl rfl

/-! ## The link -/

theorem State.LinkTurned.results (h : s.LinkTurned t) : t.results = s.results := by
  rw [State.LinkTurned] at h
  rw [h]
  rfl

theorem State.LinkTurned.accounted (h : s.LinkTurned t) (hs : s.Accounted) : t.Accounted :=
  hs.of_blocks h.results h.seq

theorem report_accounted (before : State) (h : s.Accounted) : (report before s).Accounted := by
  obtain ⟨-, -, -, -, -, -, -, -, -, -, -, hq, -, -, -, -, -, hr, -⟩ :=
    State.reportOf_keeps (report_reportOf before s)
  exact h.of_blocks hr hq

theorem execute_accounted (r : Request) (h : s.Accounted) : (execute r s).Accounted :=
  report_accounted s ((runCall_accounted r.call h).of_blocks (by simp) (by simp))

theorem executeOldest_accounted (h : s.Accounted) : (executeOldest s).Accounted := by
  unfold executeOldest
  split
  · exact h
  · split
    · exact execute_accounted _ h
    · exact h

theorem request_accounted (r : Request) (h : s.Accounted) : (request r s).Accounted := by
  have ha := (acceptRequest_turned r s).accounted h
  unfold request
  split
  · exact h
  · split
    · exact executeOldest_accounted h
    · split
      · exact executeOldest_accounted ha
      · exact ha

/-- A warm restart leaves no records and no sleeper in flight (11 R185). -/
theorem takeSent_accounted (h : s.Accounted) : (takeSent s).Accounted := by
  unfold takeSent
  split
  · exact h
  · split
    · exact h.of_blocks rfl rfl
    · split
      · exact accounted_of_landed rfl rfl (Nat.zero_le _)
      · exact h.of_blocks rfl rfl

/-! ## Events -/

theorem event_accounted {f : State → State} (h : s.Accounted) (hf : (f s).Accounted) : (event f s).Accounted := by
  unfold event closeEvent
  split
  · exact h
  · exact report_accounted s (hf.of_blocks (by simp) (by simp))

theorem levelEvent_accounted {g : Inputs → Inputs} {f : State → State} (h : s.Accounted) (hf : (f s).Accounted) :
    (levelEvent g f s).Accounted := by
  cases hr : s.resetLow with
  | true => rw [levelEvent, if_pos hr]; exact h.of_blocks rfl rfl
  | false => rw [levelEvent_eq hr]; exact event_accounted h hf

/-- Bytes received one after the other (log entry 3). -/
theorem bytes_accounted (bytes : List RxByte) (h : s.Accounted) :
    (bytes.foldl (fun t b => event (takeByte b) t) s).Accounted := by
  induction bytes generalizing s with
  | nil => exact h
  | cons b rest ih => exact ih (event_accounted h ((takeByte_turned b s).accounted h))

end AccountedRequests

/-! ## Every command and every step -/

theorem exec_accounted {c : Instr} {s t : State} (h : exec c s = .next t) (hl : s.Accounted) : t.Accounted := by
  have hinputs : ∀ i, (s.setInputs i).Accounted := fun i => hl.of_blocks rfl rfl
  cases c with
  | loadRecords tag page first records =>
    simp only [exec, execLoadRecords] at h
    split at h
    · cases h; exact request_accounted _ hl
    · cases h
  | frameReceived bytes => cases h; exact bytes_accounted bytes hl
  | gapLimitExpiry => cases h; exact event_accounted hl ((expireGap_turned s).accounted hl)
  | frameSent => cases h; exact event_accounted hl (takeSent_accounted hl)
  | powerOnReset => cases h; exact accounted_of_landed rfl rfl (Nat.zero_le _)
  | measuringFrame bytes intact =>
    cases h; exact event_accounted hl (settle_accounted (takeMeasuringFrame_accounted _ hl))
  | silenceLimitExpiry => cases h; exact event_accounted hl (settle_accounted (expireSilence_accounted hl))
  | axisFrame frame => cases h; exact event_accounted hl (takeAxisFrame_accounted frame hl)
  | axisLineSilenceExpiry => cases h; exact event_accounted hl (expireAxisLine_accounted hl)
  | safetyChainChange closed => cases h; exact levelEvent_accounted hl (takeChain_accounted closed hl)
  | operatorInputActive input =>
    cases h
    refine event_accounted hl ?_
    rw [activityFrom_eq]
    exact hl.of_blocks rfl rfl
  | odometerCount forward => cases h; exact event_accounted hl (hl.of_blocks rfl rfl)
  | detection => cases h; exact event_accounted hl (takeDetection_accounted hl)
  | halted => cases h; exact event_accounted hl (settle_accounted (takeHalted_accounted hl))
  | indexTimerExpiry => cases h; exact event_accounted hl (expireIndexTimer_accounted hl)
  | clampSensorReport clamp closed =>
    cases h; exact levelEvent_accounted hl (settle_accounted (takeClampLevels_accounted (hinputs _)))
  | clampTimerExpiry => cases h; exact event_accounted hl (settle_accounted (expireClampTimer_accounted hl))
  | correctionTimerExpiry => cases h; exact event_accounted hl (settle_accounted (expireCorrection_accounted hl))
  | tiltSensorReport head arm report =>
    cases h; exact levelEvent_accounted hl (settle_accounted (stepHead_accounted _ head (hinputs _)))
  | headRaisedSensorReport head raised =>
    cases h; exact levelEvent_accounted hl (takeRaised_accounted head (hinputs _))
  | traverseTimerExpiry head => cases h; exact event_accounted hl (expireTraverse_accounted head hl)
  | tiltTimerExpiry head => cases h; exact event_accounted hl (expireTilt_accounted head hl)
  | penetrationTimerExpiry head => cases h; exact event_accounted hl (expirePenetration_accounted head hl)
  | squeezeTimerExpiry head => cases h; exact event_accounted hl (expireSqueeze_accounted head hl)
  | attentionTimerExpiry => cases h; exact event_accounted hl (expireAttention_accounted hl)
  | receivedByte byte => cases h; exact event_accounted hl ((takeByte_turned byte s).accounted hl)
  | resetLineLow => cases h; exact hl.of_blocks rfl rfl
  | _ => cases h; exact request_accounted _ hl

/-- Settles O53: an admission reserves a slot where one is free and takes the sleeper into flight, a recording puts its
record in that slot and ends the flight, a release only frees slots, both resets leave the queue empty with nothing in
flight, and nothing else touches the account. -/
theorem stepKeepsResultLaw : Obligations.StepKeepsResultLaw := by
  intro s t h hflight hfits
  have hs : s.Accounted := ⟨hflight, hfits⟩
  suffices ht : t.Accounted from ⟨ht.flight, ht.fits⟩
  unfold step at h
  split at h
  · cases h
    unfold idle
    split
    · exact hs
    · exact executeOldest_accounted hs
  · exact exec_accounted h (hs.of_blocks rfl rfl)

end Sys2Proof.Machine
end

section
/-! PROOFS. The reports of an event, latch by latch (10 R172, R173): which are due, which find five places free, and
which are counted as suppressed. -/

namespace Sys2Proof.Machine

section Reports

variable {s : State} {snapshot : List Byte} {due : Byte} {n : Nat} {l : List Nat}

/-- The report of a latch, with the status at the end of the event (10 R173). -/
def reportFrame (snapshot : List Byte) (n : Nat) : TxFrame := ⟨.report, 0, BitVec.ofNat 8 n, snapshot⟩

/-! ## One latch -/

theorem reportOne_idle (h : due.getLsbD n = false) : reportOne snapshot due s n = s := by
  simp [reportOne, h]

/-- Of the eight places five are free while at most three frames wait. -/
theorem five_free_iff (s : State) : s.link.tx.length + reportPlaces ≤ transmitPlaces ↔ s.link.tx.length < 4 := by
  unfold reportPlaces transmitPlaces
  omega

theorem reportOne_sends (h : due.getLsbD n = true) (hfree : s.link.tx.length < 4) :
    reportOne snapshot due s n = s.setLink { s.link with tx := s.link.tx ++ [reportFrame snapshot n] } := by
  rw [reportOne, if_pos h, if_pos ((five_free_iff s).mpr hfree)]
  rfl

theorem reportOne_suppresses (h : due.getLsbD n = true) (hfull : ¬s.link.tx.length < 4) :
    reportOne snapshot due s n = s.bump .reportsSuppressed := by
  rw [reportOne, if_pos h, if_neg (mt (five_free_iff s).mp hfull)]

/-! ## The latches in ascending number -/

/-- The latches of a list that are due a report. -/
def latchesDue (due : Byte) (l : List Nat) : List Nat := l.filter due.getLsbD

/-- Those of them that find five places free, with `waiting` frames in the queue before them. -/
def latchesSent (due : Byte) (waiting : Nat) (l : List Nat) : List Nat := (latchesDue due l).take (4 - waiting)

theorem latchesDue_cons (h : due.getLsbD n = true) (l : List Nat) :
    latchesDue due (n :: l) = n :: latchesDue due l := List.filter_cons_of_pos h

theorem latchesDue_cons_idle (h : due.getLsbD n = false) (l : List Nat) :
    latchesDue due (n :: l) = latchesDue due l := List.filter_cons_of_neg (by simp [h])

theorem latchesSent_cons {waiting : Nat} (h : due.getLsbD n = true) (hfree : waiting < 4) (l : List Nat) :
    latchesSent due waiting (n :: l) = n :: latchesSent due (waiting + 1) l := by
  have hplaces : 4 - waiting = 4 - (waiting + 1) + 1 := by omega
  rw [latchesSent, latchesDue_cons h, hplaces, List.take_succ_cons, latchesSent]

theorem latchesSent_of_full {waiting : Nat} (hfull : ¬waiting < 4) (l : List Nat) : latchesSent due waiting l = [] := by
  rw [latchesSent, Nat.sub_eq_zero_of_le (Nat.not_lt.mp hfull), List.take_zero]

/-- Each latch that is sent takes a place from those after it. -/
theorem foldl_reportOne_link (l : List Nat) (s : State) : (l.foldl (reportOne snapshot due) s).link
    = { s.link with tx := s.link.tx ++ (latchesSent due s.link.tx.length l).map (reportFrame snapshot) } := by
  induction l generalizing s with
  | nil => simp [latchesSent, latchesDue]
  | cons n l ih =>
    rw [List.foldl_cons, ih]
    cases hn : due.getLsbD n with
    | false => rw [reportOne_idle hn, latchesSent, latchesSent, latchesDue_cons_idle hn]
    | true =>
      by_cases hfree : s.link.tx.length < 4
      · simp [reportOne_sends hn hfree, latchesSent_cons hn hfree]
      · simp [reportOne_suppresses hn hfree, latchesSent_of_full hfree]

/-- Each latch due and not sent raises the counter, up to where it saturates. -/
theorem foldl_reportOne_suppressed (l : List Nat) (s : State) (h : s.counters.reportsSuppressed ≤ 65535) :
    (l.foldl (reportOne snapshot due) s).counters.reportsSuppressed = min 65535 (s.counters.reportsSuppressed
      + ((latchesDue due l).length - (latchesSent due s.link.tx.length l).length)) := by
  induction l generalizing s with
  | nil => simpa [latchesSent, latchesDue] using h
  | cons n l ih =>
    rw [List.foldl_cons]
    cases hn : due.getLsbD n with
    | false => rw [reportOne_idle hn, ih s h, latchesSent, latchesSent, latchesDue_cons_idle hn]
    | true =>
      by_cases hfree : s.link.tx.length < 4
      · rw [reportOne_sends hn hfree, ih _ (by exact h), latchesSent_cons hn hfree, latchesDue_cons hn]
        simp
      · have hraised : (s.bump .reportsSuppressed).counters.reportsSuppressed
            = min 65535 (s.counters.reportsSuppressed + 1) := rfl
        have hlink : (s.bump .reportsSuppressed).link = s.link := rfl
        rw [reportOne_suppresses hn hfree, ih _ (hraised ▸ Nat.min_le_left ..), hraised, hlink,
          latchesSent_of_full hfree, latchesSent_of_full hfree, latchesDue_cons hn]
        simp only [List.length_cons, List.length_nil]
        omega

/-- A latch is due where it is set and enabled now and was not before. -/
theorem dueReports_getLsbD (before after : State) (h : n < 8) : (dueReports before after).getLsbD n
    = ((after.latches &&& after.reportEnable).getLsbD n && !(before.latches &&& before.reportEnable).getLsbD n) := by
  rw [dueReports, BitVec.getLsbD_and, BitVec.getLsbD_not, decide_eq_true h, Bool.true_and]

end Reports

/-- Settles O37: the eight latches one after the other, each due latch taking a place or a suppression. -/
theorem reportsOfAnEvent : Obligations.ReportsOfAnEvent := by
  intro before after due sent t
  have hdue : due = latchesDue (dueReports before after) (List.range 8) :=
    List.filter_congr fun n hn => (dueReports_getLsbD before after (List.mem_range.mp hn)).symm
  have hsent : sent = latchesSent (dueReports before after) after.link.tx.length (List.range 8) :=
    congrArg (List.take _) hdue
  refine ⟨?_, fun h => ?_, report_reportOf before after⟩
  · rw [hsent]
    exact foldl_reportOne_link _ after
  · rw [hsent, hdue]
    exact foldl_reportOne_suppressed _ after h

end Sys2Proof.Machine
end

section
/-! PROOFS. RELEASE_RESULTS (10 R169): refused by its count, else the oldest records gone, and the admission of
HOLD(RESULT_FULL) retried where a record went. -/

namespace Sys2Proof.Machine

section Release

variable {s : State} {n : Byte}

/-- The reply of a release that is taken: what was asked for, or with ADJUSTED what there was (10 R169). -/
def releaseReply (n : Byte) (s : State) : Reply :=
  if n.toNat ≤ s.results.length then ⟨.ok, [n]⟩ else ⟨.adjusted, [BitVec.ofNat 8 s.results.length]⟩

theorem releaseResults_refused (h : n.toNat = 0 ∨ 32 < n.toNat) : releaseResults n s = (s, .plain .badValue) :=
  if_pos (by omega)

theorem releaseResults_taken (h1 : 1 ≤ n.toNat) (h32 : n.toNat ≤ 32) :
    releaseResults n s = (s.setResults (s.results.drop n.toNat), releaseReply n s) := by
  rw [releaseResults, if_neg (by omega), releaseReply]
  split
  · rfl
  · next hfew => rw [List.drop_eq_nil_of_le (Nat.le_of_not_le hfew)]

/-- HOLD(RESULT_FULL) with a record to release. -/
def State.heldFull (s : State) : Prop :=
  s.seq.state = .hold ∧ s.seq.hold = some .resultFull ∧ s.results ≠ []

theorem drop_shorter_iff {α : Type} {k : Nat} (h : 1 ≤ k) (l : List α) : (l.drop k).length < l.length ↔ l ≠ [] := by
  rw [List.length_drop, ← List.length_pos_iff]
  omega

theorem releaseResultsRequest_refused (h : n.toNat = 0 ∨ 32 < n.toNat) :
    releaseResultsRequest n s = (s, .plain .badValue) := by
  simp [releaseResultsRequest, releaseResults_refused h]

theorem releaseResultsRequest_taken (h1 : 1 ≤ n.toNat) (h32 : n.toNat ≤ 32) (hfull : ¬s.heldFull) :
    releaseResultsRequest n s = (s.setResults (s.results.drop n.toNat), releaseReply n s) := by
  simp only [releaseResultsRequest, releaseResults_taken h1 h32]
  exact if_neg fun ⟨hq, hr, hshort⟩ => hfull ⟨hq, hr, (drop_shorter_iff h1 _).mp hshort⟩

theorem releaseResultsRequest_admits (h1 : 1 ≤ n.toNat) (h32 : n.toNat ≤ 32) (hfull : s.heldFull) :
    releaseResultsRequest n s
      = (settle (admitSleeper (s.setResults (s.results.drop n.toNat))), releaseReply n s) := by
  obtain ⟨hq, hr, hsome⟩ := hfull
  simp only [releaseResultsRequest, releaseResults_taken h1 h32]
  exact if_pos ⟨hq, hr, (drop_shorter_iff h1 _).mpr hsome⟩

end Release

/-- Settles O31: refused by its count, else by whether HOLD(RESULT_FULL) stands with a record to release. -/
theorem releasedResultsLeaveQueue : Obligations.ReleasedResultsLeaveQueue := by
  intro s tag n h r full y
  refine ⟨fun hn => ?_, fun h1 h32 hfull => ?_, fun h1 h32 hfull => ⟨_, rfl, ?_⟩⟩
  · exact congrArg _ (unchanged_request_answered (r := r) h nofun (releaseResultsRequest_refused hn))
  · exact congrArg _ (request_answered (g := s.setResults (s.results.drop n.toNat)) (r := r) h nofun
      (releaseResultsRequest_taken (s := s.queued r) h1 h32 hfull) rfl rfl rfl rfl)
  · refine request_reportOf (r := r) h nofun ?_ (by simp)
    refine (releaseResultsRequest_admits (s := s.queued r) h1 h32 hfull).trans ?_
    exact Prod.ext (by simp [State.queued]) rfl

end Sys2Proof.Machine
end

section
/-! PROOFS. The fields and codes of the account on the wire (11 "Formats", "Codes"): a value its field can carry is
written as the field's layout says. -/

namespace Sys2Proof.Machine

section Fields

variable {v : Int}

/-! ## Fields of two, four and one bytes -/

theorem signedField_word (hlo : -32768 ≤ v) (hhi : v ≤ 32767) : signedField 2 v = wordBytes (BitVec.ofInt 16 v) := by
  rw [← bytes2_eq_wordBytes, bytes2, BitVec.toNat_ofInt]
  exact if_pos (by omega)

theorem signedField_long (hlo : -2147483648 ≤ v) (hhi : v ≤ 2147483647) :
    signedField 4 v = longBytes (BitVec.ofInt 32 v) := by
  rw [← bytes4_eq_longBytes, bytes4, BitVec.toNat_ofInt]
  exact if_pos (by omega)

theorem unsignedField_word_ofInt (h0 : 0 ≤ v) (hhi : v ≤ 65535) :
    unsignedField 2 v = wordBytes (BitVec.ofInt 16 v) := by
  rw [← bytes2_eq_wordBytes, bytes2, BitVec.toNat_ofInt, Int.emod_eq_of_lt h0 (by omega)]
  exact if_pos (by omega)

theorem unsignedField_long_ofInt (h0 : 0 ≤ v) (hhi : v ≤ 4294967295) :
    unsignedField 4 v = longBytes (BitVec.ofInt 32 v) := by
  rw [← bytes4_eq_longBytes, bytes4, BitVec.toNat_ofInt, Int.emod_eq_of_lt h0 (by omega)]
  exact if_pos (by omega)

theorem unsignedField_byte_ofNat {n : Nat} (h : n < 256) : unsignedField 1 n = [BitVec.ofNat 8 n] := by
  have hbyte := unsignedField_byte (BitVec.ofNat 8 n)
  rwa [BitVec.toNat_ofNat, Nat.mod_eq_of_lt h] at hbyte

theorem unsignedField_word_ofNat {n : Nat} (h : n ≤ 65535) : unsignedField 2 n = wordBytes (BitVec.ofNat 16 n) := by
  have hword := unsignedField_word (BitVec.ofNat 16 n)
  rwa [BitVec.toNat_ofNat, Nat.mod_eq_of_lt (by omega)] at hword

/-- A byte of flags, bit 0 first, is the number those bits write. -/
theorem maskByte_eq_bitsByte (l : List Bool) : maskByte l = bitsByte l := by
  induction l with
  | nil => rfl
  | cons b l ih =>
    have hcons : bitsByte (b :: l) = boolByte b + bitsByte l <<< 1 := by
      apply BitVec.eq_of_toNat_eq
      cases b <;> simp [bitsByte, boolByte, BitVec.toNat_shiftLeft, Nat.shiftLeft_eq] <;> omega
    have hapart : boolByte b &&& bitsByte l <<< 1 = 0 := by
      apply BitVec.eq_of_getLsbD_eq
      intro i hi
      cases b <;> cases i <;> simp [boolByte]
    rw [maskByte, ih, hcons, BitVec.add_eq_or_of_and_eq_zero _ _ hapart]

end Fields

/-! ## Codes -/

theorem SeqState.code_eq (q : SeqState) : q.code = codeIn
    [.idle, .indexing, .measuring, .correcting, .tamping, .releasing, .hold, .paused, .faultStop, .ended] q := by
  cases q <;> decide

theorem holdCode_eq (r : Option HoldReason) : holdCode r = codeIn [none, some .planExhausted, some .resultFull,
    some .attentionLapse, some .detectionLost, some .measureLost, some .confirmWait, some .positionFault,
    some .clampFault, some .aborted, some .stopCleared] r := by
  cases r with
  | none => decide
  | some r => cases r <;> decide

theorem AttentionState.code_eq (a : AttentionState) : a.code = codeIn [.disarmed, .running, .lapsedOnce] a := by
  cases a <;> decide

theorem PageState.code_eq (p : PageState) : p.code = codeIn [.empty, .loading, .ready, .active] p := by
  cases p <;> decide

theorem UnitState.code_eq (u : UnitState) :
    u.code = codeIn [.isOpen, .clamping, .clamped, .approaching, .holding, .releasing] u := by
  cases u <;> decide

/-- RISING comes last, whatever its form. -/
theorem HeadState.code_eq (h : HeadState) :
    h.code = codeIn [.parked, .preparing, .ready, .penetrating, .squeezing, .opening] h := by
  cases h with
  | rising form => cases form <;> decide
  | _ => decide

theorem SleeperOutcome.code_eq (o : SleeperOutcome) :
    o.code = codeIn [.tamped, .partly, .notTamped, .skipped, .skippedNoArms, .aborted] o := by
  cases o <;> decide

theorem HeadOutcome.code_eq (o : HeadOutcome) : o.code = List.idxOf o
    [.notEngaged, .complete, .timeLimited, .struck, .tiltFault, .traverseFault, .aborted] := by
  cases o <;> decide

end Sys2Proof.Machine
end

section
/-! PROOFS. The status body, a result record and the counter block written as their layouts in 11 "Formats" (10 R166,
R174, R175). -/

namespace Sys2Proof.Machine

/-! ## The status body -/

section Status

variable {s : State}

theorem pointerBytes_eq (n : Nat) {p : Option Pos} (h : ∀ q, p = some q → q.index < 64) :
    pointerBytes n p = pointerLayout (Config.absentIndex n) p := by
  cases p with
  | none => rfl
  | some q =>
    have hindex : q.index < 64 := h q rfl
    rw [pointerBytes, pointerLayout, unsignedField_byte_ofNat (by omega)]

theorem Quad.toList_eq_map {α : Type} (q : Quad α) : q.toList = [0, 1, 2, 3].map q.get := rfl

/-- The first cause, with the axis of a FOLLOWING cause (09 R158). -/
def causeLayout : Option StopCause → List Byte
  | none => [0, 0]
  | some (.following a) => [1, BitVec.ofNat 8 a.number]
  | some .safetyChain => [2, 0]
  | some .axisLine => [3, 0]
  | some .attention => [4, 0]

theorem causeBytes_eq (c : Option StopCause) : [causeCode c, causeAxis c] = causeLayout c := by
  cases c with
  | none => rfl
  | some c => cases c <;> rfl

theorem pageBytes_eq (p : Page) : pageBytes p = [codeIn [.empty, .loading, .ready, .active] p.state,
    BitVec.ofNat 8 p.count, bitsByte [p.endFlag, p.orderFault]] := by
  rw [pageBytes, PageState.code_eq, maskByte_eq_bitsByte]

theorem statusBytes_eq_layout (hp : ∀ p : Pos, s.plan.workhead = some p ∨ s.plan.front = some p → p.index < 64)
    (hrlo : -2147483648 ≤ s.chainage.running) (hrhi : s.chainage.running ≤ 2147483647)
    (holo : -2147483648 ≤ s.chainage.offset) (hohi : s.chainage.offset ≤ 2147483647) :
    statusBytes s = statusLayout s (Config.absentIndex 0) (Config.absentIndex 1) := by
  unfold statusBytes statusLayout
  rw [pointerBytes_eq 0 fun q hq => hp q (.inl hq), pointerBytes_eq 1 fun q hq => hp q (.inr hq),
    signedField_long hrlo hrhi, signedField_long holo hohi]
  simp only [SeqState.code_eq, holdCode_eq, AttentionState.code_eq, UnitState.code_eq, HeadState.code_eq,
    maskByte_eq_bitsByte, bytes2_eq_wordBytes, pageBytes_eq, Quad.toList_eq_map, List.flatMap_map, List.map_map,
    PlanStore.page, State.stopLatched, Supervisor.summary, List.append_assoc]
  congr 2
  exact congrArg (· ++ _) (causeBytes_eq s.stop.first)

end Status

/-! ## A result record -/

section Record

variable {r : ResultRecord}

/-- A value of two bytes where there is one. -/
def valueLayout : Option Int → List Byte
  | some v => wordBytes (BitVec.ofInt 16 v)
  | none => []

theorem values_eq_layout (l : List (Option Int)) (h : ∀ v, some v ∈ l → -32768 ≤ v ∧ v ≤ 32767) :
    (l.filterMap id).flatMap (signedField 2) = l.flatMap valueLayout := by
  induction l with
  | nil => rfl
  | cons o l ih =>
    have hrest := ih fun v hv => h v (List.mem_cons_of_mem _ hv)
    cases o with
    | none => simpa [valueLayout] using hrest
    | some v =>
      obtain ⟨hlo, hhi⟩ := h v List.mem_cons_self
      simpa [valueLayout, signedField_word hlo hhi] using hrest

theorem groupLayout_eq (g : Channels (Option Int)) :
    groupLayout g = bitsByte (g.toList.map Option.isSome) :: g.toList.flatMap valueLayout := rfl

theorem groupBytes_eq_layout {g : Channels (Option Int)} (h : ∀ v, some v ∈ g.toList → -32768 ≤ v ∧ v ≤ 32767) :
    groupBytes g = groupLayout g := by
  rw [groupBytes, groupLayout_eq, maskByte_eq_bitsByte, values_eq_layout _ h]

/-- The commanded group, the lift of the branch rail where there is one. -/
def commandedLayout (c : Commanded) : List Byte :=
  wordBytes (BitVec.ofInt 16 c.lL) ++ wordBytes (BitVec.ofInt 16 c.lR) ++ wordBytes (BitVec.ofInt 16 c.s)
    ++ valueLayout c.lB

theorem commandedBytes_eq_layout {c : Commanded} (hL : -32768 ≤ c.lL ∧ c.lL ≤ 32767)
    (hR : -32768 ≤ c.lR ∧ c.lR ≤ 32767) (hs : -32768 ≤ c.s ∧ c.s ≤ 32767)
    (hB : ∀ b, c.lB = some b → -32768 ≤ b ∧ b ≤ 32767) : c.bytes = commandedLayout c := by
  rw [commandedLayout, ← signedField_word hL.1 hL.2, ← signedField_word hR.1 hR.2, ← signedField_word hs.1 hs.2]
  refine congrArg₂ (· ++ ·) rfl ?_
  cases hb : c.lB with
  | none => rfl
  | some b => exact signedField_word (hB b hb).1 (hB b hb).2

theorem HeadOutcome.code_le (o : HeadOutcome) : o.code ≤ 6 := by cases o <;> decide

/-- A head entry: outcome and insertions in one byte, the depth, the peak up to 255. -/
def entryLayout (e : HeadEntry) : List Byte :=
  BitVec.ofNat 8 (List.idxOf e.outcome
      [.notEngaged, .complete, .timeLimited, .struck, .tiltFault, .traverseFault, .aborted] * 16 + e.insertions)
    :: wordBytes (BitVec.ofInt 16 e.depth) ++ [BitVec.ofNat 8 (min 255 e.peak)]

theorem entryBytes_eq_layout {e : HeadEntry} (hi : e.insertions ≤ 15) (h0 : 0 ≤ e.depth) (hd : e.depth ≤ 65535) :
    e.bytes = entryLayout e := by
  have hcode := e.outcome.code_le
  rw [HeadEntry.bytes, unsignedField_byte_ofNat (by omega), unsignedField_word_ofInt h0 hd, HeadOutcome.code_eq]
  rfl

/-- A result record part by part, from the first byte on. -/
theorem resultBytes_eq_layout (h : ResultFits r) : r.bytes = resultLayout r := by
  obtain ⟨hindex, hc0, hchi, hentries, hdrift, hcommanded, hachieved, hresidual⟩ := h
  have hpage : r.pos.page.val * 64 + r.pos.index < 256 := by omega
  have hheads : r.heads.toList.flatMap HeadEntry.bytes = [0, 1, 2, 3].flatMap fun i => entryLayout (r.heads.get i) := by
    rw [Quad.toList_eq_map, List.flatMap_map]
    exact List.flatMap_congr fun i _ => entryBytes_eq_layout (hentries i).1 (hentries i).2.1 (hentries i).2.2
  unfold ResultRecord.bytes resultLayout
  rw [unsignedField_byte_ofNat hpage, unsignedField_long_ofInt hc0 hchi, SleeperOutcome.code_eq, maskByte_eq_bitsByte,
    bytes2_eq_wordBytes, bytes2_eq_wordBytes, hheads]
  refine congrArg₂ (· ++ ·) (congrArg₂ (· ++ ·) (congrArg₂ (· ++ ·) (congrArg₂ (· ++ ·) rfl ?drift) ?commanded)
    ?achieved) ?residual
  case drift =>
    cases hv : r.drift with
    | none => rfl
    | some v => exact signedField_word (hdrift v hv).1 (hdrift v hv).2
  case commanded =>
    cases hc : r.commanded with
    | none => rfl
    | some c =>
      obtain ⟨hL, hR, hs, hB⟩ := hcommanded c hc
      exact commandedBytes_eq_layout hL hR hs hB
  case achieved =>
    cases hg : r.achieved with
    | none => rfl
    | some g => exact groupBytes_eq_layout (hachieved g hg)
  case residual =>
    cases hg : r.residual with
    | none => rfl
    | some g => exact groupBytes_eq_layout (hresidual g hg)

end Record

/-! ## The counter block -/

/-- The seventeen counters, each in its field of two bytes (10 R175). -/
theorem countersBytes_eq_layout {c : Counters} (h : ∀ n ∈ c.toList, n ≤ 65535) :
    c.bytes = [Counter.framesAccepted, .crcErrors, .lengthErrors, .gapErrors, .framingErrors, .queueFullRefusals,
      .reportsSuppressed, .sleepersTamped, .sleepersNotTamped, .sleepersSkipped, .sleepersAborted, .measureDegraded,
      .detectionsMissed, .detectionsSpurious, .followingFaults, .correctionsLimited, .headsStruck].flatMap
        fun k => wordBytes (BitVec.ofNat 16 (c.get k)) :=
  List.flatMap_congr fun n hn => unsignedField_word_ofNat (h n hn)

end Sys2Proof.Machine
end

section
/-! PROOFS. READ_RESULTS, GET_STATUS, GET_COUNTERS and CLEAR_EVENTS on a ready link (10 R168, R171, R174, R176). -/

namespace Sys2Proof.Machine

section Account

variable {s : State} {tag n mask : Byte}

theorem readResults_refused (h : n.toNat = 0 ∨ 4 < n.toNat) : readResults n s = .plain .badValue := if_pos (by omega)

theorem readResults_taken (h1 : 1 ≤ n.toNat) (h4 : n.toNat ≤ 4) : readResults n s
    = ⟨.ok, BitVec.ofNat 8 (min n.toNat s.results.length) :: (s.results.take n.toNat).flatMap ResultRecord.bytes⟩ := by
  rw [readResults, if_neg (by omega), List.length_take]

theorem readBytes_eq_layout (h : ∀ r ∈ s.results, ResultFits r) (k : Nat) :
    (s.results.take k).flatMap ResultRecord.bytes = (s.results.take k).flatMap resultLayout :=
  List.flatMap_congr fun r hr => resultBytes_eq_layout (h r (List.mem_of_mem_take hr))

theorem getCounters_reads (s : State) : getCounters 0 s = (s, ⟨.ok, s.counters.bytes⟩) := rfl

theorem getCounters_clears (s : State) : getCounters 1 s = (s.setCounters .zero, ⟨.ok, s.counters.bytes⟩) := rfl

theorem getCounters_refused (h : 1 < n.toNat) : getCounters n s = (s, .plain .badValue) := by
  have hno : yesNo? n = none := by
    unfold yesNo?
    split
    · omega
    · omega
    · rfl
  rw [getCounters, hno]

/-- Latches that are only cleared are due no report. -/
theorem dueReports_of_cleared {before after : State} (hl : after.latches = before.latches &&& ~~~mask)
    (hp : after.reportEnable = before.reportEnable) : dueReports before after = 0 := by
  rw [dueReports, hl, hp]
  apply BitVec.eq_of_getLsbD_eq
  intro i hi
  cases hb : before.latches.getLsbD i <;> cases he : before.reportEnable.getLsbD i <;> simp [hb, he]

/-! ## On a ready link -/

theorem exec_readResults (h : s.linkReady) {y : Reply} (hy : readResults n s = y) :
    exec (.readResults tag n) s = .next (State.answered ⟨tag, .readResults n⟩ y s) :=
  congrArg Host.Outcome.next (unchanged_request_answered h (by simp) (congrArg (Prod.mk _) hy))

theorem exec_getStatus (h : s.linkReady) :
    exec (.getStatus tag) s = .next (State.answered ⟨tag, .getStatus⟩ ⟨.ok, statusBytes s⟩ s) :=
  congrArg Host.Outcome.next (unchanged_request_answered h (by simp) rfl)

theorem exec_getCounters_reads (h : s.linkReady) :
    exec (.getCounters tag 0) s = .next (State.answered ⟨tag, .getCounters 0⟩ ⟨.ok, s.counters.bytes⟩ s) :=
  congrArg Host.Outcome.next (unchanged_request_answered h (by simp) (getCounters_reads _))

theorem exec_getCounters_clears (h : s.linkReady) : exec (.getCounters tag 1) s
    = .next (State.answered ⟨tag, .getCounters 1⟩ ⟨.ok, s.counters.bytes⟩ (s.setCounters .zero)) :=
  congrArg Host.Outcome.next
    (request_answered (g := s.setCounters .zero) h (by simp) (getCounters_clears _) rfl rfl rfl rfl)

theorem exec_getCounters_refused (h : s.linkReady) (hn : 1 < n.toNat) :
    exec (.getCounters tag n) s = .next (State.answered ⟨tag, .getCounters n⟩ (.plain .badValue) s) :=
  congrArg Host.Outcome.next (unchanged_request_answered h (by simp) (getCounters_refused hn))

/-- A request on a ready link that does nothing but clear latches. -/
theorem clears_request_answered {r : Request} {y : Reply} (h : s.linkReady) (hr : r.call ≠ .restart)
    (hrun : runCall r.call (s.queued r) = ((s.setLatches (s.latches &&& ~~~mask)).queued r, y)) :
    request r s = (s.setLatches (s.latches &&& ~~~mask)).answered r y := by
  have hmoved : s.moved r y (s.setLatches (s.latches &&& ~~~mask))
      = (s.setLatches (s.latches &&& ~~~mask)).answered r y :=
    congrArg (requestActivity r y) (followAttention_same rfl)
  rw [request_moved h hr hrun rfl, hmoved]
  exact report_eq_of_not_due (dueReports_of_cleared (mask := mask) (by simp [State.answered, State.replied])
    (by simp [State.reportEnable, State.answered, State.replied]))

theorem exec_clearEvents (h : s.linkReady) : exec (.clearEvents tag mask) s
    = .next (State.answered ⟨tag, .clearEvents mask⟩ ⟨.ok, [s.latches &&& ~~~mask]⟩
        (s.setLatches (s.latches &&& ~~~mask))) :=
  congrArg Host.Outcome.next (clears_request_answered h (by simp) rfl)

end Account

/-- Settles O32: each request by what its owner answers, with the bytes as their layouts say. -/
theorem accountReadAndCleared : Obligations.AccountReadAndCleared := by
  intro s tag n mask h
  refine ⟨fun hn => ?_, fun h1 h4 => ⟨_, ?_, fun hfits => readBytes_eq_layout hfits _⟩,
    ⟨_, ?_, fun hp hrlo hrhi holo hohi => ⟨_, _, statusBytes_eq_layout hp hrlo hrhi holo hohi⟩⟩,
    ⟨s.counters.bytes, countersBytes_eq_layout, ?_, ?_⟩, fun hn => ?_, ?_⟩
  · exact exec_readResults h (readResults_refused hn)
  · exact exec_readResults h (readResults_taken h1 h4)
  · exact exec_getStatus h
  · rintro rfl
    exact exec_getCounters_reads h
  · rintro rfl
    exact exec_getCounters_clears h
  · exact exec_getCounters_refused h hn
  · exact exec_clearEvents h

end Sys2Proof.Machine
end

section
/-! PROOFS. The bounds of queues, counters, parameters and consecutive counts through the sleeper cycle (10 R175, 03 R60,
04 R77, 09 R153): a counter is raised by saturation alone, and a consecutive count grows up to its limit alone. -/

namespace Sys2Proof.Machine

/-- Each bound that holds of `a` holds of `s`. -/
structure State.KeepsBounds (a s : State) : Prop where
  link : a.linkLaw → s.linkLaw
  counters : a.counterLaw → s.counterLaw
  params : a.paramLaw → s.paramLaw
  counts : a.countLaw → s.countLaw

/-- What the bounds are about. -/
def State.bounded (s : State) : Link × Counters × Params × Axes Nat × Nat × Nat :=
  (s.link, s.counters, s.params, s.supervisor.count, s.seq.missCount, s.seq.degradedCount)

/-! ## The counters (10 R175) -/

theorem Counters.mem_toList_iff {c : Counters} {n : Nat} : n ∈ c.toList ↔ ∃ k, c.get k = n := by
  constructor
  · simp only [Counters.toList, List.mem_cons, List.not_mem_nil, or_false]
    rintro (h | h | h | h | h | h | h | h | h | h | h | h | h | h | h | h | h)
    exacts [⟨.framesAccepted, h.symm⟩, ⟨.crcErrors, h.symm⟩, ⟨.lengthErrors, h.symm⟩, ⟨.gapErrors, h.symm⟩,
      ⟨.framingErrors, h.symm⟩, ⟨.queueFullRefusals, h.symm⟩, ⟨.reportsSuppressed, h.symm⟩, ⟨.sleepersTamped, h.symm⟩,
      ⟨.sleepersNotTamped, h.symm⟩, ⟨.sleepersSkipped, h.symm⟩, ⟨.sleepersAborted, h.symm⟩,
      ⟨.measureDegraded, h.symm⟩, ⟨.detectionsMissed, h.symm⟩, ⟨.detectionsSpurious, h.symm⟩,
      ⟨.followingFaults, h.symm⟩, ⟨.correctionsLimited, h.symm⟩, ⟨.headsStruck, h.symm⟩]
  · rintro ⟨k, rfl⟩
    cases k <;> simp [Counters.toList, Counters.get]

theorem State.counterLaw_iff {s : State} : s.counterLaw ↔ ∀ k, s.counters.get k ≤ 65535 := by
  simp [State.counterLaw, Counters.mem_toList_iff, counterMax]

/-- A counter saturates at its bound. -/
theorem bump_counterLaw {s : State} (k : Counter) (h : s.counterLaw) : (s.bump k).counterLaw := by
  rw [State.counterLaw_iff] at h ⊢
  intro j
  rw [State.bump_eq, State.setCounters_counters, Counters.get_bump]
  split
  · exact Nat.min_le_left ..
  · exact h j

section Bounds

variable {a s t : State}

/-! ## What keeps every bound -/

theorem State.KeepsBounds.refl (a : State) : a.KeepsBounds a := ⟨id, id, id, id⟩

/-- A change of none of the bounded quantities. -/
theorem State.KeepsBounds.of_same (h : a.KeepsBounds s) (hb : t.bounded = s.bounded) : a.KeepsBounds t := by
  simp only [State.bounded, Prod.mk.injEq] at hb
  obtain ⟨hlink, hcounters, hparams, hcount, hmiss, hdegraded⟩ := hb
  exact ⟨fun hl => by rw [State.linkLaw, hlink]; exact h.link hl,
    fun hl => by rw [State.counterLaw, hcounters]; exact h.counters hl,
    fun hl => by rw [State.paramLaw, hparams]; exact h.params hl,
    fun hl => by rw [State.countLaw, hmiss, hdegraded, hcount]; exact h.counts hl⟩

theorem State.KeepsBounds.bump (h : a.KeepsBounds s) (k : Counter) : a.KeepsBounds (s.bump k) :=
  ⟨h.link, fun hl => bump_counterLaw k (h.counters hl), h.params, h.counts⟩

/-- The consecutive counts of the run kept below their limit. -/
theorem State.KeepsBounds.modSeq (h : a.KeepsBounds s) {f : Sequencer → Sequencer}
    (hmiss : s.seq.missCount ≤ 3 → (f s.seq).missCount ≤ 3)
    (hdegraded : s.seq.degradedCount ≤ 3 → (f s.seq).degradedCount ≤ 3) : a.KeepsBounds (s.modSeq f) where
  link := h.link
  counters := h.counters
  params := h.params
  counts hl := by
    obtain ⟨hm, hd, hc⟩ := h.counts hl
    exact ⟨hmiss hm, hdegraded hd, hc⟩

theorem enterHold_bounds (r : HoldReason) (h : a.KeepsBounds s) : a.KeepsBounds (enterHold r s) := h.of_same rfl

theorem enterState_bounds (st : SeqState) (h : a.KeepsBounds s) : a.KeepsBounds (enterState st s) := h.of_same rfl

/-! ## The run, the unit and the end of an event -/

theorem advanceRun_bounds (h : a.KeepsBounds s) : a.KeepsBounds (advanceRun s) := by
  unfold advanceRun
  split <;> exact h.of_same rfl

theorem continueRun_bounds (h : a.KeepsBounds s) : a.KeepsBounds (continueRun s) := by
  unfold continueRun
  split
  · exact h.of_same rfl
  · split
    · exact h.of_same rfl
    · exact advanceRun_bounds h

theorem afterRecording_bounds (h : a.KeepsBounds s) : a.KeepsBounds (afterRecording s) :=
  continueRun_bounds (h.of_same rfl)

theorem reportOpen_bounds (h : a.KeepsBounds s) : a.KeepsBounds (reportOpen s) := by
  unfold reportOpen
  split
  · exact h.of_same (by simp [State.bounded])
  · split
    · split
      · exact h.of_same (by simp [State.bounded])
      · exact continueRun_bounds h
    · exact h

theorem releaseUnit_bounds (h : a.KeepsBounds s) : a.KeepsBounds (releaseUnit s) := by
  have ht : a.KeepsBounds (endLive (s.modLining fun u => u.release s.inputs s.trackSensed)) :=
    h.of_same (by simp [State.bounded])
  unfold releaseUnit
  dsimp only
  split
  · exact reportOpen_bounds ht
  · exact ht

theorem clampOrder_bounds (c : Context) (h : a.KeepsBounds s) : a.KeepsBounds (clampOrder c s) := by
  unfold clampOrder
  dsimp only
  split
  · exact h.of_same (by simp [State.bounded])
  · exact releaseUnit_bounds (h.of_same rfl)
  all_goals exact h.of_same rfl

theorem enterMeasuring_bounds (c : Context) (h : a.KeepsBounds s) : a.KeepsBounds (enterMeasuring c s) :=
  (clampOrder_bounds c (enterState_bounds .measuring h)).of_same (by simp [State.bounded, enterMeasuring])

theorem beginTamping_bounds (h : a.KeepsBounds s) : a.KeepsBounds (beginTamping s) := by
  unfold beginTamping
  split
  · exact h
  · split
    · exact (enterState_bounds .tamping h).of_same (by simp [State.bounded])
    · exact h

theorem endTamping_bounds (h : a.KeepsBounds s) : a.KeepsBounds (endTamping s) := by
  unfold endTamping
  split
  · exact h
  · split
    · exact releaseUnit_bounds (enterState_bounds _ h)
    · exact h

theorem releaseAfterHeads_bounds (h : a.KeepsBounds s) : a.KeepsBounds (releaseAfterHeads s) := by
  unfold releaseAfterHeads
  split
  · exact releaseUnit_bounds h
  · exact h

theorem releaseFrozen_bounds (h : a.KeepsBounds s) : a.KeepsBounds (releaseFrozen s) := by
  unfold releaseFrozen
  split
  · exact releaseUnit_bounds h
  · exact h

theorem settle_bounds (h : a.KeepsBounds s) : a.KeepsBounds (settle s) :=
  (releaseFrozen_bounds (releaseAfterHeads_bounds (endTamping_bounds (beginTamping_bounds h)))).of_same
    (by simp [State.bounded, settle])

/-! ## A recording and an admission (06 R100, R101, R106) -/

theorem noteLimited_bounds (m : BitVec 16) (h : a.KeepsBounds s) : a.KeepsBounds (noteLimited m s) := by
  unfold noteLimited
  split
  · exact h
  · exact (h.bump .correctionsLimited).of_same rfl

/-- A recording raises the counter of its outcome and that of limited corrections. -/
theorem recordSleeper_bounds (o : SleeperOutcome) (h : a.KeepsBounds s) : a.KeepsBounds (recordSleeper o s) := by
  unfold recordSleeper
  split
  · exact h
  · next c _ =>
    have hnoted : a.KeepsBounds (noteResults ((s.setResults (s.results ++ [formResult c s.heads o])).setComputer
        (s.computer.commit o c.correction))) := h.of_same (by simp [State.bounded])
    exact ((noteLimited_bounds c.flags hnoted).bump o.counter).of_same (by simp [State.bounded, Sequencer.recorded])

theorem workContext_bounds (h : a.KeepsBounds s) : a.KeepsBounds (workContext s) := by
  have hrec : ∀ o, a.KeepsBounds (afterRecording (recordSleeper o s)) := fun o =>
    afterRecording_bounds (recordSleeper_bounds o h)
  unfold workContext
  split
  · exact h
  · split
    · exact hrec _
    · split
      · exact hrec _
      · split
        · exact enterHold_bounds _ h
        · exact enterMeasuring_bounds _ h

theorem admitSleeper_bounds (h : a.KeepsBounds s) : a.KeepsBounds (admitSleeper s) := by
  have hhold : ∀ r, a.KeepsBounds (enterHold r s) := fun r => enterHold_bounds r h
  unfold admitSleeper
  split
  · exact hhold _
  · split
    · exact hhold _
    · split
      · exact hhold _
      · split
        · exact hhold _
        · split
          · exact workContext_bounds (h.of_same (by simp [State.bounded, takeContext_seq]))
          · exact h

/-! ## Positioning (03 R60, log entry 28) -/

theorem missCountAfter_le {n : Nat} (h : n ≤ 3) (o : DetectionOutcome) : missCountAfter n o ≤ 3 := by
  cases o with
  | matched => exact Nat.zero_le 3
  | missed => exact Nat.min_le_left ..
  | exempt => exact h

theorem positioned_bounds (h : a.KeepsBounds s) : a.KeepsBounds (positioned s) := by
  unfold positioned
  dsimp only
  refine admitSleeper_bounds (State.KeepsBounds.modSeq (s := State.modMove _ _) ?_ (missCountAfter_le · _) id)
  split
  · exact (h.bump .detectionsMissed).of_same rfl
  · exact h.of_same rfl

theorem takeHalted_bounds (h : a.KeepsBounds s) : a.KeepsBounds (takeHalted s) := by
  have ht : a.KeepsBounds (s.modMove fun m => { m with timer := none }) := h.of_same rfl
  unfold takeHalted
  dsimp only
  split
  · split
    · exact positioned_bounds ht
    · exact h.of_same rfl
  · split
    · exact positioned_bounds ht
    · exact h.of_same rfl
  all_goals exact h

theorem expireIndexTimer_bounds (h : a.KeepsBounds s) : a.KeepsBounds (expireIndexTimer s) := by
  unfold expireIndexTimer
  split
  · exact h.of_same rfl
  · exact h

theorem takeDetection_bounds (h : a.KeepsBounds s) : a.KeepsBounds (takeDetection s) := by
  unfold takeDetection
  split
  · split
    · exact h
    · dsimp only
      split
      · exact h.bump _
      · exact h.of_same rfl
  · exact h

/-! ## The windows and the approach (04 R77, log entry 28) -/

theorem judgeDegraded_bounds (d : Bool) (h : a.KeepsBounds s) : a.KeepsBounds (judgeDegraded d s) := by
  unfold judgeDegraded
  split
  · exact (h.bump .measureDegraded).modSeq id fun _ => Nat.min_le_left ..
  · exact h.modSeq id fun _ => Nat.zero_le 3

theorem closePre_bounds (w : Window) (c : Context) (h : a.KeepsBounds s) : a.KeepsBounds (closePre w c s) :=
  (judgeDegraded_bounds (degradedBy w.inUse w.settled) h).of_same (by simp [State.bounded, closePre, enterState])

theorem closeFinal_bounds (w : Window) (c : Context) (h : a.KeepsBounds s) : a.KeepsBounds (closeFinal w c s) := by
  unfold closeFinal
  exact afterRecording_bounds (recordSleeper_bounds _ (h.of_same (by simp [State.bounded])))

theorem closeWindow_bounds (w : Window) (h : a.KeepsBounds s) : a.KeepsBounds (closeWindow w s) := by
  unfold closeWindow
  split
  · exact h.of_same rfl
  · split
    · exact closePre_bounds _ _ h
    · exact closeFinal_bounds _ _ h

theorem enterHolding_bounds (last : Channels (Option Int)) (h : a.KeepsBounds s) : a.KeepsBounds (enterHolding last s) :=
  h.of_same rfl

theorem takeLive_bounds (l : Live) (samples : Channels (Option Int)) (h : a.KeepsBounds s) :
    a.KeepsBounds (takeLive l samples s) := by
  unfold takeLive
  dsimp only
  split
  · split
    · exact h.of_same rfl
    · exact enterHolding_bounds _ (h.of_same rfl)
  · exact h.of_same rfl

theorem takeMeasuringFrame_bounds (samples : Channels (Option Int)) (h : a.KeepsBounds s) :
    a.KeepsBounds (takeMeasuringFrame samples s) := by
  unfold takeMeasuringFrame
  split
  · exact h
  · split
    · exact closeWindow_bounds _ h
    · exact h.of_same rfl
  · exact takeLive_bounds _ _ h

theorem expireSilence_bounds (h : a.KeepsBounds s) : a.KeepsBounds (expireSilence s) := by
  unfold expireSilence
  split
  · exact h
  · exact closeWindow_bounds _ h
  · exact h

theorem expireCorrection_bounds (h : a.KeepsBounds s) : a.KeepsBounds (expireCorrection s) := by
  unfold expireCorrection
  split
  · exact enterHolding_bounds _ (h.of_same rfl)
  · exact h

/-! ## The clamps -/

theorem clampFailure_bounds (h : a.KeepsBounds s) : a.KeepsBounds (clampFailure s) := by
  have hout : a.KeepsBounds (abortUnit (endMeasuring s).headsGoOut) := h.of_same (by simp [State.bounded])
  unfold clampFailure
  split
  · exact (recordSleeper_bounds .aborted hout).of_same (by simp [State.bounded, enterHold])
  · exact h

theorem holdForRetry_bounds (h : a.KeepsBounds s) : a.KeepsBounds (holdForRetry s) := h.of_same rfl

theorem releaseFailure_bounds (h : a.KeepsBounds s) : a.KeepsBounds (releaseFailure s) := by
  unfold releaseFailure
  split
  · exact clampFailure_bounds h
  · split
    · have hflagged : a.KeepsBounds (s.raiseFlags CorrectionFlag.releaseFault.mask) := h.of_same rfl
      split
      · exact holdForRetry_bounds ((recordSleeper_bounds _ hflagged).modSeq id id)
      · exact holdForRetry_bounds h
    · exact h

theorem expireClampTimer_bounds (h : a.KeepsBounds s) : a.KeepsBounds (expireClampTimer s) := by
  have ht : a.KeepsBounds (s.modLining fun u => { u with clampTimer := none }) := h.of_same rfl
  unfold expireClampTimer
  split
  · dsimp only
    split
    · exact clampFailure_bounds ht
    · exact releaseFailure_bounds ht
    all_goals exact ht
  · exact h

theorem takeClampLevels_bounds (h : a.KeepsBounds s) : a.KeepsBounds (takeClampLevels s) := by
  unfold takeClampLevels
  split
  · exact h.of_same (by simp [State.bounded])
  · split
    · exact reportOpen_bounds (h.of_same rfl)
    · exact h

/-! ## The heads -/

theorem stepHead_bounds (f : HeadEnv → HeadRecord → HeadStep) (i : Fin 4) (h : a.KeepsBounds s) :
    a.KeepsBounds (s.stepHead f i) := h.of_same (by simp [State.bounded])

theorem takeRaised_bounds (i : Fin 4) (h : a.KeepsBounds s) : a.KeepsBounds (takeRaised i s) := by
  unfold takeRaised
  dsimp only
  refine settle_bounds ?_
  split <;> exact h.of_same (by simp [State.bounded])

theorem expireTraverse_bounds (i : Fin 4) (h : a.KeepsBounds s) : a.KeepsBounds (expireTraverse i s) := by
  unfold expireTraverse
  split
  · exact settle_bounds (stepHead_bounds _ i h)
  · exact h

theorem expireTilt_bounds (i : Fin 4) (h : a.KeepsBounds s) : a.KeepsBounds (expireTilt i s) := by
  unfold expireTilt
  split
  · exact settle_bounds (stepHead_bounds _ i h)
  · exact h

theorem expirePenetration_bounds (i : Fin 4) (h : a.KeepsBounds s) : a.KeepsBounds (expirePenetration i s) := by
  unfold expirePenetration
  split
  · have hstruck : a.KeepsBounds (s.setHead i (s.heads.get i).strike) := h.of_same rfl
    exact hstruck.bump .headsStruck
  · exact h

theorem expireSqueeze_bounds (i : Fin 4) (h : a.KeepsBounds s) : a.KeepsBounds (expireSqueeze i s) := by
  unfold expireSqueeze
  split
  · exact h.of_same rfl
  · exact h

/-! ## Stops and axis frames (09 R153, R154) -/

theorem enterFaultStop_bounds (h : a.KeepsBounds s) : a.KeepsBounds (enterFaultStop s) := by
  have hout : a.KeepsBounds (s.modChainage ChainageUnit.cancelTravel).headsGoOut := h.of_same (by simp [State.bounded])
  exact (recordSleeper_bounds .aborted hout).of_same (by simp [State.bounded, enterFaultStop, enterState])

theorem raiseStop_bounds (c : StopCause) (h : a.KeepsBounds s) : a.KeepsBounds (raiseStop c s) := by
  have ht : a.KeepsBounds ((s.setStop { s.stop with first := some c, further := 0 }).setLatch .faultStop) :=
    h.of_same rfl
  unfold raiseStop
  split
  · dsimp only
    split
    · exact enterFaultStop_bounds ht
    · exact ht
  · exact h.of_same rfl

theorem testAxis_bounds (x : Axis) (h : a.KeepsBounds s) : a.KeepsBounds (testAxis s x) := by
  unfold testAxis
  split
  · have hlatched : a.KeepsBounds (s.setSupervisor { s.supervisor with latches := s.supervisor.latches ||| x.bit }) :=
      h.of_same rfl
    exact raiseStop_bounds _ (hlatched.bump .followingFaults)
  · exact h

theorem testAxes_bounds (l : List Axis) (h : a.KeepsBounds s) : a.KeepsBounds (l.foldl testAxis s) := by
  induction l generalizing s with
  | nil => exact h
  | cons x l ih => exact ih (testAxis_bounds x h)

/-- The consecutive count of an axis stops at 20. -/
theorem countsAfter_le (s : State) (f : AxisFrame) (x : Axis) : axesGet (s.countsAfter f) x ≤ 20 := by
  rw [State.countsAfter, axesGet_axesOf, countAfter]
  split
  · exact Nat.min_le_left ..
  · exact Nat.zero_le 20

theorem supervise_bounds (f : AxisFrame) (h : a.KeepsBounds s) : a.KeepsBounds (supervise f s) := by
  refine testAxes_bounds Axis.all ⟨h.link, h.counters, h.params, fun hl => ?_⟩
  obtain ⟨hmiss, hdegraded, -⟩ := h.counts hl
  exact ⟨hmiss, hdegraded, countsAfter_le s f⟩

theorem takeAxisFrame_bounds (f : AxisFrame) (h : a.KeepsBounds s) : a.KeepsBounds (takeAxisFrame f s) := by
  have hlive : a.KeepsBounds (s.senseFrame f) := h.of_same rfl
  unfold takeAxisFrame
  dsimp only
  split
  · exact settle_bounds (hlive.of_same (by simp [State.bounded]))
  · exact settle_bounds ((supervise_bounds f hlive).of_same (by simp [State.bounded]))

theorem expireAxisLine_bounds (h : a.KeepsBounds s) : a.KeepsBounds (expireAxisLine s) := by
  unfold expireAxisLine
  split
  · exact h
  · exact raiseStop_bounds _ (h.of_same rfl)

theorem takeChain_bounds (closed : Bool) (h : a.KeepsBounds s) : a.KeepsBounds (takeChain closed s) := by
  unfold takeChain
  dsimp only
  split
  · exact raiseStop_bounds _ (h.of_same rfl)
  · exact h.of_same rfl

theorem expireAttention_bounds (h : a.KeepsBounds s) : a.KeepsBounds (expireAttention s) := by
  unfold expireAttention
  split
  · exact h
  · exact h.of_same rfl
  · exact raiseStop_bounds _ h

end Bounds

end Sys2Proof.Machine
end

section
/-! PROOFS. The bounds kept by the requests, by the link, by every command and so by every step (11 R178, R182 to
R184). -/

namespace Sys2Proof.Machine

/-! ## Parameters (11 R183, R184) -/

theorem Params.get_set_self (p : Params) (q : ParamId) (v : Int) : (p.set q v).get q = v := by cases q <;> rfl

theorem Params.get_set_of_ne (p : Params) {q r : ParamId} (v : Int) (h : r ≠ q) : (p.set q v).get r = p.get r := by
  cases q <;> cases r <;> first | rfl | exact absurd rfl h

theorem ParamId.least_le_greatest (p : ParamId) : p.least ≤ p.greatest := by cases p <;> decide

theorem clampTo_eq {lo hi : Int} (h : lo ≤ hi) (v : Int) : clampTo lo hi v = max lo (min hi v) := by
  unfold clampTo
  split
  · omega
  · split <;> omega

theorem ParamId.default_inRange (p : ParamId) : p.least ≤ p.default ∧ p.default ≤ p.greatest := by cases p <;> decide

theorem axesGet_all16 {α : Type} (x : Axis) (v : α) : axesGet (.all16 v) x = v := by
  cases x with
  | headV i => exact Quad.get_all4 v i
  | sqz i => exact Quad.get_all4 v i
  | trav i => exact Quad.get_all4 v i
  | track t => cases t <;> rfl

theorem defaults_get (p : ParamId) : Params.defaults.get p = p.default := by cases p <;> rfl

section BoundsRequests

variable {a s t : State}

theorem storeParam_bounds {p : ParamId} {v : Int} (hlo : p.least ≤ v) (hhi : v ≤ p.greatest) (h : a.KeepsBounds s) :
    a.KeepsBounds (storeParam p v s) := by
  have hset : a.KeepsBounds (s.setParams (s.params.set p v)) := by
    refine ⟨h.link, h.counters, fun hl q => ?_, h.counts⟩
    by_cases hq : q = p
    · subst hq
      simpa [Params.get_set_self] using ⟨hlo, hhi⟩
    · simpa [Params.get_set_of_ne _ _ hq] using h.params hl q
  unfold storeParam
  dsimp only
  split
  · exact hset.of_same (by simp [State.bounded])
  · exact hset

theorem setParam_bounds (id : Byte) (value : BitVec 32) (h : a.KeepsBounds s) :
    a.KeepsBounds (setParam id value s).1 := by
  unfold setParam setChord setClamped
  dsimp only
  split
  · exact h
  · next p _ =>
    split
    · split
      · exact h
      · split
        · exact h
        · exact storeParam_bounds (by omega) (by omega) h
    · have hrange := p.least_le_greatest
      rw [clampTo_eq hrange]
      exact storeParam_bounds (by omega) (by omega) h

/-! ## The requests of the run -/

theorem startRun_bounds (page index : Byte) (h : a.KeepsBounds s) : a.KeepsBounds (startRun page index s).1 := by
  have hbegun : ∀ w, a.KeepsBounds (settle (beginRun w s)) := fun w => by
    have hcleared : a.KeepsBounds (s.modSeq fun q => { q with missCount := 0, degradedCount := 0 }) :=
      h.modSeq (fun _ => Nat.zero_le 3) fun _ => Nat.zero_le 3
    exact settle_bounds (hcleared.of_same rfl)
  unfold startRun
  repeat' split
  case isFalse => exact hbegun _
  all_goals exact h

theorem pauseRun_bounds (h : a.KeepsBounds s) : a.KeepsBounds (pauseRun s).1 := by
  unfold pauseRun
  split <;> exact h.of_same rfl

theorem readmit_bounds (h : a.KeepsBounds s) : a.KeepsBounds (readmit s) := by
  unfold readmit
  dsimp only
  split
  · exact admitSleeper_bounds (h.of_same rfl)
  · exact h.of_same rfl

theorem retryRelease_bounds (h : a.KeepsBounds s) : a.KeepsBounds (retryRelease s) := releaseUnit_bounds (h.of_same rfl)

theorem resumeAdvance_bounds (h : a.KeepsBounds s) : a.KeepsBounds (resumeAdvance s) := advanceRun_bounds (h.of_same rfl)

theorem takeAction_bounds (x : Option ResumeAction) (h : a.KeepsBounds s) : a.KeepsBounds (takeAction x s) := by
  unfold takeAction
  split
  · exact readmit_bounds h
  · exact retryRelease_bounds h
  · exact resumeAdvance_bounds h
  · exact readmit_bounds h

theorem resumeHold_bounds {r : HoldReason} (h : a.KeepsBounds s) (ht : resumeHold r s = some t) : a.KeepsBounds t := by
  cases r with
  | planExhausted => cases ht
  | resultFull => cases ht
  | confirmWait => cases ht
  | attentionLapse => cases ht; exact readmit_bounds h
  | detectionLost => cases ht; exact readmit_bounds (h.modSeq (fun _ => Nat.zero_le 3) id)
  | measureLost => cases ht; exact readmit_bounds (h.modSeq id fun _ => Nat.zero_le 3)
  | aborted => cases ht; exact readmit_bounds h
  | positionFault => cases ht; exact readmit_bounds h
  | clampFault => cases ht; exact takeAction_bounds _ h
  | stopCleared => cases ht; exact takeAction_bounds _ h

theorem resumed_bounds (h : a.KeepsBounds s) (ht : resumed s = some t) : a.KeepsBounds t := by
  have hactive : a.KeepsBounds (activity s) := h.of_same (by simp [State.bounded])
  unfold resumed at ht
  split at ht
  · cases ht; exact resumeAdvance_bounds hactive
  · exact resumeHold_bounds hactive ht
  · cases ht

theorem resumeRun_bounds (h : a.KeepsBounds s) : a.KeepsBounds (resumeRun s).1 := by
  unfold resumeRun
  split
  · next ht => exact settle_bounds (resumed_bounds h ht)
  · exact h

theorem confirmSleeper_bounds (h : a.KeepsBounds s) : a.KeepsBounds (confirmSleeper s).1 := by
  unfold confirmSleeper
  split
  · exact settle_bounds (enterMeasuring_bounds _ h)
  · exact h

theorem skipSleeper_bounds (h : a.KeepsBounds s) : a.KeepsBounds (skipSleeper s).1 := by
  have hpends : a.KeepsBounds (pendSkip s).1 := h.of_same rfl
  unfold skipSleeper
  split
  case h_1 => exact hpends
  case h_2 => exact hpends
  case h_3 =>
    split
    · exact settle_bounds (afterRecording_bounds (recordSleeper_bounds _ h))
    · exact hpends
  all_goals exact h

theorem abortFlight_bounds (h : a.KeepsBounds s) : a.KeepsBounds (abortFlight s) := by
  have hout : a.KeepsBounds (abortUnit (endMeasuring s).headsGoOut) := h.of_same (by simp [State.bounded])
  exact enterHold_bounds .aborted (recordSleeper_bounds .aborted hout)

theorem abortSleeper_bounds (h : a.KeepsBounds s) : a.KeepsBounds (abortSleeper s).1 := by
  unfold abortSleeper
  split
  case h_1 => exact settle_bounds (abortFlight_bounds h)
  case h_2 => exact settle_bounds (abortFlight_bounds h)
  case h_3 => exact settle_bounds (abortFlight_bounds h)
  all_goals exact h

theorem retampSleeper_bounds (h : a.KeepsBounds s) : a.KeepsBounds (retampSleeper s).1 := by
  unfold retampSleeper
  split
  · exact settle_bounds (admitSleeper_bounds (h.of_same rfl))
  · exact h

theorem stopRun_bounds (h : a.KeepsBounds s) : a.KeepsBounds (stopRun s).1 := by
  have hout : a.KeepsBounds s.headsGoOut := h.of_same (by simp [State.bounded])
  unfold stopRun
  split
  · exact h
  · exact settle_bounds ((recordSleeper_bounds .aborted hout).of_same (by simp [State.bounded, endRunNow, enterState]))

/-- CLEAR_STOP sets every consecutive count of the axes to 0 (09 R160). -/
theorem clearStop_bounds (h : a.KeepsBounds s) : a.KeepsBounds (clearStop s).1 := by
  have hcleared : a.KeepsBounds
      ((s.setStop { s.stop with first := none, further := 0 }).setSupervisor s.supervisor.cleared) := by
    refine ⟨h.link, h.counters, h.params, fun hl => ?_⟩
    obtain ⟨hmiss, hdegraded, -⟩ := h.counts hl
    exact ⟨hmiss, hdegraded, fun x => (axesGet_all16 x 0).trans_le (Nat.zero_le 20)⟩
  unfold clearStop
  split
  · exact h
  · split
    · exact h
    · split
      · dsimp only
        split
        · exact enterHold_bounds _ hcleared
        · exact hcleared
      · exact h

/-! ## The other requests -/

theorem retryCrossing_bounds (w : Pos) (h : a.KeepsBounds s) : a.KeepsBounds (retryCrossing w s) := by
  unfold retryCrossing
  split <;> exact h.of_same rfl

theorem closePage_bounds (page count endByte : Byte) (h : a.KeepsBounds s) :
    a.KeepsBounds (closePage page count endByte s).1 := by
  have ht : a.KeepsBounds (s.setPlan (s.plan.closePage page count endByte).1) := h.of_same rfl
  unfold closePage
  dsimp only
  split
  · dsimp only
    split
    · exact settle_bounds (retryCrossing_bounds _ ht)
    · exact ht
  · exact ht

theorem releaseResultsRequest_bounds (n : Byte) (h : a.KeepsBounds s) : a.KeepsBounds (releaseResultsRequest n s).1 := by
  have ht : a.KeepsBounds (releaseResults n s).1 := by
    obtain ⟨k, hk⟩ := releaseResults_drops n s
    rw [hk]
    exact h.of_same rfl
  unfold releaseResultsRequest
  dsimp only
  split
  · exact settle_bounds (admitSleeper_bounds ht)
  · exact ht

theorem setChainageTo_bounds (value : BitVec 32) (h : a.KeepsBounds s) : a.KeepsBounds (setChainageTo value s).1 := by
  unfold setChainageTo
  split
  · exact h
  · split
    · exact h
    · exact h.of_same rfl

theorem zero_counterLaw (s : State) : (s.setCounters .zero).counterLaw :=
  State.counterLaw_iff.mpr fun k => by cases k <;> exact Nat.zero_le _

theorem getCounters_bounds (clear : Byte) (h : a.KeepsBounds s) : a.KeepsBounds (getCounters clear s).1 := by
  unfold getCounters
  split
  · exact h
  · dsimp only
    split
    · exact ⟨h.link, fun _ => zero_counterLaw s, h.params, h.counts⟩
    · exact h

/-- The owner of a request keeps the bounds. -/
theorem runCall_bounds (c : Call) (h : a.KeepsBounds s) : a.KeepsBounds (runCall c s).1 := by
  cases c with
  | setParam id value => exact setParam_bounds id value h
  | closePage page count endByte => exact closePage_bounds page count endByte h
  | setChainage value => exact setChainageTo_bounds value h
  | startRun page index => exact startRun_bounds page index h
  | pause => exact pauseRun_bounds h
  | resume => exact resumeRun_bounds h
  | confirm => exact confirmSleeper_bounds h
  | skipSleeper => exact skipSleeper_bounds h
  | abortSleeper => exact abortSleeper_bounds h
  | retamp => exact retampSleeper_bounds h
  | stopRun => exact stopRun_bounds h
  | clearStop => exact clearStop_bounds h
  | releaseResults n => exact releaseResultsRequest_bounds n h
  | getCounters clear => exact getCounters_bounds clear h
  | _ => exact h.of_same rfl

/-! ## The link (11 R178, R182) -/

/-- A change of the link that keeps both queues within their places. -/
theorem State.KeepsBounds.setLink (h : a.KeepsBounds s) {l : Link}
    (hrequests : s.link.requests.length ≤ 4 → l.requests.length ≤ 4)
    (htx : s.link.tx.length ≤ 8 → l.tx.length ≤ 8) : a.KeepsBounds (s.setLink l) where
  link hl := (h.link hl).imp hrequests htx
  counters := h.counters
  params := h.params
  counts := h.counts

theorem length_snoc_le {α : Type} {l : List α} {x : α} {n : Nat} (h : l.length < n) : (l ++ [x]).length ≤ n := by
  simpa using h

/-- A report is placed where five places are free, and suppressed elsewhere (10 R172). -/
theorem reportOne_bounds (snapshot : List Byte) (due : Byte) (n : Nat) (h : a.KeepsBounds s) :
    a.KeepsBounds (reportOne snapshot due s n) := by
  cases hn : due.getLsbD n with
  | false => rw [reportOne_idle hn]; exact h
  | true =>
    by_cases hfree : s.link.tx.length < 4
    · rw [reportOne_sends hn hfree]
      exact h.setLink id fun _ => length_snoc_le (by omega)
    · rw [reportOne_suppresses hn hfree]
      exact h.bump _

theorem report_bounds (before : State) (h : a.KeepsBounds s) : a.KeepsBounds (report before s) := by
  have hfold : ∀ (snapshot : List Byte) (due : Byte) (l : List Nat) {x : State}, a.KeepsBounds x →
      a.KeepsBounds (l.foldl (reportOne snapshot due) x) := fun snapshot due l => by
    induction l with
    | nil => exact id
    | cons n l ih => exact fun hx => ih (reportOne_bounds snapshot due n hx)
  exact hfold _ _ _ h

/-- A request is executed where a place is free for its reply (11 R179). -/
theorem execute_bounds (r : Request) (hfree : s.link.tx.length < 8) (h : a.KeepsBounds s) :
    a.KeepsBounds (execute r s) := by
  have hanswered : a.KeepsBounds ((runCall r.call s).1.modLink fun l => l.afterRequest r (runCall r.call s).2) := by
    refine (runCall_bounds r.call h).setLink ?_ ?_
    · rw [runCall_link]
      unfold Link.afterRequest Link.enterRestart Link.answer
      split
      · exact fun _ => Nat.zero_le 4
      · intro hl
        simp only [List.length_drop]
        omega
    · rw [runCall_link]
      unfold Link.afterRequest Link.enterRestart Link.answer
      split <;> exact fun _ => length_snoc_le hfree
  exact report_bounds s (hanswered.of_same (by simp [State.bounded]))

theorem executeOldest_bounds (h : a.KeepsBounds s) : a.KeepsBounds (executeOldest s) := by
  unfold executeOldest
  split
  · exact h
  · split
    · exact execute_bounds _ ‹_› h
    · exact h

theorem acceptRequest_bounds (r : Request) (h : a.KeepsBounds s) : a.KeepsBounds (acceptRequest r s) := by
  unfold acceptRequest requestPlaces transmitPlaces
  split
  · exact h
  · split
    · exact h.setLink (fun _ => length_snoc_le ‹_›) id
    · have hcounted : a.KeepsBounds (s.bump .queueFullRefusals) := h.bump _
      dsimp only
      split
      · next hfree => exact hcounted.setLink id fun _ => length_snoc_le hfree
      · exact hcounted

theorem request_bounds (r : Request) (h : a.KeepsBounds s) : a.KeepsBounds (request r s) := by
  unfold request
  split
  · exact h
  · split
    · exact executeOldest_bounds h
    · split
      · exact executeOldest_bounds (acceptRequest_bounds r h)
      · exact acceptRequest_bounds r h

theorem dropFrame_bounds (k : Counter) (h : a.KeepsBounds s) : a.KeepsBounds (dropFrame k s) := by
  have hhunt : a.KeepsBounds (s.modLink fun l => { l with rx := .hunt }) := h.setLink id id
  exact (hhunt.bump k).of_same rfl

theorem takeFrame_bounds (n : Nat) (bytes : List Byte) (h : a.KeepsBounds s) : a.KeepsBounds (takeFrame n bytes s) := by
  have hhunt : a.KeepsBounds (s.modLink fun l => { l with rx := .hunt }) := h.setLink id id
  unfold takeFrame
  split
  · split
    · split
      · exact acceptRequest_bounds _ (hhunt.bump _)
      · exact dropFrame_bounds _ h
    · exact dropFrame_bounds _ h
  · exact dropFrame_bounds _ h

theorem collect_bounds (bytes : List Byte) (h : a.KeepsBounds s) : a.KeepsBounds (collect bytes s) := by
  unfold collect
  split
  · exact h
  · split
    · exact dropFrame_bounds _ h
    · split
      · exact takeFrame_bounds _ _ h
      · exact h.setLink id id

theorem takeByte_bounds (b : RxByte) (h : a.KeepsBounds s) : a.KeepsBounds (takeByte b s) := by
  unfold takeByte
  split
  · split
    · exact h.setLink id id
    · exact h
  · split
    · exact collect_bounds _ h
    · exact dropFrame_bounds _ h

theorem expireGap_bounds (h : a.KeepsBounds s) : a.KeepsBounds (expireGap s) := by
  unfold expireGap
  split
  · exact h
  · exact dropFrame_bounds _ h

/-- A frame sent frees its place; the last of a restart empties the queues and clears the counts of the run (11 R182,
R185). -/
theorem takeSent_bounds (h : a.KeepsBounds s) : a.KeepsBounds (takeSent s) := by
  unfold takeSent
  split
  · exact h
  · next rest htx =>
    have hsent : s.link.tx.length ≤ 8 → rest.length ≤ 8 := fun hl => by
      rw [htx, List.length_cons] at hl
      omega
    split
    · exact h.setLink id hsent
    · split
      · exact ⟨fun _ => ⟨Nat.zero_le 4, Nat.zero_le 8⟩, h.counters, h.params, fun hl =>
          ⟨Nat.zero_le 3, Nat.zero_le 3, (h.counts hl).2.2⟩⟩
      · exact h.setLink id hsent

/-- Power-on clears the queues, the counters and the counts and puts every parameter at its default (11 R186). -/
theorem powerOn_bounds (a s : State) : a.KeepsBounds (powerOn s) where
  link _ := ⟨Nat.zero_le 4, Nat.zero_le 8⟩
  counters _ := zero_counterLaw s
  params _ p := (defaults_get p).symm ▸ p.default_inRange
  counts _ := ⟨Nat.zero_le 3, Nat.zero_le 3, fun x => (axesGet_all16 x 0).trans_le (Nat.zero_le 20)⟩

/-! ## Events -/

theorem closeEvent_bounds (before : State) (h : a.KeepsBounds s) : a.KeepsBounds (closeEvent before s) :=
  report_bounds before (h.of_same (by simp [State.bounded]))

theorem event_bounds {f : State → State} (h : a.KeepsBounds s) (hf : a.KeepsBounds (f s)) :
    a.KeepsBounds (event f s) := by
  unfold event
  split
  · exact h
  · exact closeEvent_bounds s hf

theorem levelEvent_bounds {g : Inputs → Inputs} {f : State → State} (h : a.KeepsBounds s) (hf : a.KeepsBounds (f s)) :
    a.KeepsBounds (levelEvent g f s) := by
  unfold levelEvent
  split
  · exact h.of_same rfl
  · exact closeEvent_bounds s hf

/-- Bytes received one after the other (log entry 3). -/
theorem bytes_bounds (bytes : List RxByte) (h : a.KeepsBounds s) :
    a.KeepsBounds (bytes.foldl (fun t b => event (takeByte b) t) s) := by
  induction bytes generalizing s with
  | nil => exact h
  | cons b rest ih => exact ih (event_bounds h (takeByte_bounds b h))

end BoundsRequests

/-! ## Every command and every step -/

theorem exec_bounds {c : Instr} {a s t : State} (h : exec c s = .next t) (hl : a.KeepsBounds s) : a.KeepsBounds t := by
  have hinputs : ∀ i, a.KeepsBounds (s.setInputs i) := fun i => hl.of_same rfl
  cases c with
  | loadRecords tag page first records =>
    simp only [exec, execLoadRecords] at h
    split at h
    · cases h; exact request_bounds _ hl
    · cases h
  | frameReceived bytes => cases h; exact bytes_bounds bytes hl
  | gapLimitExpiry => cases h; exact event_bounds hl (expireGap_bounds hl)
  | frameSent => cases h; exact event_bounds hl (takeSent_bounds hl)
  | powerOnReset => cases h; exact powerOn_bounds a s
  | measuringFrame bytes intact => cases h; exact event_bounds hl (settle_bounds (takeMeasuringFrame_bounds _ hl))
  | silenceLimitExpiry => cases h; exact event_bounds hl (settle_bounds (expireSilence_bounds hl))
  | axisFrame frame => cases h; exact event_bounds hl (takeAxisFrame_bounds frame hl)
  | axisLineSilenceExpiry => cases h; exact event_bounds hl (expireAxisLine_bounds hl)
  | safetyChainChange closed => cases h; exact levelEvent_bounds hl (takeChain_bounds closed hl)
  | operatorInputActive input =>
    cases h
    refine event_bounds hl ?_
    rw [activityFrom_eq]
    exact hl.of_same rfl
  | odometerCount forward => cases h; exact event_bounds hl (hl.of_same rfl)
  | detection => cases h; exact event_bounds hl (takeDetection_bounds hl)
  | halted => cases h; exact event_bounds hl (settle_bounds (takeHalted_bounds hl))
  | indexTimerExpiry => cases h; exact event_bounds hl (expireIndexTimer_bounds hl)
  | clampSensorReport clamp closed =>
    cases h; exact levelEvent_bounds hl (settle_bounds (takeClampLevels_bounds (hinputs _)))
  | clampTimerExpiry => cases h; exact event_bounds hl (settle_bounds (expireClampTimer_bounds hl))
  | correctionTimerExpiry => cases h; exact event_bounds hl (settle_bounds (expireCorrection_bounds hl))
  | tiltSensorReport head arm report =>
    cases h; exact levelEvent_bounds hl (settle_bounds (stepHead_bounds _ head (hinputs _)))
  | headRaisedSensorReport head raised => cases h; exact levelEvent_bounds hl (takeRaised_bounds head (hinputs _))
  | traverseTimerExpiry head => cases h; exact event_bounds hl (expireTraverse_bounds head hl)
  | tiltTimerExpiry head => cases h; exact event_bounds hl (expireTilt_bounds head hl)
  | penetrationTimerExpiry head => cases h; exact event_bounds hl (expirePenetration_bounds head hl)
  | squeezeTimerExpiry head => cases h; exact event_bounds hl (expireSqueeze_bounds head hl)
  | attentionTimerExpiry => cases h; exact event_bounds hl (expireAttention_bounds hl)
  | receivedByte byte => cases h; exact event_bounds hl (takeByte_bounds byte hl)
  | resetLineLow =>
    cases h
    exact ⟨fun _ => ⟨Nat.zero_le 4, Nat.zero_le 8⟩, hl.counters, hl.params, hl.counts⟩
  | _ => cases h; exact request_bounds _ hl

/-- Settles O52: a queue grows only where a place is free, a counter only by saturation, a parameter is stored only in
its range, and a consecutive count grows only up to its limit; whatever else a step does leaves them alone. -/
theorem stepKeepsBounds : Obligations.StepKeepsBounds := by
  intro s t h
  suffices ht : s.KeepsBounds t from ⟨ht.link, ht.counters, ht.params, ht.counts⟩
  have hs := State.KeepsBounds.refl s
  unfold step at h
  split at h
  · cases h
    unfold idle
    split
    · exact hs
    · exact executeOldest_bounds hs
  · exact exec_bounds h (hs.of_same rfl)

end Sys2Proof.Machine
end

section
/-! PROOFS. The transmit queue and both resets (11 R182, R185, R186): a frame sent, the warm restart that ends a restart,
power-on, and the laws right after it. -/

namespace Sys2Proof.Machine

section Resets

variable {s : State}

/-! ## A frame sent (11 R182) -/

theorem takeSent_idle (h : s.link.tx = []) : takeSent s = s := by rw [takeSent, h]

theorem takeSent_plain {f : TxFrame} {rest : List TxFrame} (h : s.link.tx = f :: rest) (hr : s.link.restart = none) :
    takeSent s = s.setLink { s.link with tx := rest } := by
  simp only [takeSent, h, hr, State.modLink_eq]

/-- Behind a frame that waits ahead of the RESTART reply. -/
theorem takeSent_counts {f : TxFrame} {rest : List TxFrame} {n : Nat} (h : s.link.tx = f :: rest)
    (hr : s.link.restart = some (n + 2)) :
    takeSent s = s.setLink { s.link with tx := rest, restart := some (n + 1) } := by
  simp only [takeSent, h, hr]
  exact if_neg (by omega)

theorem takeSent_restarts {f : TxFrame} {rest : List TxFrame} {n : Nat} (h : s.link.tx = f :: rest)
    (hr : s.link.restart = some n) (hn : n ≤ 1) : takeSent s = warmRestart s := by
  simp only [takeSent, h, hr]
  exact if_pos hn

theorem exec_frameSent (h : s.resetLow = false) {l : Link} (hsent : takeSent s = s.setLink l) :
    exec .frameSent s = .next (s.setLink l) := by
  have hevent : event takeSent s = takeSent s := event_quiet h (by rw [hsent]; rfl) (by rw [hsent]; rfl) (by rw [hsent]; rfl)
  exact congrArg _ (hevent.trans hsent)

/-! ## The warm restart (11 R185) -/

/-- The warm restart leaves the timer DISARMED and no latch to report. -/
theorem closeEvent_warmRestart (s : State) : closeEvent s (warmRestart s) = warmRestart s := by
  have hfollow : followAttention s (warmRestart s) = warmRestart s := by
    unfold followAttention
    rw [if_neg (by exact Bool.false_ne_true)]
    split <;> rfl
  rw [closeEvent, hfollow]
  refine report_eq_of_not_due ?_
  have hlatches : (warmRestart s).latches = 0 := rfl
  simp [dueReports, hlatches]

theorem exec_frameSent_restarts {f : TxFrame} {rest : List TxFrame} {n : Nat} (h : s.resetLow = false)
    (htx : s.link.tx = f :: rest) (hr : s.link.restart = some n) (hn : n ≤ 1) :
    exec .frameSent s = .next (warmRestart s) := by
  have hevent : event takeSent s = closeEvent s (takeSent s) := by rw [event, if_neg (by simp [h])]
  rw [takeSent_restarts htx hr hn, closeEvent_warmRestart] at hevent
  exact congrArg _ hevent

theorem warmRestart_heads (s : State) (i : Fin 4) :
    (warmRestart s).heads.get i = (s.heads.get i).warmReset (s.inputs.raised.get i) := Quad.get_ofFn ..

theorem warmRestart_machine (s : State) : ResetMachine s.inputs s.params (warmRestart s) := by
  refine ⟨rfl, rfl, rfl, rfl, rfl, rfl, rfl, rfl, rfl, rfl, rfl, fun i => ?_⟩
  rw [warmRestart_heads]
  exact ⟨rfl, rfl, rfl, rfl, rfl, rfl, rfl, rfl, rfl, rfl, rfl, fun h => by rw [h]; rfl⟩

theorem warmRestart_alike (s : State) : ResetAlike (warmRestart s) :=
  ⟨rfl, rfl, rfl, rfl, rfl, rfl, rfl, rfl, rfl, rfl, rfl, rfl, rfl, rfl, rfl, rfl, rfl, rfl, rfl, rfl, rfl, rfl, rfl, rfl,
    rfl, rfl, rfl, rfl⟩

/-! ## Power-on (11 R186) -/

theorem powerOn_heads (s : State) (i : Fin 4) : (powerOn s).heads.get i = .atPowerOn (s.inputs.raised.get i) :=
  Quad.get_map ..

theorem powerOn_machine (s : State) : ResetMachine s.inputs Params.defaults (powerOn s) := by
  refine ⟨rfl, rfl, rfl, rfl, rfl, rfl, rfl, rfl, rfl, rfl, rfl, fun i => ?_⟩
  rw [powerOn_heads]
  exact ⟨rfl, rfl, rfl, rfl, rfl, rfl, rfl, rfl, rfl, rfl, rfl, fun h => by rw [h]; rfl⟩

theorem powerOn_alike (s : State) : ResetAlike (powerOn s) :=
  ⟨rfl, rfl, rfl, rfl, rfl, rfl, rfl, rfl, rfl, rfl, rfl, rfl, rfl, rfl, rfl, rfl, rfl, rfl, rfl, rfl, rfl, rfl, rfl, rfl,
    rfl, rfl, rfl, rfl⟩

theorem powerOn_rules (s : State) {i : Nat} (h : i < 32) : (powerOn s).rules[i]? = some .cleared :=
  (List.getElem?_replicate ..).trans (if_pos h)

end Resets

/-- Settles O7: nothing to send, a frame sent, and a frame sent ahead of the RESTART reply. -/
theorem frameSentFreesItsPlace : Obligations.FrameSentFreesItsPlace := by
  intro s h
  refine ⟨fun htx => ?_, fun f rest htx => ⟨fun hr => ?_, fun n hr => ?_⟩⟩
  · exact congrArg _ (event_same (takeSent_idle htx))
  · exact exec_frameSent h (takeSent_plain htx hr)
  · exact exec_frameSent h (takeSent_counts htx hr)

/-- Settles O9: the RESTART reply sent makes the warm restart, which leaves its event nothing to follow. -/
theorem warmRestartValues : Obligations.WarmRestartValues := fun s _ _ _ h htx hr hn =>
  ⟨warmRestart s, exec_frameSent_restarts h htx hr hn, warmRestart_alike s, warmRestart_machine s, rfl, h, rfl, rfl, rfl,
    rfl, rfl, rfl, rfl, rfl⟩

/-- Settles O10, block by block. -/
theorem powerOnAndResetLine : Obligations.PowerOnAndResetLine := fun s =>
  ⟨powerOn s, rfl, powerOn_alike s, powerOn_machine s, rfl, rfl, rfl, defaults_get, rfl, fun _ => powerOn_rules s, rfl, rfl,
    (axesGet_all16 · 0), rfl, rfl, rfl, fun k => by cases k <;> rfl, rfl⟩

/-! ## The laws right after reset -/

theorem reset_head (i : Fin 4) : State.reset.heads.get i = .atPowerOn true := Quad.get_all4 ..

/-- At rest no head works, prepares or has an order pending. -/
theorem reset_headPhaseLaw : State.reset.headPhaseLaw := by
  intro i
  rw [reset_head]
  simp [HeadRecord.inserting, HeadRecord.working, HeadRecord.atPowerOn]

/-- Settles O60: every bound holds of the reset values, and of the other laws each premise fails where the part is IDLE
with every head PARKED, the unit OPEN, no window, no demand and no sleeper in flight. -/
theorem resetKeepsEveryLaw : Obligations.ResetKeepsEveryLaw := by
  have hidle : State.reset.seq.state = .idle := rfl
  refine ⟨⟨Nat.zero_le 4, Nat.zero_le 8⟩, zero_counterLaw State.reset, ?_, ?_, rfl, Nat.zero_le 32,
    ⟨nofun, nofun, nofun⟩, iff_of_true rfl rfl, fun i => ?_, ⟨fun i => ?_, nofun⟩, nofun, ?_, reset_headPhaseLaw,
    ⟨nofun, nofun, nofun⟩, fun _ i => ?_, fun _ i => ?_⟩
  · exact fun p => (defaults_get p).symm ▸ p.default_inRange
  · exact ⟨Nat.zero_le 3, Nat.zero_le 3, fun x => (axesGet_all16 x 0).trans_le (Nat.zero_le 20)⟩
  · rw [reset_head]; rfl
  · exact fun h => nomatch h.symm.trans (Quad.get_all4 false i)
  · exact State.reset.planLaw_iff.mpr ⟨PlanStore.cleared_lawful, iff_of_true rfl (.inl hidle)⟩
  · rw [reset_head]; exact ⟨.inl rfl, rfl, nofun, nofun⟩
  · rw [reset_head]; exact nofun

end Sys2Proof.Machine
end

section
/-! PROOFS. The oldest request executed, RESTART, and the parameter requests (11 R179, R183 to R185). -/

namespace Sys2Proof.Machine

section Execution

variable {s g : State} {r : Request} {y : Reply}

/-- A request whose owner keeps the class of the sequencer's state, the latches and REPORT_ENABLE is answered with
nothing but its activity to follow. -/
theorem execute_of_quiet (hrun : runCall r.call s = (g, y)) (hseq : g.seq.state.attentive = s.seq.state.attentive)
    (hlat : g.latches = s.latches) (hen : g.params.reportEnable = s.params.reportEnable) :
    execute r s = requestActivity r y (g.modLink fun l => l.afterRequest r y) := by
  simp only [execute, hrun]
  rw [followAttention_same (by exact hseq), report_eq_of_not_due]
  exact dueReports_eq_zero (by simpa using hlat) (by simpa using hen)

theorem executeOldest_executes {rest : List Request} (h : s.link.requests = r :: rest) (hfree : s.link.tx.length < 8) :
    executeOldest s = execute r s := by
  simp only [executeOldest, h]
  exact if_pos hfree

theorem executeOldest_waits {rest : List Request} (h : s.link.requests = r :: rest) (hfull : 8 ≤ s.link.tx.length) :
    executeOldest s = s := by
  simp only [executeOldest, h]
  exact if_neg (Nat.not_lt.mpr hfull)

theorem step_idle (hp : s.pending = []) : step s = .next (idle s) := by rw [step, hp]

theorem idle_of_reset_clear (h : s.resetLow = false) : idle s = executeOldest s := if_neg (by simp [h])

/-! ## RESTART (11 R185) -/

theorem execute_restart (tag : Byte) (s : State) : execute ⟨tag, .restart⟩ s
    = requestActivity ⟨tag, .restart⟩ (.plain .ok)
        (s.setLink { s.link with
          tx := s.link.tx ++ [⟨.reply, tag, 3, [0]⟩], requests := [], restart := some (s.link.tx.length + 1) }) := by
  rw [execute_of_quiet (g := s) (y := .plain .ok) rfl rfl rfl rfl, State.modLink_eq]
  simp [Link.afterRequest, Link.enterRestart, Link.answer, replyFrame, Reply.plain, ResultCode.byte, callCode]

/-! ## SET_PARAM and GET_PARAM (11 R183, R184) -/

variable {id : Byte} {p : ParamId} {v : Int}

theorem ofByte?_none (h : id.toNat = 0 ∨ 31 < id.toNat) : ParamId.ofByte? id = none := by
  unfold ParamId.ofByte?
  split
  · rfl
  · exact List.getElem?_eq_none (by simp [ParamId.table]; omega)

theorem getParam_of (hp : ParamId.ofByte? id = some p) (s : State) :
    getParam id s = ⟨.ok, id :: signedField 4 (s.params.get p)⟩ := by
  simp [getParam, hp, paramBytes]

theorem setParam_none (hp : ParamId.ofByte? id = none) (value : BitVec 32) (s : State) :
    setParam id value s = (s, .plain .badValue) := by
  simp [setParam, hp]

theorem setParam_chord (hp : ParamId.ofByte? id = some p) (hc : p.isChord = true) (value : BitVec 32) (s : State) :
    setParam id value s = setChord id p value.toInt s := by
  simp [setParam, hp, hc]

theorem setParam_clamped (hp : ParamId.ofByte? id = some p) (hc : p.isChord = false) (value : BitVec 32) (s : State) :
    setParam id value s = setClamped id p value.toInt s := by
  simp [setParam, hp, hc]

theorem setChord_running (h : s.seq.state ≠ .idle ∧ s.seq.state ≠ .ended) :
    setChord id p v s = (s, .plain .wrongState) := if_pos h

theorem setChord_outside (h : s.seq.state = .idle ∨ s.seq.state = .ended) (hv : v < p.least ∨ p.greatest < v) :
    setChord id p v s = (s, .plain .badValue) := by
  rw [setChord, if_neg (by tauto), if_pos hv]

theorem setChord_stores (h : s.seq.state = .idle ∨ s.seq.state = .ended) (hlo : p.least ≤ v) (hhi : v ≤ p.greatest) :
    setChord id p v s = (storeParam p v s, ⟨.ok, id :: signedField 4 v⟩) := by
  rw [setChord, if_neg (by tauto), if_neg (by omega)]
  rfl

theorem setClamped_stores (id : Byte) (p : ParamId) (v : Int) (s : State) :
    let stored := max p.least (min p.greatest v)
    setClamped id p v s = (storeParam p stored s, ⟨if stored = v then .ok else .adjusted, id :: signedField 4 stored⟩) := by
  rw [setClamped, clampTo_eq p.least_le_greatest]
  rfl

theorem storeParam_chord (hc : p.isChord = true) (v : Int) (s : State) :
    storeParam p v s = s.setParams (s.params.set p v) :=
  if_neg fun hp => by subst hp; cases hc

/-- RESULTS_THRESHOLD stored sets RESULTS_WAITING where the queue stands at it already (10 R170). -/
theorem storeParam_eq (p : ParamId) (v : Int) (s : State) : storeParam p v s =
    if p = .resultsThreshold ∧ v ≤ s.results.length then
      (s.setParams (s.params.set p v)).setLatches (s.latches ||| 0x10)
    else s.setParams (s.params.set p v) := by
  unfold storeParam
  by_cases hp : p = .resultsThreshold
  · subst hp
    have hset : (s.params.set .resultsThreshold v).resultsThreshold = v := rfl
    simp [noteResults, hset, Latch.mask]
  · simp [hp]

theorem chord_keeps_reportEnable (hc : p.isChord = true) (q : Params) (v : Int) :
    (q.set p v).reportEnable = q.reportEnable := by
  cases p with
  | chordLineRear => rfl
  | chordLevelRear => rfl
  | chordFront => rfl
  | _ => cases hc

theorem storeParam_queued (p : ParamId) (v : Int) (s : State) (r : Request) :
    storeParam p v (s.queued r) = (storeParam p v s).queued r := by
  rw [storeParam_eq, storeParam_eq]
  by_cases hdue : p = .resultsThreshold ∧ v ≤ s.results.length
  · rw [if_pos hdue, if_pos (by exact hdue)]; rfl
  · rw [if_neg hdue, if_neg (by exact hdue)]; rfl

/-! ## On a ready link -/

variable {tag : Byte} {value : BitVec 32}

theorem exec_getParam (h : s.linkReady) (hy : getParam id s = y) :
    exec (.getParam tag id) s = .next (State.answered ⟨tag, .getParam id⟩ y s) :=
  congrArg Host.Outcome.next (unchanged_request_answered h nofun (congrArg (Prod.mk _) hy))

theorem exec_setParam_refused (h : s.linkReady)
    (hrun : ∀ x : State, x.seq = s.seq → setParam id value x = (x, y)) :
    exec (.setParam tag id value) s = .next (State.answered ⟨tag, .setParam id value⟩ y s) :=
  congrArg Host.Outcome.next (unchanged_request_answered h nofun (hrun _ rfl))

theorem exec_setParam_chord (h : s.linkReady) (hp : ParamId.ofByte? id = some p) (hc : p.isChord = true)
    (hq : s.seq.state = .idle ∨ s.seq.state = .ended) (hlo : p.least ≤ value.toInt) (hhi : value.toInt ≤ p.greatest) :
    exec (.setParam tag id value) s = .next (State.answered ⟨tag, .setParam id value⟩
      ⟨.ok, id :: signedField 4 value.toInt⟩ (s.setParams (s.params.set p value.toInt))) := by
  have hstores := setChord_stores (id := id) (s := s.queued ⟨tag, .setParam id value⟩) hq hlo hhi
  rw [storeParam_queued, storeParam_chord hc] at hstores
  exact congrArg Host.Outcome.next (request_answered h nofun ((setParam_chord hp hc ..).trans hstores) rfl rfl rfl
    (chord_keeps_reportEnable hc _ _))

end Execution

/-- Settles O2: the reset line, the request queue, then the places of the transmit queue. -/
theorem idleStepExecutesOldestRequest : Obligations.IdleStepExecutesOldestRequest := by
  intro s hp
  refine ⟨fun hreset => ?_, fun hreset hnone => ?_, fun r rest hreset hr => ⟨fun hfree => ?_, fun hfull => ?_⟩⟩
  · rw [step_idle hp, idle, if_pos hreset]
  · rw [step_idle hp, idle_of_reset_clear hreset, executeOldest, hnone]
  · rw [step_idle hp, idle_of_reset_clear hreset, executeOldest_executes hr hfree]
  · rw [step_idle hp, idle_of_reset_clear hreset, executeOldest_waits hr hfull]

/-- Settles O8: a RESTART that finds the queue empty joins it first, and is executed alike. -/
theorem restartDiscardsRequests : Obligations.RestartDiscardsRequests := by
  intro s tag rest hreset hrestart hfree hqueue
  refine congrArg Host.Outcome.next ?_
  rcases hqueue with hempty | holdest
  · rw [request_ready ⟨hreset, hrestart, hempty, hfree⟩, execute_restart]
    rfl
  · have hoff : ¬(s.resetLow = true ∨ s.link.restart.isSome = true) := by simp [hreset, hrestart]
    rw [request, if_neg hoff, if_pos (by rw [holdest]; rfl), executeOldest_executes holdest hfree, execute_restart]

/-- Settles O11: an id outside the table, then a parameter by its kind; the reports are those of the latch that a
RESULTS_THRESHOLD can set, or of a REPORT_ENABLE that enables latches already set. -/
theorem parametersStoredAndRead : Obligations.ParametersStoredAndRead := by
  intro s tag id value h
  refine ⟨fun hid => ⟨?_, ?_⟩, fun p hp => ⟨exec_getParam h (getParam_of hp s), ?_, ?_, ?_, ?_⟩⟩
  · exact exec_setParam_refused h fun x _ => setParam_none (ofByte?_none hid) value x
  · exact exec_getParam h (by rw [getParam, ofByte?_none hid])
  · intro hc hq
    exact exec_setParam_refused h fun x hx => (setParam_chord hp hc value x).trans (setChord_running (hx ▸ hq))
  · intro hc hq hv
    exact exec_setParam_refused h fun x hx => (setParam_chord hp hc value x).trans (setChord_outside (hx ▸ hq) hv)
  · exact fun hc hq => exec_setParam_chord h hp hc hq
  · intro hc stored y x
    have hrun : runCall (.setParam id value) (s.queued ⟨tag, .setParam id value⟩)
        = ((storeParam p stored s).queued ⟨tag, .setParam id value⟩, y) :=
      (setParam_clamped hp hc value _).trans ((setClamped_stores id p _ _).trans (by rw [storeParam_queued]))
    have hkept : (storeParam p stored s).link = s.link ∧ (storeParam p stored s).seq = s.seq
        ∧ (storeParam p stored s).params = s.params.set p stored := by
      rw [storeParam_eq]
      split <;> exact ⟨rfl, rfl, rfl⟩
    obtain ⟨hlink, hseq, hparams⟩ := hkept
    have hreport := request_reportOf (r := ⟨tag, .setParam id value⟩) h nofun hrun hlink
    rw [State.moved, followAttention_same (by simp [State.replied, hseq])] at hreport
    obtain ⟨-, -, -, -, hstored, -⟩ := State.reportOf_keeps hreport
    simp only [requestActivity_keeps, State.replied, State.modLink_eq, State.setLink_params, hparams] at hstored
    refine ⟨_, rfl, ?_, ?_, fun q hq => ?_⟩
    · rw [storeParam_eq] at hreport
      exact hreport
    · rw [hstored]
      exact Params.get_set_self ..
    · rw [hstored]
      exact Params.get_set_of_ne _ _ hq

end Sys2Proof.Machine
end

section
/-! PROOFS. The frame assembler and the request queue (11 R177, R178): each byte by what stands before it, a whole frame
byte by byte, and what its request meets. -/

namespace Sys2Proof.Machine

section Assembler

variable {s : State}

/-- The assembler collecting, with the bytes that followed START. -/
def State.collecting (s : State) (bytes : List Byte) : State := s.setLink { s.link with rx := .collecting bytes }

theorem collecting_collecting (s : State) (l m : List Byte) : (s.collecting l).collecting m = s.collecting m := rfl

/-! ## One byte -/

theorem takeByte_starts {b : RxByte} (h : s.link.rx = .hunt) (hgood : b.stopGood = true) (hb : b.byte = 0x5A) :
    takeByte b s = s.collecting [] := by
  simp only [takeByte, h, hgood, hb]
  rfl

theorem takeByte_discards {b : RxByte} (h : s.link.rx = .hunt) (hb : b.stopGood = false ∨ b.byte ≠ 0x5A) :
    takeByte b s = s := by
  simp only [takeByte, h]
  exact if_neg fun ⟨hgood, hstart⟩ => hb.elim (fun hbad => nomatch hgood.symm.trans hbad) (· hstart)

variable {bytes : List Byte}

theorem takeByte_framing {b : RxByte} (h : s.link.rx = .collecting bytes) (hbad : b.stopGood = false) :
    takeByte b s = dropFrame .framingErrors s := by
  simp [takeByte, h, hbad]

theorem takeByte_collects (h : s.link.rx = .collecting bytes) (b : Byte) :
    takeByte ⟨b, true⟩ s = collect (bytes ++ [b]) s := by
  simp [takeByte, h]

theorem takeByte_collecting (s : State) (before : List Byte) (b : Byte) :
    takeByte ⟨b, true⟩ (s.collecting before) = collect (before ++ [b]) (s.collecting before) := takeByte_collects rfl b

theorem expireGap_hunt (h : s.link.rx = .hunt) : expireGap s = s := by rw [expireGap, h]

theorem expireGap_collecting (h : s.link.rx = .collecting bytes) : expireGap s = dropFrame .gapErrors s := by
  rw [expireGap, h]

/-! ## The bytes collected -/

theorem collect_badLength {b : Byte} (h : b.toNat < 3 ∨ 243 < b.toNat) : collect [b] s = dropFrame .lengthErrors s :=
  if_pos ⟨rfl, h⟩

/-- A byte short of the whole frame joins it. -/
theorem collect_joins {n : Byte} {more : List Byte} (hlo : 3 ≤ n.toNat) (hhi : n.toNat ≤ 243)
    (hshort : more.length < n.toNat + 2) : collect (n :: more) s = s.collecting (n :: more) := by
  simp only [collect]
  rw [if_neg (by omega), if_neg (by simp only [List.length_cons]; omega)]
  rfl

theorem collect_whole {n : Byte} {more : List Byte} (hlo : 3 ≤ n.toNat) (hhi : n.toNat ≤ 243)
    (hwhole : more.length = n.toNat + 2) : collect (n :: more) s = takeFrame n.toNat (n :: more) s := by
  simp only [collect]
  rw [if_neg (by omega), if_pos (by simp only [List.length_cons]; omega)]

/-- What the checks of a whole frame make of it: KIND, TAG, CODE and BODY, then the two bytes of the check. -/
theorem takeFrame_eq {n : Nat} {len kind tag code h l : Byte} {body : List Byte} (hn : body.length + 3 = n) :
    takeFrame n (len :: kind :: tag :: code :: (body ++ [h, l])) s =
      if crc16 (len :: kind :: tag :: code :: body) = word2 h l then
        if kind = 1 then
          acceptRequest ⟨tag, readCall code body⟩ ((s.modLink fun l => { l with rx := .hunt }).bump .framesAccepted)
        else dropFrame .lengthErrors s
      else dropFrame .crcErrors s := by
  subst hn
  simp [takeFrame]

theorem collect_badCheck {n h l : Byte} {covered : List Byte} (hlo : 3 ≤ n.toNat) (hhi : n.toNat ≤ 243)
    (hlen : covered.length = n.toNat) (hcrc : crc16 (n :: covered) ≠ word2 h l) :
    collect (n :: covered ++ [h, l]) s = dropFrame .crcErrors s := by
  obtain ⟨kind, tag, code, body, rfl⟩ : ∃ kind tag code body, covered = kind :: tag :: code :: body := by
    match covered, hlen with
    | kind :: tag :: code :: body, _ => exact ⟨kind, tag, code, body, rfl⟩
    | [], hlen => simp at hlen; omega
    | [_], hlen => simp at hlen; omega
    | [_, _], hlen => simp at hlen; omega
  refine (collect_whole hlo hhi (by simp [← hlen])).trans ((takeFrame_eq ?_).trans (if_neg hcrc))
  simpa using hlen

/-! ## The events of the assembler -/

theorem event_closes (h : s.resetLow = false) (f : State → State) : event f s = closeEvent s (f s) := by
  rw [event, if_neg (by simp [h])]

/-- The end of an event asks nothing of the link before it. -/
theorem closeEvent_collecting (s : State) (l : List Byte) (t : State) :
    closeEvent (s.collecting l) t = closeEvent s t := rfl

theorem closeEvent_quiet {t : State} (hseq : t.seq = s.seq) (hlat : t.latches = s.latches) (hen : t.params = s.params) :
    closeEvent s t = t := by
  rw [closeEvent, followAttention_same (by rw [hseq]), report_eq_of_not_due (dueReports_eq_zero hlat (by rw [hen]))]

theorem event_joins (h : s.resetLow = false) {f : State → State} (hf : f s = s.collecting bytes) :
    event f s = s.collecting bytes := by
  rw [event_closes h, hf]
  exact closeEvent_quiet rfl rfl rfl

theorem event_collects (h : s.resetLow = false) {before : List Byte} {b : Byte}
    (hcollect : collect (before ++ [b]) (s.collecting before) = (s.collecting before).collecting (before ++ [b])) :
    event (takeByte ⟨b, true⟩) (s.collecting before) = s.collecting (before ++ [b]) := by
  have hbyte := (takeByte_collecting s before b).trans hcollect
  exact event_joins (s := s.collecting before) h hbyte

/-- A frame abandoned: its counter and LINK_FAULT, and the report of that latch. -/
theorem closeEvent_abandons (s : State) (k : Counter) : (closeEvent s (dropFrame k s)).reportOf (abandoned k s) := by
  have hsame : (dropFrame k s).seq.state.attentive = s.seq.state.attentive := rfl
  rw [closeEvent, followAttention_same hsame]
  exact report_reportOf ..

theorem event_abandons (h : s.resetLow = false) {f : State → State} {k : Counter} (hf : f s = dropFrame k s) :
    (event f s).reportOf (abandoned k s) := by
  rw [event_closes h, hf]
  exact closeEvent_abandons s k

/-! ## A whole frame -/

/-- The bytes of one command, each an event of its own (log entry 3). -/
def takeBytes (l : List RxByte) (s : State) : State := l.foldl (fun t b => event (takeByte b) t) s

theorem goodBytes_append (l m : List Byte) : goodBytes (l ++ m) = goodBytes l ++ goodBytes m := List.map_append

theorem takeBytes_append (l m : List RxByte) (s : State) : takeBytes (l ++ m) s = takeBytes m (takeBytes l s) :=
  List.foldl_append

theorem takeBytes_one (b : Byte) (s : State) : takeBytes (goodBytes [b]) s = event (takeByte ⟨b, true⟩) s := rfl

/-- Good bytes short of the whole frame join those before them. -/
theorem takeBytes_join (h : s.resetLow = false) {n : Byte} (hlo : 3 ≤ n.toNat) (hhi : n.toNat ≤ 243) (l : List Byte) :
    ∀ before : List Byte, before.length + l.length < n.toNat + 2 →
      takeBytes (goodBytes l) (s.collecting (n :: before)) = s.collecting (n :: (before ++ l)) := by
  induction l with
  | nil => intro before _; rw [List.append_nil]; rfl
  | cons b rest ih =>
    intro before hshort
    rw [List.length_cons] at hshort
    have hlength : (before ++ [b]).length = before.length + 1 := List.length_append
    have hb := event_collects h (before := n :: before) (b := b)
      (collect_joins hlo hhi (hlength.trans_lt (by omega)))
    have hrest := ih (before ++ [b]) (by omega)
    rw [List.append_assoc, List.singleton_append] at hrest
    exact (congrArg (takeBytes (goodBytes rest)) hb).trans hrest

/-- START, LENGTH and all but the last byte collected leave the frame to its last byte. -/
theorem takeBytes_frame (h : s.resetLow = false) (hrx : s.link.rx = .hunt) {n last : Byte} {more : List Byte}
    (hlo : 3 ≤ n.toNat) (hhi : n.toNat ≤ 243) (hwhole : more.length = n.toNat + 1) :
    takeBytes (goodBytes (0x5A :: n :: (more ++ [last]))) s
      = closeEvent s (takeFrame n.toNat (n :: (more ++ [last])) (s.collecting (n :: more))) := by
  have hstart : event (takeByte ⟨0x5A, true⟩) s = s.collecting [] := event_joins h (takeByte_starts hrx rfl rfl)
  have hlength : event (takeByte ⟨n, true⟩) (s.collecting []) = s.collecting [n] :=
    event_collects h (before := []) (collect_joins hlo hhi (Nat.succ_pos _))
  have hmore := takeBytes_join h hlo hhi more [] (by simp [hwhole])
  have hlast : takeByte ⟨last, true⟩ (s.collecting (n :: more))
      = takeFrame n.toNat (n :: (more ++ [last])) (s.collecting (n :: more)) :=
    (takeByte_collecting s (n :: more) last).trans (collect_whole hlo hhi (by simp [hwhole]))
  calc takeBytes (goodBytes (0x5A :: n :: (more ++ [last]))) s
      = takeBytes (goodBytes (more ++ [last])) (event (takeByte ⟨n, true⟩) (event (takeByte ⟨0x5A, true⟩) s)) := rfl
    _ = takeBytes (goodBytes [last]) (takeBytes (goodBytes more) (s.collecting [n])) := by
        rw [hstart, hlength, goodBytes_append, takeBytes_append]
    _ = event (takeByte ⟨last, true⟩) (s.collecting (n :: more)) := by rw [hmore, takeBytes_one, List.nil_append]
    _ = closeEvent s (takeByte ⟨last, true⟩ (s.collecting (n :: more))) := by
        rw [event_closes (s := s.collecting (n :: more)) h, closeEvent_collecting]
    _ = _ := by rw [hlast]

/-! ## The request of a good frame (11 R178) -/

variable {r : Request}

theorem acceptRequest_discards (h : s.link.restart.isSome = true) (r : Request) : acceptRequest r s = s := if_pos h

theorem acceptRequest_joins (h : s.link.restart = none) (hfree : s.link.requests.length < 4) (r : Request) :
    acceptRequest r s = s.setLink { s.link with requests := s.link.requests ++ [r] } := by
  exact (if_neg (by simp [h])).trans (if_pos hfree)

theorem acceptRequest_refuses (h : s.link.restart = none) (hfull : 4 ≤ s.link.requests.length) (r : Request) :
    acceptRequest r s = (if s.link.tx.length < 8 then
        s.setLink { s.link with tx := s.link.tx ++ [⟨.reply, r.tag, callCode r.call, [2]⟩] }
      else s).setCounters (s.counters.bump .queueFullRefusals) := by
  refine (if_neg (by simp [h])).trans ((if_neg (Nat.not_lt.mpr hfull)).trans ?_)
  by_cases hplace : s.link.tx.length < 8
  · rw [if_pos hplace]
    exact if_pos hplace
  · rw [if_neg hplace]
    exact if_neg hplace

theorem collecting_hunts (h : s.link.rx = .hunt) (l : List Byte) :
    (s.collecting l).modLink (fun x => { x with rx := .hunt }) = s := by
  have hlink : { s.link with rx := .hunt } = s.link := by rw [← h]
  exact congrArg s.setLink hlink

/-- The bytes of a frame whose BODY fits carry its LENGTH and its check, so that its KIND decides. -/
theorem takeBytes_goodFrame (h : s.resetLow = false) (hrx : s.link.rx = .hunt) (kind tag code : Byte)
    {body : List Byte} (hfits : body.length ≤ 240) :
    takeBytes (goodBytes (0x5A :: framedBytes kind tag code body)) s
      = closeEvent s (if kind = 1 then acceptRequest ⟨tag, readCall code body⟩ (s.bump .framesAccepted)
          else dropFrame .lengthErrors s) := by
  obtain ⟨hi, lo, hcheck, hword⟩ :=
    word2_bytes2 (crc16 (BitVec.ofNat 8 (3 + body.length) :: kind :: tag :: code :: body))
  have hn : (BitVec.ofNat 8 (3 + body.length)).toNat = body.length + 3 := by
    rw [BitVec.toNat_ofNat]
    omega
  have hbytes : framedBytes kind tag code body
      = BitVec.ofNat 8 (3 + body.length) :: (kind :: tag :: code :: (body ++ [hi]) ++ [lo]) := by
    simp [framedBytes, hcheck]
  rw [hbytes, takeBytes_frame h hrx (by omega) (by omega) (by simp [hn])]
  simp only [List.cons_append, List.append_assoc, List.nil_append]
  rw [takeFrame_eq hn.symm, if_pos hword.symm, collecting_hunts hrx]
  rfl

end Assembler

/-- Settles O6: a byte met in HUNT, then a byte or the gap limit met in COLLECTING, by what each makes of the frame. -/
theorem bytesStartJoinOrSpoilFrames : Obligations.BytesStartJoinOrSpoilFrames := by
  refine ⟨fun s b => ⟨fun h hrx hgood hb => ?_, fun h hrx hb => ?_, fun hrx => ?_, fun h => ⟨?_, ?_⟩⟩,
    fun s bytes h hrx => ⟨fun b hbad => ⟨_, rfl, ?_⟩, ⟨_, rfl, ?_⟩, fun b hempty hlen => ⟨_, rfl, ?_⟩,
      fun b n more hmore hlo hhi hshort => ?_, fun b n hi lo covered hwhole hlo hhi hlen hcrc => ⟨_, rfl, ?_⟩⟩⟩
  · exact congrArg _ (event_joins h (takeByte_starts hrx hgood hb))
  · exact congrArg _ (event_same (takeByte_discards hrx hb))
  · exact congrArg _ (event_same (expireGap_hunt hrx))
  · exact congrArg _ (if_pos h)
  · exact congrArg _ (if_pos h)
  · exact event_abandons h (takeByte_framing hrx hbad)
  · exact event_abandons h (expireGap_collecting hrx)
  · subst hempty
    exact event_abandons h ((takeByte_collects hrx b).trans (collect_badLength hlen))
  · rw [hmore]
    exact congrArg _ (event_joins h ((takeByte_collects hrx b).trans (hmore ▸ collect_joins hlo hhi hshort)))
  · exact event_abandons h ((takeByte_collects hrx b).trans (hwhole ▸ collect_badCheck hlo hhi hlen hcrc))

/-- Settles O4: the frame comes down to its KIND, and a request to what the queues hold. -/
theorem receivedFrameReachesRequestQueue : Obligations.ReceivedFrameReachesRequestQueue := by
  intro s kind tag code body h hrx hfits r counted bytes
  have hframe := takeBytes_goodFrame h hrx kind tag code hfits
  have hquiet : ∀ {t : State}, kind = 1 → acceptRequest r counted = t → t.seq = s.seq → t.latches = s.latches →
      t.params = s.params → exec (.frameReceived bytes) s = .next t := fun hkind ht hseq hlat hen => by
    rw [if_pos hkind] at hframe
    exact congrArg _ (hframe.trans ((congrArg (closeEvent s) ht).trans (closeEvent_quiet hseq hlat hen)))
  refine ⟨fun hkind hr => ?_, fun hkind hr hfree => ?_, fun hkind hr hfull => ?_, fun hkind => ⟨_, rfl, ?_⟩⟩
  · exact hquiet hkind (acceptRequest_discards (s := counted) hr r) rfl rfl rfl
  · exact hquiet hkind (acceptRequest_joins (s := counted) hr hfree r) rfl rfl rfl
  · refine hquiet hkind (acceptRequest_refuses (s := counted) hr hfull r) ?_ ?_ ?_
    · split <;> rfl
    · split <;> rfl
    · split <;> rfl
  · rw [if_neg hkind] at hframe
    exact (congrArg (State.reportOf · _) hframe).mpr (closeEvent_abandons s .lengthErrors)

end Sys2Proof.Machine
end

section
/-! PROOFS. The reply of an executed request (11 R178, R179, R181): what its code lets it carry, its place in the transmit
queue, and the two answers of the link itself. -/

namespace Sys2Proof.Machine

/-! ## What follows the result code (11 R181) -/

/-- A refusal carries nothing after its code, but for the position byte of a plan request refused with BAD_VALUE. -/
def Reply.Shaped (plan : Bool) (y : Reply) : Prop :=
  y.code ≠ .ok → y.code ≠ .adjusted → y.body.length = if y.code = .badValue ∧ plan = true then 1 else 0

theorem shaped_ok {plan : Bool} {body : List Byte} : Reply.Shaped plan ⟨.ok, body⟩ := fun h => absurd rfl h

theorem shaped_adjusted {plan : Bool} {body : List Byte} : Reply.Shaped plan ⟨.adjusted, body⟩ := fun _ h => absurd rfl h

theorem shaped_plain (c : ResultCode) : Reply.Shaped false (.plain c) := fun _ _ => (if_neg nofun).symm

theorem shaped_pageState : Reply.Shaped true (.plain .pageState) := fun _ _ => rfl

theorem shaped_badPosition (n : Nat) : Reply.Shaped true (badPosition n) := fun _ _ => rfl

/-- A value stored as sent, or brought into its range. -/
theorem shaped_ite {plan : Bool} {c : Prop} [Decidable c] {body : List Byte} :
    Reply.Shaped plan ⟨if c then .ok else .adjusted, body⟩ := by
  split
  · exact shaped_ok
  · exact shaped_adjusted

section Plan

variable (p : PlanStore) (page : Byte)

theorem openPage_shaped : Reply.Shaped true (p.openPage page).2 := by
  unfold PlanStore.openPage
  split
  · exact shaped_badPosition 0
  · split
    · exact shaped_ok
    · exact shaped_pageState

theorem loadRecords_shaped (first : Byte) (records : List WireRecord) :
    Reply.Shaped true (p.loadRecords page first records).2 := by
  unfold PlanStore.loadRecords
  split
  · exact shaped_badPosition 0
  · split
    · split
      · exact shaped_badPosition 0
      · split
        · exact shaped_badPosition 0
        · split
          · exact shaped_badPosition _
          · exact shaped_ok
    · exact shaped_pageState

theorem planClosePage_shaped (count endByte : Byte) : Reply.Shaped true (p.closePage page count endByte).2 := by
  unfold PlanStore.closePage
  split
  · exact shaped_badPosition 0
  · split
    · split
      · exact shaped_badPosition 0
      · split
        · exact shaped_badPosition 0
        · split
          · exact shaped_badPosition _
          · split
            · exact shaped_badPosition _
            · exact shaped_ok
    · exact shaped_pageState

theorem discardPage_shaped : Reply.Shaped true (p.discardPage page).2 := by
  unfold PlanStore.discardPage
  split
  · exact shaped_badPosition 0
  · split
    · exact shaped_pageState
    all_goals exact shaped_ok

theorem readRecord_shaped (index : Byte) : Reply.Shaped true (p.readRecord page index) := by
  unfold PlanStore.readRecord
  split
  · exact shaped_badPosition 0
  · split
    · exact shaped_pageState
    · split
      · exact shaped_badPosition 0
      · exact shaped_ok

end Plan

section Requests

variable (s : State)

theorem closePage_shaped (page count endByte : Byte) : Reply.Shaped true (closePage page count endByte s).2 := by
  have hstore := planClosePage_shaped s.plan page count endByte
  unfold closePage
  dsimp only
  split <;> exact hstore

theorem setParam_shaped (id : Byte) (value : BitVec 32) : Reply.Shaped false (setParam id value s).2 := by
  unfold setParam setChord setClamped
  split
  · exact shaped_plain _
  · split
    · split
      · exact shaped_plain _
      · split
        · exact shaped_plain _
        · exact shaped_ok
    · exact shaped_ite

theorem getParam_shaped (id : Byte) : Reply.Shaped false (getParam id s) := by
  unfold getParam
  split
  · exact shaped_plain _
  · exact shaped_ok

theorem writeRuleIn_shaped (rules : List ZoneRule) (slot : Byte) (rule : WireRule) :
    Reply.Shaped false (writeRuleIn rules slot rule).2 := by
  unfold writeRuleIn
  repeat' split
  all_goals exact shaped_plain _

theorem readRuleFrom_shaped (rules : List ZoneRule) (slot : Byte) : Reply.Shaped false (readRuleFrom rules slot) := by
  unfold readRuleFrom
  repeat' split
  all_goals first | exact shaped_plain _ | exact shaped_ok

theorem readResults_shaped (n : Byte) : Reply.Shaped false (readResults n s) := by
  unfold readResults
  split
  · exact shaped_plain _
  · exact shaped_ok

theorem releaseResultsRequest_shaped (n : Byte) : Reply.Shaped false (releaseResultsRequest n s).2 := by
  have hreleased : Reply.Shaped false (releaseResults n s).2 := by
    unfold releaseResults
    split
    · exact shaped_plain _
    · split
      · exact shaped_ok
      · exact shaped_adjusted
  unfold releaseResultsRequest
  dsimp only
  split <;> exact hreleased

theorem getCounters_shaped (clear : Byte) : Reply.Shaped false (getCounters clear s).2 := by
  unfold getCounters
  split
  · exact shaped_plain _
  · exact shaped_ok

/-- The owner of a request answers in the form of its code. -/
theorem runCall_shaped (c : Call) : Reply.Shaped (onPlan c) (runCall c s).2 := by
  cases c with
  | setParam id value => exact setParam_shaped s id value
  | getParam id => exact getParam_shaped s id
  | openPage page => exact openPage_shaped s.plan page
  | loadRecords page first records => exact loadRecords_shaped s.plan page first records
  | closePage page count endByte => exact closePage_shaped s page count endByte
  | discardPage page => exact discardPage_shaped s.plan page
  | readRecord page index => exact readRecord_shaped s.plan page index
  | writeRule slot rule => exact writeRuleIn_shaped s.rules slot rule
  | readRule slot => exact readRuleFrom_shaped s.rules slot
  | readResults n => exact readResults_shaped s n
  | releaseResults n => exact releaseResultsRequest_shaped s n
  | getStatus => exact shaped_ok
  | getCounters clear => exact getCounters_shaped s clear
  | clearEvents mask => exact shaped_ok
  | _ =>
    simp only [runCall, setManualMaskRequest, setChainageTo, startRun, pauseRun, resumeRun, confirmSleeper, skipSleeper,
      pendSkip, abortSleeper, retampSleeper, stopRun, clearStop]
    repeat' split
    all_goals exact shaped_plain _

end Requests

/-! ## The reply in the transmit queue (11 R178, R179) -/

section Answers

variable {s : State} {r : Request} {rest : List Request}

theorem replyFrame_eq (r : Request) (y : Reply) :
    replyFrame r y = ⟨.reply, r.tag, callCode r.call, resultByte y.code :: y.body⟩ := by
  unfold replyFrame
  cases y.code <;> rfl

theorem afterRequest_eq {l : Link} (h : l.requests = r :: rest) (y : Reply) :
    (l.afterRequest r y).tx = l.tx ++ [replyFrame r y]
      ∧ (l.afterRequest r y).requests = (if r.call = .restart then [] else rest)
      ∧ (l.afterRequest r y).rx = l.rx := by
  unfold Link.afterRequest
  split
  · exact ⟨rfl, rfl, rfl⟩
  · exact ⟨rfl, by rw [Link.answer, h]; rfl, rfl⟩

/-- The reply goes to the newest end, and the reports of the event behind it. -/
theorem execute_link (h : s.link.requests = r :: rest) : ∃ reports : List TxFrame,
    (execute r s).link.tx = s.link.tx ++ replyFrame r (runCall r.call s).2 :: reports
      ∧ (∀ f ∈ reports, f.kind = .report)
      ∧ (execute r s).link.requests = (if r.call = .restart then [] else rest)
      ∧ (execute r s).link.rx = s.link.rx := by
  obtain ⟨-, hrx, hrequests, -, ⟨reports, htx, hkind⟩, -⟩ : (execute r s).reportOf _ := report_reportOf ..
  obtain ⟨hreply, hleft, hkept⟩ := afterRequest_eq h (runCall r.call s).2
  simp only [requestActivity_keeps, followAttention_keeps, State.modLink_eq, State.setLink_link, runCall_link]
    at hrx hrequests htx
  exact ⟨reports, by rw [htx, hreply, List.append_assoc, List.singleton_append], hkind, hrequests.trans hleft,
    hrx.trans hkept⟩

/-- A request that the link answers itself changes nothing but its own place (11 R179). -/
theorem execute_answers {y : Reply} (h : s.link.requests = r :: rest) (hr : r.call ≠ .restart)
    (hrun : runCall r.call s = (s, y)) :
    execute r s = State.answered r y (s.setLink { s.link with requests := rest }) := by
  rw [execute_of_quiet hrun rfl rfl rfl]
  simp [State.answered, State.replied, Link.afterRequest, Link.answer, hr, h]

end Answers

/-- Settles O3: the request executed, its reply placed and shaped by its code, and the two answers of the link. -/
theorem executedRequestGetsOneReply : Obligations.ExecutedRequestGetsOneReply := by
  refine ⟨replyFrame_eq, fun s r rest hp hreset hr hfree => ?_⟩
  obtain ⟨reports, htx, hkind, hrequests, hrx⟩ := execute_link hr
  have hstep : step s = .next (execute r s) := by
    rw [step_idle hp, idle_of_reset_clear hreset, executeOldest_executes hr hfree]
  refine ⟨execute r s, (runCall r.call s).2, reports, hstep, ?_, hkind, hrequests, hrx, runCall_shaped s r.call,
    fun code => ⟨fun hc => ⟨by rw [hc]; rfl, ?_⟩, fun hc => ⟨by rw [hc]; rfl, ?_⟩⟩⟩
  · rw [htx, replyFrame_eq]
  · exact execute_answers hr (by rw [hc]; nofun) (by rw [hc]; rfl)
  · exact execute_answers hr (by rw [hc]; nofun) (by rw [hc]; rfl)

end Sys2Proof.Machine
end

section
/-! PROOFS. Sleeper records in a request body (11 "Sleeper record", R179): where each part of a record ends, and a
record written as bytes read back. -/

namespace Sys2Proof.Machine

/-! ## Words and masks -/

theorem wordBytes_append (v : BitVec 16) (l : List Byte) :
    wordBytes v ++ l = v.extractLsb' 8 8 :: v.extractLsb' 0 8 :: l := rfl

theorem longBytes_append (v : BitVec 32) (l : List Byte) : longBytes v ++ l
    = v.extractLsb' 24 8 :: v.extractLsb' 16 8 :: v.extractLsb' 8 8 :: v.extractLsb' 0 8 :: l := rfl

theorem word2_wordBytes (v : BitVec 16) : word2 (v.extractLsb' 8 8) (v.extractLsb' 0 8) = v := by
  unfold word2
  rw [BitVec.extractLsb'_append_extractLsb'_eq_extractLsb' (by decide)]
  exact BitVec.extractLsb'_eq_self

theorem word4_longBytes (v : BitVec 32) :
    word4 (v.extractLsb' 24 8) (v.extractLsb' 16 8) (v.extractLsb' 8 8) (v.extractLsb' 0 8) = v := by
  unfold word4
  rw [BitVec.extractLsb'_append_extractLsb'_eq_extractLsb' (by decide),
    BitVec.extractLsb'_append_extractLsb'_eq_extractLsb' (by decide),
    BitVec.extractLsb'_append_extractLsb'_eq_extractLsb' (by decide)]
  exact BitVec.extractLsb'_eq_self

/-- Bit `i` of a mask byte is its `i`-th element. -/
theorem maskByte_getLsbD (l : List Bool) : ∀ i : Nat, i < 8 → (maskByte l).getLsbD i = l.getD i false := by
  induction l with
  | nil => intro i _; simp [maskByte]
  | cons b rest ih =>
    intro i hi
    rw [maskByte, BitVec.getLsbD_or, BitVec.getLsbD_shiftLeft]
    cases i with
    | zero => cases b <;> rfl
    | succ j =>
      have hfirst : (boolByte b).getLsbD (j + 1) = false := by cases b <;> simp [boolByte]
      rw [hfirst]
      simpa [hi] using ih j (by omega)

theorem ofNat_byte_toNat {n : Nat} (h : n ≤ 255) : (BitVec.ofNat 8 n).toNat = n := by
  rw [BitVec.toNat_ofNat]
  omega

/-! ## What each part of a record leaves -/

/-- The bytes behind the first `k`, where there are so many. -/
def skip? (k : Nat) (bytes : List Byte) : Option (List Byte) := if k ≤ bytes.length then some (bytes.drop k) else none

theorem skip?_zero (bytes : List Byte) : skip? 0 bytes = some bytes := if_pos (Nat.zero_le _)

theorem skip?_succ (k : Nat) (b : Byte) (bytes : List Byte) : skip? (k + 1) (b :: bytes) = skip? k bytes := by
  simp [skip?]

theorem skip?_nil (k : Nat) : skip? (k + 1) [] = none := if_neg (by simp)

/-- Two parts that follow each other. -/
theorem skip?_add (j k : Nat) (bytes : List Byte) : (skip? j bytes).bind (skip? k) = skip? (j + k) bytes := by
  induction j generalizing bytes with
  | zero => rw [skip?_zero, Option.bind_some, Nat.zero_add]
  | succ j ih =>
    rw [Nat.add_right_comm]
    cases bytes with
    | nil => rw [skip?_nil, skip?_nil]; rfl
    | cons b rest => rw [skip?_succ, skip?_succ, ih]

theorem readValue?_rest (present : Bool) (bytes : List Byte) :
    (readValue? present bytes).map Prod.snd = skip? (2 * present.toNat) bytes := by
  unfold readValue?
  cases present with
  | false => exact (skip?_zero bytes).symm
  | true =>
    match bytes with
    | [] => rfl
    | [_] => rfl
    | _ :: _ :: rest => rw [Bool.toNat_true, skip?_succ, skip?_succ, skip?_zero]; rfl

theorem readHeads?_rest (n : Nat) (bytes : List Byte) : (readHeads? n bytes).map Prod.snd = skip? (3 * n) bytes := by
  induction n generalizing bytes with
  | zero => exact (skip?_zero bytes).symm
  | succ n ih =>
    match bytes with
    | [] => rfl
    | [_] => simp [readHeads?, skip?]; omega
    | [_, _] => simp [readHeads?, skip?]; omega
    | head :: h :: l :: rest =>
      rw [readHeads?, Option.map_map, Nat.mul_succ, skip?_succ, skip?_succ, skip?_succ, ← ih rest]
      rfl

/-- A part read, then what is read behind it: only the end of each part matters to the end of both. -/
theorem map_snd_bind {α β : Type} {x : Option (α × List Byte)} {k : Nat} {bytes : List Byte}
    (hx : x.map Prod.snd = skip? k bytes) {f : α × List Byte → Option (β × List Byte)} {m : Nat}
    (hf : ∀ p, (f p).map Prod.snd = skip? m p.2) : (x.bind f).map Prod.snd = skip? (k + m) bytes := by
  rw [← skip?_add, ← hx]
  cases x with
  | none => rfl
  | some p => exact hf p

/-- The optional parts end where the presence byte and the number of heads say. -/
theorem readOptional?_rest (presence count : Byte) (bytes : List Byte) (r : WireRecord) :
    (readOptional? presence count bytes r).map Prod.snd
      = skip? (2 * (List.range 5).countP (fun k => presence.getLsbD k) + 3 * count.toNat) bytes := by
  have hcount : 2 * (List.range 5).countP (fun k => presence.getLsbD k) + 3 * count.toNat
      = 2 * (presence.getLsbD 0).toNat + (2 * (presence.getLsbD 1).toNat + (2 * (presence.getLsbD 2).toNat
        + (2 * (presence.getLsbD 3).toNat + (2 * (presence.getLsbD 4).toNat + (3 * count.toNat + 0))))) := by
    have hrange : List.range 5 = [0, 1, 2, 3, 4] := rfl
    simp only [hrange, List.countP_cons, List.countP_nil, Bool.toNat, ← Bool.cond_eq_ite]
    omega
  rw [hcount]
  refine map_snd_bind (readValue?_rest _ _) fun _ => map_snd_bind (readValue?_rest _ _) fun _ =>
    map_snd_bind (readValue?_rest _ _) fun _ => map_snd_bind (readValue?_rest _ _) fun _ =>
    map_snd_bind (readValue?_rest _ _) fun _ => map_snd_bind (readHeads?_rest _ _) fun p => ?_
  exact (skip?_zero p.2).symm

theorem afterRecord_eq {presence count : Byte} {bytes : List Byte} (hpresence : bytes[19]? = some presence)
    (hcount : bytes[20]? = some count) : afterRecord bytes
      = skip? (2 * (List.range 5).countP (fun k => presence.getLsbD k) + 3 * count.toNat + 21) bytes := by
  simp only [afterRecord, hpresence, hcount, skip?, Nat.add_comm _ 21, Nat.add_assoc]

/-- A record ends where its own lengths say: a body without its 21 fixed bytes holds none. -/
theorem readRecord?_rest (bytes : List Byte) : (readRecord? bytes).map Prod.snd = afterRecord bytes := by
  iterate 21
    obtain _ | ⟨_, bytes⟩ := bytes
    · rfl
  rw [readRecord?, readOptional?_rest, afterRecord_eq rfl rfl]
  simp only [skip?_succ]

/-- The announced records are read exactly where the body ends with the last of them (11 R179). -/
theorem readRecords?_isSome (n : Nat) (bytes : List Byte) :
    (readRecords? n bytes).isSome = true ↔ afterRecords n bytes = some [] := by
  induction n generalizing bytes with
  | zero => cases bytes <;> simp [readRecords?, afterRecords]
  | succ n ih =>
    rw [readRecords?, afterRecords, ← readRecord?_rest]
    cases readRecord? bytes with
    | none => simp
    | some p => simpa using ih p.2

/-! ## A record written and read back -/

/-- The bytes of one optional value of a record: its own two, or none. -/
def valueBytes (o : Option (BitVec 16)) : List Byte := ([o].filterMap id).flatMap bytes2

theorem readValue?_written (o : Option (BitVec 16)) (rest : List Byte) :
    readValue? o.isSome (valueBytes o ++ rest) = some (o, rest) := by
  cases o with
  | none => rfl
  | some v => simp [readValue?, valueBytes, bytes2_eq_wordBytes, wordBytes, word2_wordBytes]

theorem readHeads?_written (heads : List (Byte × BitVec 16)) (rest : List Byte) :
    readHeads? heads.length (heads.flatMap (fun e => e.1 :: bytes2 e.2) ++ rest) = some (heads, rest) := by
  induction heads with
  | nil => rfl
  | cons e heads ih =>
    simp only [List.flatMap_cons, bytes2_eq_wordBytes, wordBytes, List.cons_append, List.nil_append, List.length_cons,
      readHeads?, word2_wordBytes]
    simp only [bytes2_eq_wordBytes, wordBytes] at ih
    rw [ih]
    rfl

/-- The five optional values, one behind the other. -/
theorem values_flatMap (a b c d e : Option (BitVec 16)) : ([a, b, c, d, e].filterMap id).flatMap bytes2
    = valueBytes a ++ (valueBytes b ++ (valueBytes c ++ (valueBytes d ++ valueBytes e))) := by
  simp only [valueBytes, ← List.flatMap_append, ← List.filterMap_append]
  rfl

theorem recordPresence_bits (r : WireRecord) : (recordPresence r).getLsbD 0 = r.eF.isSome
    ∧ (recordPresence r).getLsbD 1 = r.eFv.isSome ∧ (recordPresence r).getLsbD 2 = r.liftOverride.isSome
    ∧ (recordPresence r).getLsbD 3 = r.shiftOverride.isSome ∧ (recordPresence r).getLsbD 4 = r.branchLift.isSome :=
  ⟨maskByte_getLsbD _ 0 (by decide), maskByte_getLsbD _ 1 (by decide), maskByte_getLsbD _ 2 (by decide),
    maskByte_getLsbD _ 3 (by decide), maskByte_getLsbD _ 4 (by decide)⟩

theorem recordPresence_spare (r : WireRecord) : (recordPresence r).extractLsb' 5 3 = r.spare := by
  apply BitVec.eq_of_getLsbD_eq
  intro i hi
  rw [BitVec.getLsbD_extractLsb', decide_eq_true hi, Bool.true_and, recordPresence, maskByte_getLsbD _ _ (by omega)]
  match i, hi with
  | 0, _ => rfl
  | 1, _ => rfl
  | 2, _ => rfl

/-- The optional parts of a record, read with its own presence byte and number of heads. -/
theorem readOptional?_written {r : WireRecord} (h : r.heads.length ≤ 255) (rest : List Byte) (fixed : WireRecord) :
    readOptional? (recordPresence r) (BitVec.ofNat 8 r.heads.length)
      (valueBytes r.eF ++ (valueBytes r.eFv ++ (valueBytes r.liftOverride ++ (valueBytes r.shiftOverride
        ++ (valueBytes r.branchLift ++ (r.heads.flatMap (fun e => e.1 :: bytes2 e.2) ++ rest)))))) fixed
    = some ({ fixed with
        eF := r.eF, eFv := r.eFv, liftOverride := r.liftOverride, shiftOverride := r.shiftOverride
        branchLift := r.branchLift, heads := r.heads }, rest) := by
  obtain ⟨hp0, hp1, hp2, hp3, hp4⟩ := recordPresence_bits r
  simp only [readOptional?, hp0, hp1, hp2, hp3, hp4, readValue?_written, ofNat_byte_toNat h, readHeads?_written,
    Option.bind_eq_bind, Option.bind_some]

/-- A record's own bytes, at the front of a body, read back as the record. -/
theorem readRecord?_written {r : WireRecord} (h : r.heads.length ≤ 255) (rest : List Byte) :
    readRecord? (wireRecordBytes r ++ rest) = some (r, rest) := by
  have hoptional := readOptional?_written h rest
  simp only [bytes2_eq_wordBytes] at hoptional
  simp only [wireRecordBytes, values_flatMap, bytes2_eq_wordBytes, bytes4_eq_longBytes, wordBytes_append,
    longBytes_append, List.append_assoc, List.cons_append, List.nil_append, readRecord?, hoptional,
    word2_wordBytes, word4_longBytes, recordPresence_spare]

theorem readRecords?_written {records : List WireRecord} (h : ∀ r ∈ records, r.heads.length ≤ 255) :
    readRecords? records.length (records.flatMap wireRecordBytes) = some records := by
  induction records with
  | nil => rfl
  | cons r records ih =>
    obtain ⟨hr, hrest⟩ := List.forall_mem_cons.1 h
    rw [List.flatMap_cons, List.length_cons, readRecords?, readRecord?_written hr, Option.bind_some, ih hrest]
    rfl

theorem readRule?_written (rule : WireRule) : readRule? (wireRuleBytes rule) = some rule := by
  simp only [wireRuleBytes, bytes2_eq_wordBytes, bytes4_eq_longBytes, wordBytes, longBytes, List.cons_append,
    List.nil_append, readRule?, word2_wordBytes, word4_longBytes]

end Sys2Proof.Machine
end

section
/-! PROOFS. Codes and bodies of the 27 requests (11 "Requests", R179): the link's two checks, and a request written as
bytes read back. -/

namespace Sys2Proof.Machine

/-! ## A body of fixed length

Each arm of `readCall` but three is one of these readers, by computation: the arguments of a body of just so many bytes,
BAD_LENGTH for any other. -/

def read1 (code : Byte) (f : Byte → Call) : List Byte → Call
  | [a] => f a
  | _ => .badLength code

def read2 (code : Byte) (f : Byte → Byte → Call) : List Byte → Call
  | [a, b] => f a b
  | _ => .badLength code

def read3 (code : Byte) (f : Byte → Byte → Byte → Call) : List Byte → Call
  | [a, b, c] => f a b c
  | _ => .badLength code

def read4 (code : Byte) (f : Byte → Byte → Byte → Byte → Call) : List Byte → Call
  | [a, b, c, d] => f a b c d
  | _ => .badLength code

def read5 (code : Byte) (f : Byte → Byte → Byte → Byte → Byte → Call) : List Byte → Call
  | [a, b, c, d, e] => f a b c d e
  | _ => .badLength code

theorem bare_badLength {code : Byte} {c : Call} (h : c ≠ .badLength code) (body : List Byte) :
    bare c code body = .badLength code ↔ body.length ≠ 0 := by
  match body with
  | [] => exact iff_of_false h (not_not_intro rfl)
  | _ :: _ => exact iff_of_true rfl (Nat.succ_ne_zero _)

theorem read1_badLength {code : Byte} {f : Byte → Call} (h : ∀ a, f a ≠ .badLength code) (body : List Byte) :
    read1 code f body = .badLength code ↔ body.length ≠ 1 := by
  match body with
  | [a] => exact iff_of_false (h a) (not_not_intro rfl)
  | [] | _ :: _ :: _ => simp [read1]

theorem read2_badLength {code : Byte} {f : Byte → Byte → Call} (h : ∀ a b, f a b ≠ .badLength code)
    (body : List Byte) : read2 code f body = .badLength code ↔ body.length ≠ 2 := by
  match body with
  | [a, b] => exact iff_of_false (h a b) (not_not_intro rfl)
  | [] | [_] | _ :: _ :: _ :: _ => simp [read2]

theorem read3_badLength {code : Byte} {f : Byte → Byte → Byte → Call} (h : ∀ a b c, f a b c ≠ .badLength code)
    (body : List Byte) : read3 code f body = .badLength code ↔ body.length ≠ 3 := by
  match body with
  | [a, b, c] => exact iff_of_false (h a b c) (not_not_intro rfl)
  | [] | [_] | [_, _] | _ :: _ :: _ :: _ :: _ => simp [read3]

theorem read4_badLength {code : Byte} {f : Byte → Byte → Byte → Byte → Call}
    (h : ∀ a b c d, f a b c d ≠ .badLength code) (body : List Byte) :
    read4 code f body = .badLength code ↔ body.length ≠ 4 := by
  match body with
  | [a, b, c, d] => exact iff_of_false (h a b c d) (not_not_intro rfl)
  | [] | [_] | [_, _] | [_, _, _] | _ :: _ :: _ :: _ :: _ :: _ => simp [read4]

theorem read5_badLength {code : Byte} {f : Byte → Byte → Byte → Byte → Byte → Call}
    (h : ∀ a b c d e, f a b c d e ≠ .badLength code) (body : List Byte) :
    read5 code f body = .badLength code ↔ body.length ≠ 5 := by
  match body with
  | [a, b, c, d, e] => exact iff_of_false (h a b c d e) (not_not_intro rfl)
  | [] | [_] | [_, _] | [_, _, _] | [_, _, _, _] | _ :: _ :: _ :: _ :: _ :: _ :: _ => simp [read5]

/-- A zone rule is read exactly from its 21 bytes. -/
theorem readRule?_isSome (bytes : List Byte) : (readRule? bytes).isSome = true ↔ bytes.length = 21 := by
  iterate 21
    obtain _ | ⟨_, bytes⟩ := bytes
    · exact iff_of_false Bool.false_ne_true (by simp)
  cases bytes with
  | nil => exact iff_of_true rfl rfl
  | cons _ _ => exact iff_of_false Bool.false_ne_true (by simp)

/-- A WRITE_RULE body: the slot and the rule. -/
theorem readCall_writeRule (slot : Byte) (rest : List Byte) :
    readCall 0x20 (slot :: rest)
      = match readRule? rest with
        | some rule => .writeRule slot rule
        | none => .badLength 0x20 := rfl

theorem readCall_writeRule_badLength (body : List Byte) :
    readCall 0x20 body = .badLength 0x20 ↔ body.length ≠ 22 := by
  cases body with
  | nil => exact iff_of_true rfl (by simp)
  | cons slot rest =>
    rw [readCall_writeRule, List.length_cons, Ne, Nat.succ_inj, ← readRule?_isSome rest]
    cases readRule? rest with
    | none => exact iff_of_true rfl Bool.false_ne_true
    | some rule => exact iff_of_false nofun (not_not_intro rfl)

/-- A LOAD_RECORDS body: the page, the first place, the number of records and the records. -/
theorem readCall_loadRecords (page first n : Byte) (rest : List Byte) :
    readCall 0x11 (page :: first :: n :: rest)
      = match readRecords? n.toNat rest with
        | some records => .loadRecords page first records
        | none => .badLength 0x11 := rfl

theorem readCall_loadRecords_badLength (body : List Byte) :
    readCall 0x11 body = .badLength 0x11 ↔
      ¬ ∃ (page first n : Byte) (rest : List Byte), body = page :: first :: n :: rest
        ∧ afterRecords n.toNat rest = some [] := by
  match body with
  | [] | [_] | [_, _] => exact iff_of_true rfl (by simp)
  | page :: first :: n :: rest =>
    have hend : (∃ (page' first' n' : Byte) (rest' : List Byte),
        page :: first :: n :: rest = page' :: first' :: n' :: rest' ∧ afterRecords n'.toNat rest' = some [])
        ↔ (readRecords? n.toNat rest).isSome = true := by
      simp [readRecords?_isSome]
    rw [hend, readCall_loadRecords]
    cases readRecords? n.toNat rest with
    | none => exact iff_of_true rfl Bool.false_ne_true
    | some records => exact iff_of_false nofun (not_not_intro rfl)

/-! ## The link's two checks (11 R179) -/

theorem readCall_of_not_mem {code : Byte} (h : code.toNat ∉ requestTable.map Prod.fst) (body : List Byte) :
    readCall code body = .unknownCode code := by
  unfold readCall
  split
  case h_28 => rfl
  all_goals
    rename_i hcode
    exact absurd (hcode ▸ by decide) h

/-- Every code but that of LOAD_RECORDS takes the body length of its row. -/
theorem readCall_badLength {code : Byte} {n : Nat} (h : (code.toNat, some n) ∈ requestTable) (body : List Byte) :
    readCall code body = .badLength code ↔ body.length ≠ n := by
  have hcode : ∀ k : Byte, code.toNat = k.toNat → code = k := fun _ => BitVec.eq_of_toNat_eq
  simp only [requestTable, List.mem_cons, Prod.mk.injEq, Option.some.injEq, List.not_mem_nil, or_false, reduceCtorEq,
    and_false, false_or] at h
  rcases h with ⟨hk, rfl⟩ | ⟨hk, rfl⟩ | ⟨hk, rfl⟩ | ⟨hk, rfl⟩ | ⟨hk, rfl⟩ | ⟨hk, rfl⟩ | ⟨hk, rfl⟩ | ⟨hk, rfl⟩
    | ⟨hk, rfl⟩ | ⟨hk, rfl⟩ | ⟨hk, rfl⟩ | ⟨hk, rfl⟩ | ⟨hk, rfl⟩ | ⟨hk, rfl⟩ | ⟨hk, rfl⟩ | ⟨hk, rfl⟩ | ⟨hk, rfl⟩ | ⟨hk, rfl⟩
    | ⟨hk, rfl⟩ | ⟨hk, rfl⟩ | ⟨hk, rfl⟩ | ⟨hk, rfl⟩ | ⟨hk, rfl⟩ | ⟨hk, rfl⟩ | ⟨hk, rfl⟩ | ⟨hk, rfl⟩
  · rw [hcode 0x01 hk]
    exact read5_badLength (f := fun id v3 v2 v1 v0 => .setParam id (word4 v3 v2 v1 v0)) nofun body
  · rw [hcode 0x02 hk]; exact read1_badLength (f := .getParam) nofun body
  · rw [hcode 0x03 hk]; exact bare_badLength (c := .restart) nofun body
  · rw [hcode 0x10 hk]; exact read1_badLength (f := .openPage) nofun body
  · rw [hcode 0x12 hk]; exact read3_badLength (f := .closePage) nofun body
  · rw [hcode 0x13 hk]; exact read1_badLength (f := .discardPage) nofun body
  · rw [hcode 0x14 hk]; exact read2_badLength (f := .readRecord) nofun body
  · rw [hcode 0x20 hk]; exact readCall_writeRule_badLength body
  · rw [hcode 0x21 hk]; exact read1_badLength (f := .readRule) nofun body
  · rw [hcode 0x22 hk]; exact bare_badLength (c := .clearRules) nofun body
  · rw [hcode 0x28 hk]; exact read2_badLength (f := fun m1 m0 => .setManualMask (word2 m1 m0)) nofun body
  · rw [hcode 0x29 hk]
    exact read4_badLength (f := fun v3 v2 v1 v0 => .setChainage (word4 v3 v2 v1 v0)) nofun body
  · rw [hcode 0x30 hk]; exact read2_badLength (f := .startRun) nofun body
  · rw [hcode 0x31 hk]; exact bare_badLength (c := .pause) nofun body
  · rw [hcode 0x32 hk]; exact bare_badLength (c := .resume) nofun body
  · rw [hcode 0x33 hk]; exact bare_badLength (c := .confirm) nofun body
  · rw [hcode 0x34 hk]; exact bare_badLength (c := .skipSleeper) nofun body
  · rw [hcode 0x35 hk]; exact bare_badLength (c := .abortSleeper) nofun body
  · rw [hcode 0x36 hk]; exact bare_badLength (c := .retamp) nofun body
  · rw [hcode 0x37 hk]; exact bare_badLength (c := .stopRun) nofun body
  · rw [hcode 0x38 hk]; exact bare_badLength (c := .clearStop) nofun body
  · rw [hcode 0x40 hk]; exact read1_badLength (f := .readResults) nofun body
  · rw [hcode 0x41 hk]; exact read1_badLength (f := .releaseResults) nofun body
  · rw [hcode 0x42 hk]; exact bare_badLength (c := .getStatus) nofun body
  · rw [hcode 0x43 hk]; exact read1_badLength (f := .getCounters) nofun body
  · rw [hcode 0x44 hk]; exact read1_badLength (f := .clearEvents) nofun body

/-! ## Every request -/

/-- A call has the code of its row. -/
theorem requestTable_row {c : Call} {k : Nat} (h : requestRow c = some k) :
    ∃ length : Option Nat, requestTable[k]? = some ((callCode c).toNat, length) := by
  cases c with
  | badLength _ | unknownCode _ => cases h
  | _ => cases h; exact ⟨_, rfl⟩

/-- What the number bytes of a body can carry: at most 255 records and 255 heads in each. A call the link answers itself
has no bytes of its own. -/
def Encodable : Call → Prop
  | .loadRecords _ _ records => records.length ≤ 255 ∧ ∀ x ∈ records, x.heads.length ≤ 255
  | .badLength _ => False
  | .unknownCode _ => False
  | _ => True

theorem readCall_written {c : Call} (h : Encodable c) : readCall (callCode c) (callBody c) = c := by
  cases c with
  | setParam id value =>
    rw [callBody, bytes4_eq_longBytes]
    exact congrArg (Call.setParam id) (word4_longBytes value)
  | loadRecords page first records =>
    obtain ⟨hrecords, hheads⟩ := h
    have hread := readCall_loadRecords page first (BitVec.ofNat 8 records.length) (records.flatMap wireRecordBytes)
    rw [ofNat_byte_toNat hrecords, readRecords?_written hheads] at hread
    exact hread
  | writeRule slot rule =>
    have hread := readCall_writeRule slot (wireRuleBytes rule)
    rw [readRule?_written] at hread
    exact hread
  | setManualMask mask =>
    rw [callBody, bytes2_eq_wordBytes]
    exact congrArg Call.setManualMask (word2_wordBytes mask)
  | setChainage value =>
    rw [callBody, bytes4_eq_longBytes]
    exact congrArg Call.setChainage (word4_longBytes value)
  | badLength _ | unknownCode _ => exact h.elim
  | _ => rfl

/-- Settles O5: the table by the rows of the calls, the link's two checks by the arms of the reader, and the read
back by the calls, where the values, the records and the zone rules carry it. -/
theorem readBackOfEncodedRequest : Obligations.ReadBackOfEncodedRequest := by
  refine ⟨fun _ _ => requestTable_row,
    fun code body => ⟨fun h => ?_, fun n h => readCall_badLength h body, fun h => ?_⟩,
    fun c h => readCall_written ?_⟩
  · refine readCall_of_not_mem (fun hmem => ?_) body
    obtain ⟨row, hrow, hcode⟩ := List.mem_map.1 hmem
    exact h row hrow hcode
  · obtain rfl : code = 0x11 := BitVec.eq_of_toNat_eq h
    exact readCall_loadRecords_badLength body
  · cases c <;> exact h

end Sys2Proof.Machine
end

section
/-! PROOFS. A step with a command waiting (00 scope); with none waiting it is `step_idle`. -/

namespace Sys2Proof.Machine

/-- Settles O1: of the two arms of a step, a queue with a front command selects the one that carries it out. -/
theorem stepRunsFrontCommand : Obligations.StepRunsFrontCommand := by
  intro c rest s hfront
  rw [step, hfront]

end Sys2Proof.Machine
end
